-- ==== Sys2Proof/Word.lean ====
section
/-! DEFINITION. The byte, byte strings and tables keyed by a number: the plainest data of the model.
Multi-byte fields are little-endian (R6); the readers and writers of fields are in Machine/Bytes.lean. -/

namespace Sys2Proof

/-- One byte. -/
abbrev Byte := BitVec 8

/-- A string of bytes, in increasing address order ("Field types" of chapter 00). -/
abbrev Bytes := List Byte

/-- A table keyed by a number: key slots by index, counters by ID, strands by strand ID, and so on.
An absent key reads as the default the reader gives. -/
abbrev Tbl (α : Type) := List (Nat × α)

end Sys2Proof
end

