-- ==== Sys2Proof/Types.lean ====
section
/-! DEFINITION. The data types of the model: the operands that commands and events carry, and the parts
the device's state is made of. A field's default value is its value at reset. -/

namespace Sys2Proof

/-! ### Operands -/

/-- A mailbox command as it stands in the command buffer when GO is written (R36, Table 2-6); `fn` is the
submitting function and the command's code is the constructor's. -/
structure MbxReq where
  fn : Nat
  flags : Nat := 0
  tag : Nat := 0
  len : Nat := 0
  session : Nat := 0
  rsv : Bytes := []
  payload : Bytes := []
deriving DecidableEq, Repr

/-- A fragment list entry (Table 2-11). -/
structure Frag where
  addr : Nat
  len : Nat
  flags : Nat := 0
deriving DecidableEq, Repr

/-- A job descriptor without its OPCODE, which the constructor names (Table 2-10). -/
structure Desc where
  flags : Nat := 3
  tag : Nat := 0
  key : Nat := 0
  context : Nat := 0xFFFFFFFF
  srcList : Nat := 0
  dstList : Nat := 0
  srcCount : Nat := 0
  dstCount : Nat := 0
  totalLen : Nat := 0
  aadLen : Nat := 0
  param : Bytes := []
  eventRing : Nat := 0
  rsv : Bytes := []
deriving DecidableEq, Repr

/-- A job as its ring delivers it: the descriptor, the two fragment lists and the source bytes as the DMA
reads them. `fetched` is false where the descriptor read fails on the link (R48); `dmaFail` is the offset at
which a fragment read fails (R54). -/
structure JobReq where
  fn : Nat
  ring : Nat
  desc : Desc := {}
  src : List Frag := []
  dst : List Frag := []
  data : Bytes := []
  fetched : Bool := true
  dmaFail : Option Nat := none
deriving DecidableEq, Repr

/-- What ends an exchange with a card before it answers: its removal (R318), or silence beyond its time (R321). -/
inductive CardCut where
  | removed | silent
deriving DecidableEq, Repr

/-- How one exchange with a card goes: what cuts it short, whether the card has acted all the same, and for each block in order how
many of its transmissions fail (R316). -/
structure ApduLink where
  cut : Option CardCut := none
  acted : Bool := true
  tries : List Nat := []
deriving DecidableEq, Repr

/-- How the exchanges of a command go, in order; those beyond the list go whole. -/
abbrev CardLink := List ApduLink

/-- The two register windows (R30). -/
inductive Bar where
  | bar0 | bar2
deriving DecidableEq, Repr

/-- How an engine ends a job beside its computed result: nothing wrong, a twin or inverse mismatch (R149), a
parity error (R15), a read of the key that its check fails on (R285), an internal fault (R22, R194), or a failed DMA access at
an offset (R54). -/
inductive JobOutcome where
  | good | twin | parity | keyParity | fault | dma (offset : Nat)
deriving DecidableEq, Repr

/-- The main rails, in their sequence (Table 16-1). -/
inductive Rail where
  | vio | vddh | vcore | vser
deriving DecidableEq, Repr

/-- The 12 V feeds. -/
inductive Feed where
  | a | b
deriving DecidableEq, Repr

/-- The Hawser paths. -/
inductive Path where
  | a | b
deriving DecidableEq, Repr

/-- The checkers of Table 17-2. -/
inductive Checker where
  | twinCompare | inverseCheck | flailPath | residue | releaseCompare | lockstep | wainParity | sramParity
  | granary | keyBus | purgeStrobe | loftErase | watchdog | heartbeat | channels | evaluators
deriving DecidableEq, Repr

/-- A unit that can be withdrawn (R476). -/
inductive EngineUnit where
  | aes (floor core : Nat) | flail (core : Nat) | stone (n : Nat) | hand (n : Nat)
deriving DecidableEq, Repr

/-- A key-bus port of a floor, or a Mill group key port (R151, R201). -/
inductive KeyPort where
  | floor (f : Nat) | group (g : Nat)
deriving DecidableEq, Repr

/-- A fault in a stone (R218, R219, R221): `point` is the check of ECDH's points on the stone that fails. -/
inductive StoneFault where
  | clean | residue | parity | iterations | noRandom | point
deriving DecidableEq, Repr

/-- A content digest that a Flail core computes: the frame's SEQ, and whether the core's two datapaths agree (R126, R194). -/
structure DigestEnd where
  seq : Nat
  datapathOk : Bool := true
deriving DecidableEq, Repr

/-- A link that goes down: the port's slot, whether a high bit-error rate is the cause (Table 3-10), and the FEC codewords since its
last frame that were and could not be corrected (R100). -/
structure LinkLoss where
  slot : Nat
  hiBer : Bool := false
  corrected : Nat := 0
  uncorrected : Nat := 0
deriving DecidableEq, Repr

/-- What the link partner brings to a port: the Clause 73 base page with its abilities and requests (R76, R79), and
the modes (bit m is MODE m) and the FEC that it runs without negotiation (R78). -/
structure Partner where
  page : Nat := 0
  modes : Nat := 0
  fec : Nat := 0
deriving DecidableEq, Repr

/-- An Ethernet frame on a capture lane (Table 3-5): `tags` are its VLAN tags (TPID, TCI), `body` runs from
the byte after the EtherType to the byte before the FCS. `whole` is false where the link drops before its end;
`corrected` and `uncorrected` are the FEC codewords inside it that were and could not be corrected, `gapCorrected` and
`gapUncorrected` those since the frame before it (R100). -/
structure WireFrame where
  dst : Bytes
  src : Bytes
  tags : List (Nat × Nat) := []
  etherType : Nat := 0x88B5
  body : Bytes := []
  fcsOk : Bool := true
  whole : Bool := true
  corrected : Nat := 0
  uncorrected : Nat := 0
  gapCorrected : Nat := 0
  gapUncorrected : Nat := 0
deriving DecidableEq, Repr

/-- A HELLO frame (Table 14-3). -/
structure Hello where
  serial : Nat
  seat : Nat
  kid : Bytes
  nonce : Bytes
deriving DecidableEq, Repr

/-- What the units must have in common to pair, as the peer has it (R416): member and option, OWNER_KID and PARTS_ID. How the
key agreement carries it is the firmware release's, notes/assumptions/43.md. -/
structure PeerUnit where
  member : Nat
  optionN : Bool
  ownerKid : Bytes
  partsId : Bytes
deriving DecidableEq, Repr

/-- A KEYEX frame (R417): what it carries of the units, and the message and signatures. -/
structure Keyex where
  peer : PeerUnit
  body : Bytes
deriving DecidableEq, Repr

/-- What protects a keyed Hawser frame as it arrives (R395, R396): its SEQ and its tag. -/
structure FrameSeal where
  seq : Nat := 1
  tag : Bytes := []
deriving DecidableEq, Repr

/-- A HEARTBEAT payload (Table 14-4). -/
structure Heartbeat where
  serial : Nat
  tick : Nat
  role : Nat
  seat : Nat
  hitch : Nat
  alarm : Nat
  update : Nat
  copy : Nat
  paths : Nat
  epoch : Nat
  acked : Nat
  fieldOut : Nat
  fieldSeq : Nat
  partsId : Bytes
deriving DecidableEq, Repr

/-- A Lanyard request (R383). `reservedOp` is the OP where it is none of Table 13-8; `busy` says that the target cannot take it yet,
and `parity` that the access meets a parity error. -/
structure LnyReq where
  target : Nat
  count : Nat := 0
  addr : Nat := 0
  wdata : List Nat := []
  crc : Nat := 0
  reservedOp : Option Nat := none
  busy : Bool := false
  parity : Bool := false
deriving DecidableEq, Repr

/-- The TAP instructions (R387). -/
inductive TapInstr where
  | bypass | samplePreload | extest | clamp | highz | extestPulse | extestTrain
deriving DecidableEq, Repr

/-- What is done over the TAP (R387): Test-Logic-Reset, or an instruction and, with it, a scan of the data register that it selects:
the levels of the balls at Capture-DR, and the bits shifted in, the first first. -/
structure TapOp where
  reset : Bool := false
  instr : TapInstr := .bypass
  pins : List Bool := []
  tdi : Option (List Bool) := none
deriving DecidableEq, Repr

/-- The TAP (R387): the instruction in force; the bypass register; the boundary register's shift stage and update stage; the bits last
shifted out; what the balls of the boundary register carry where it is not the system's (`none` of a ball: off); and the AC test that runs
on the SerDes lanes. -/
structure Tap where
  instr : TapInstr := .bypass
  bypass : Bool := false
  boundary : List Bool := []
  latched : List Bool := []
  tdo : List Bool := []
  forced : Option (List (Option Bool)) := none
  acTest : Option TapInstr := none
deriving DecidableEq, Repr

/-- What an ATR says (R316): TA1, TA2, whether it offers T=1, whether it requires CRC, IFSC, and the class indicator. -/
structure Atr where
  ta1 : Nat := 0x11
  ta2 : Option Nat := none
  t1 : Bool := true
  crc : Bool := false
  ifsc : Nat := 32
  classes : Option Nat := none
deriving DecidableEq, Repr

/-- How the blocks of an exchange end (R316, R320). -/
inductive LineEnd where
  | good | relink | mute
deriving DecidableEq, Repr

/-- A block as it goes over a slot's lines (R320). -/
structure CardBlock where
  io : Bytes
  c4 : Bytes
deriving DecidableEq, Repr

/-- A tally card in a slot: what READ_STATE returns (Table 11-2), its PIN and the private half of its key; and how it answers
activation: its ATR at class C and at class B (empty: none begins), whether the PPS exchange succeeds, its answer to MODE_SET, and
how the exchanges of the activation go (R317). -/
structure Card where
  cardId : Bytes := []
  state : Nat := 0
  pinTries : Nat := 5
  caps : Nat := 0
  commit : Nat := 0
  lastDigest : Bytes := []
  pub : Bytes := []
  priv : Bytes := []
  pin : Bytes := []
  atrC : Bytes := [0x3B, 0x80, 0x01, 0x81]
  atrB : Bytes := [0x3B, 0x80, 0x01, 0x81]
  ppsOk : Bool := true
  modeSw : Nat := 0x9000
  links : CardLink := []
deriving DecidableEq, Repr

/-! ### Keys, counters, time, the Ledger (chapter 10) -/

/-- The key held in a slot (R287–R289). `cls` is the class of Table 0-5; `session` marks a session slot of a sheaf
instance, which no client can name (R274). -/
structure KeySlot where
  session : Bool := false
  cls : Nat := 0
  type : Nat := 1
  set : Nat := 256
  attr : Nat := 0
  material : Bytes := []
  invocation : Nat := 0
  damaged : Bool := false
deriving DecidableEq, Repr

/-- A slot's wear-table entry (R282): generation and lifetime advances. -/
structure Wear where
  gen : Nat := 0
  advances : Nat := 0
deriving DecidableEq, Repr

/-- A counter entry (R299, R514). -/
structure Counter where
  value : Nat := 0
  allocated : Bool := false
  attr : Nat := 0
  damaged : Bool := false
deriving DecidableEq, Repr

/-- A slot write that has begun and not committed (R152, R293): the new content (`none` erases), whether the
generation advances, and the mailbox, or the KEY_GENERATE operation `op`, that waits for it. -/
structure SlotWrite where
  index : Nat
  content : Option KeySlot
  newGen : Bool
  fn : Nat
  code : Nat
  tag : Nat
  payload : Bytes
  reply : Bytes
  purgeClass : Nat
  op : Option Nat := none
deriving DecidableEq, Repr

/-- The Almanac (R302–R307): `crystalFrac` is the part of a microsecond, in 10^-9, that the crystal's steps have left over,
`crystalSum` and `crystalCount` are the sum and the number of the crystal's measurements, whose mean is `crystalPpb`, and
`newEpoch` says that the next cold reset begins the device epoch (R302). -/
structure Almanac where
  offset : Int := 0
  leap : Nat := 0
  offsetSet : Bool := false
  timeLost : Bool := false
  lowRate : Bool := false
  lastRef : Nat := 0
  refSet : Bool := false
  uncertainty : Nat := 0
  setTick : Nat := 0
  pllUs : Nat := 0
  crystalUs : Nat := 0
  crystalPpb : Int := 0
  crystalSum : Int := 0
  crystalCount : Nat := 0
  crystalFrac : Nat := 0
  newEpoch : Bool := false
  store : Nat := 0
  timeKey : Nat := 0
deriving DecidableEq, Repr

/-- A Ledger entry (Table 10-7). -/
structure LedgerEntry where
  seq : Nat
  tick : Nat
  type : Nat
  source : Nat
  client : Nat
  tag : Nat
  status : Nat
  detail : Nat
  data : Bytes
  prev : Bytes
deriving DecidableEq, Repr

/-- The Ledger: the retained entries oldest first, the SEQ counter 0x7_FF01 and the entries whose read is
damaged (R309–R311, R285). -/
structure Ledger where
  entries : List LedgerEntry := []
  seq : Nat := 0
  damaged : List Nat := []
deriving DecidableEq, Repr

/-! ### The host side (chapter 02) -/

/-- MBX_STATUS.STATE (Table 2-5). -/
inductive MbxState where
  | idle | busy | done | notReady
deriving DecidableEq, Repr

/-- A session (R42–R44). -/
structure Session where
  index : Nat
  serial : Nat
  cred : Nat
  auth : Bool := false
  challenge : Bytes := []
  expires : Nat := 0
  idleS : Nat := 300
  lastUse : Nat := 0
deriving DecidableEq, Repr

/-- An enrolled credential (R45). -/
structure Credential where
  alg : Nat
  key : Bytes
deriving DecidableEq, Repr

/-- A deferred operation that runs (R41), with the session it came under (R44). `gone` is the level of a purge that reached it
(R153). -/
structure DefOp where
  no : Nat
  code : Nat
  tag : Nat
  started : Nat
  payload : Bytes
  file : Option Bytes := none
  link : CardLink := []
  gone : Nat := 0
  silent : Bool := false
  session : Nat := 0
deriving DecidableEq, Repr

/-- An event entry as the device composes it (Table 2-13), with its record. `job` names the job ring and the job that a
JOB_DONE completes. -/
structure Event where
  type : Nat
  status : Nat := 0
  tag : Nat := 0
  flags : Nat := 0
  detail : Nat := 0
  inline : Bytes := []
  record : Bytes := []
  tick : Nat := 0
  unsolicited : Bool := false
  job : Option (Nat × Nat) := none
deriving DecidableEq, Repr

/-- An event ring (Table 2-12), the record places (start, length) of the entries not consumed, the events that wait
in their order, the number dropped since the last LOST event, and the interrupt coalescing (R56–R61): `oldest` and the fields
after it are the time of the oldest entry not signalled and the settings that it was written under; `neverFits` says that the record
of an event dropped since the last LOST event could never fit (R58). -/
structure EventRing where
  base : Nat := 0
  enable : Bool := false
  enabled : Bool := false
  cfgErr : Bool := false
  sizeLog2 : Nat := 0
  vector : Nat := 1
  mask : Bool := false
  cons : Nat := 0
  prod : Nat := 0
  wbAddr : Nat := 0
  recBase : Nat := 0
  recSize : Nat := 0
  coalCount : Nat := 1
  coalUsec : Nat := 0
  dropped : Nat := 0
  seq : Nat := 0
  live : List (Nat × Nat) := []
  recNext : Nat := 0
  queue : List Event := []
  lost : Nat := 0
  unsignalled : Nat := 0
  oldest : Nat := 0
  oldUsec : Nat := 0
  oldVector : Nat := 1
  oldMask : Bool := false
  neverFits : Bool := false
deriving DecidableEq, Repr

/-- A job ring (Table 2-9). -/
structure JobRing where
  base : Nat := 0
  enable : Bool := false
  priority : Nat := 0
  sizeLog2 : Nat := 0
  prod : Nat := 0
  cons : Nat := 0
  halted : Bool := false
  cause : Nat := 0
  errIndex : Nat := 0
  session : Nat := 0
deriving DecidableEq, Repr

/-- What a BUSY mailbox waits for: a slot write's commit (R293), the write of a slot before the command is
checked (`retry`, R293), an acknowledged epoch (R405), a SHADOW_ACK (R413), a switchover, whose last epoch is out once its frames have left (R418), or a Steward that
is halted (R386): `go` holds the whole command. -/
inductive HeldFor where
  | commit (index : Nat)
  | retry (index : Nat)
  | epoch (id value : Nat)
  | shadow (fieldSeq started : Nat)
  | switchover (epoch : Option Nat)
  | go (q : MbxReq)
deriving DecidableEq, Repr

/-- A command a BUSY mailbox holds, with its session (R44) and the turn at which the Steward took it (R293). -/
structure Held where
  code : Nat
  tag : Nat
  payload : Bytes
  why : HeldFor
  turn : Nat := 0
  session : Nat := 0
deriving DecidableEq, Repr

/-- One PCIe function's own state (BAR0, R34): mailbox, sessions, rings; `fetches` counts the descriptors fetched in second
`fetchSec` of the tick (R345). -/
structure Fn where
  state : MbxState := .notReady
  rejectedGo : Bool := false
  mbxDone : Bool := false
  ringHalt : Bool := false
  notice : Bool := false
  intMask : Nat := 0
  cmdBuf : Bytes := []
  rspBuf : Bytes := []
  mbxSeq : Nat := 0
  held : Option Held := none
  opNo : Nat := 0
  ops : List DefOp := []
  sessions : List Session := []
  serials : Tbl Nat := []
  job : Tbl JobRing := []
  event : Tbl EventRing := []
  busMaster : Bool := true
  msixOn : Bool := true
  msixTable : Tbl Nat := []
  msixPba : List Nat := []
  msixSent : List Nat := []
  fetchSec : Nat := 0
  fetches : Nat := 0
deriving DecidableEq, Repr

/-- What is kept of a client in the settings region: its credentials, its consecutive failures and the end of
a lockout (R44, R45). -/
structure Client where
  creds : Tbl Credential := []
  failures : Nat := 0
  lockEnd : Nat := 0
deriving DecidableEq, Repr

/-- A posted write to host memory, in order (R59), with the No Snoop attribute of its fragment (R51). -/
structure HostWrite where
  addr : Nat
  bytes : Bytes
  noSnoop : Bool := false
deriving DecidableEq, Repr

/-- A read of a source fragment in host memory, with the attributes that its FLAGS give it (R51). -/
structure HostRead where
  addr : Nat
  len : Nat
  noSnoop : Bool := false
  relaxed : Bool := false
deriving DecidableEq, Repr

/-! ### Cipher and digest contexts, jobs (chapters 05–07) -/

/-- The open message of a context: the whole source so far (R162). -/
structure Message where
  opcode : Nat
  key : Nat := 0
  param : Bytes := []
  iv : Bytes := []
  aad : Bytes := []
  data : Bytes := []
deriving DecidableEq, Repr

/-- A context (R168, R169, R187): the holder, the open message, a message that has ended with a status and
awaits its FINAL (R163), whether that was a digest (R190), and remembered digest parameters. -/
structure Context where
  holder : Nat
  floor : Nat := 0
  msg : Option Message := none
  ended : Option (Nat × Nat) := none
  endedDigest : Bool := false
  remembered : Option (Nat × Bytes) := none
deriving DecidableEq, Repr

/-- A verification policy (Table 8-5). -/
structure Policy where
  access : Nat := 3
  chipAuth : Nat := 1
  ta : Nat := 0
  crlMissing : Nat := 0
  crlStale : Nat := 0
  expiredDoc : Nat := 0
  sha1 : Nat := 0
  tunnel : Nat := 1
  dgRead : Nat := 0x4006
  dgRequired : Nat := 0x0006
  dgRelease : Nat := 0x0002
  apduMs : Nat := 2000
  sessionS : Nat := 30
  client : Nat := 0
  ring : Nat := 0
deriving DecidableEq, Repr

/-- The engine a job runs on. -/
inductive Engine where
  | thresher | flail | mill | hand
deriving DecidableEq, Repr

/-- How far a job has come: it waits for its turn, a floor, a stone or a slot; it runs; its result waits for the
release check or a verdict's signature; its result waits for the host interface or, of work of the device itself, for use; its output waits for Bus Master Enable
(R54). -/
inductive Stage where
  | queued | running | checking | finished | delivering
deriving DecidableEq, Repr

/-- Work that the device itself asks of the Mill and the Flail (R193, R224): the signatures of a strand's seal, of a verdict, of an
OPEN_RESP, of the verdict of a sheaf instance's action, the key pair of a KEY_GENERATE, and of the Hands the key agreement of an
opening or a rekey, and operation `k` of an offline document or of a chip session. -/
inductive OwnWork where
  | seal (strand : Nat) | verdict (no : Nat) | opening (strand : Nat) | action (key tag : Nat) | keyPair (fn no : Nat)
  | agree (strand : Nat) | rekey (strand : Nat) | document (job k : Nat) | chip (strand k : Nat)
deriving DecidableEq, Repr

/-- An operation that a Hand asks of the Mill or the Flail: its job opcode, the SET or the digest's ALG, the handle of the key that it
loads, and the bytes digested. -/
structure HandOp where
  engine : Engine := .mill
  op : Nat
  set : Nat := 0
  key : Nat := 0
  len : Nat := 0
deriving DecidableEq, Repr

/-- A fetched job that has not completed (R53–R55): the request as fetched, its place in the queues (R172, R224) as queue,
since when and the turn it took at the queue's tail, whether a core runs a slice of it and which Flail core, the tick at which
it loaded its key, the Hand that serves it (R21), the key it loaded with its slot and IV, its stones, its computed result,
the verification policy it started under (R238), for a job of a sheaf action the instance and the action's tag (R274), for work
of the device itself what it signs, for a digest the message that it goes on with, the session of its ring (R44), the AES cores that its slice runs on, lead and check
(R146), and of a Hand's work the operations that it asks of the engines. -/
structure Job where
  id : Nat
  opcode : Nat
  engine : Engine
  req : JobReq
  stage : Stage := .queued
  priority : Nat := 0
  queue : Nat := 0
  since : Nat := 0
  context : Option Nat := none
  floor : Nat := 0
  stone : Option Nat := none
  check : Option Nat := none
  displaced : Bool := false
  restarted : Bool := false
  twinned : Bool := false
  keyIndex : Option Nat := none
  custody : Bool := false
  key : Bytes := []
  iv : Bytes := []
  rest : Nat := 0
  status : Nat := 0
  detail : Nat := 0
  out : Bytes := []
  inline : Bytes := []
  sheaf : Option (Nat × Nat) := none
  turn : Nat := 0
  onCore : Bool := false
  core : Option Nat := none
  loadedAt : Option Nat := none
  hand : Option Nat := none
  policy : Option Policy := none
  own : Option OwnWork := none
  carried : Option Message := none
  session : Nat := 0
  cores : List Nat := []
  asks : Option (List HandOp) := none
deriving DecidableEq, Repr

/-- A floor (chapters 01, 03, 05): power, key-bus fence, cores withdrawn or retired, Bins held, link PAUSE and when it was
last sent, and by core what its key register holds: the last key loaded, and whether it is of custody class (R150, R153). -/
structure Floor where
  awake : Bool := false
  fenced : Bool := false
  withdrawn : List Nat := []
  retired : List Nat := []
  used : Nat := 0
  pausing : Bool := false
  lastPause : Nat := 0
  keyRegs : Tbl (Bytes × Bool) := []
deriving DecidableEq, Repr

/-- The state of a stone (R26, R222, R476). -/
inductive StoneState where
  | gated | waking | idle | busy | wiping | withdrawn | retired
deriving DecidableEq, Repr

/-- A stone and its job, with what its operand RAM, its key register and its multiplier registers hold (R222). -/
structure Stone where
  state : StoneState := .gated
  job : Option Nat := none
  since : Nat := 0
  custody : Bool := false
  afterWipe : StoneState := .idle
  ram : Bytes := []
  keyReg : Bytes := []
  mult : Bytes := []
deriving DecidableEq, Repr

/-- The Hatch registers (Table 5-7) and its operation: `starting` waits for its slot (R152), `inBlock` has a submitted block
in the core; `runOp`, `runIv` and `runTagLen` are what the operation took at START; `keyBytes` is the core's key register, which keeps
the last key loaded (R150); `aadCut` and `dataCut` are the bytes of the last AAD and data block that LAST_BYTES leaves out; `wanted`
says that the Steward waits for the lock (R181). -/
structure Hatch where
  tag : Nat := 0
  client : Nat := 0
  internal : Bool := false
  held : Bool := false
  lastUse : Nat := 0
  key : Nat := 0
  op : Nat := 0
  phase : Nat := 0
  lastBytes : Nat := 0
  tagLen : Nat := 16
  busy : Bool := false
  ready : Bool := false
  outValid : Bool := false
  done : Bool := false
  notHeld : Bool := false
  result : Nat := 0
  iv : Bytes := []
  tagReg : Bytes := []
  din : Bytes := []
  dout : Bytes := []
  finishing : Bool := false
  starting : Bool := false
  inBlock : Bool := false
  runOp : Nat := 0
  runIv : Bytes := []
  runTagLen : Nat := 16
  wanted : Bool := false
  keyBytes : Bytes := []
  aad : Bytes := []
  data : Bytes := []
  aadCut : Nat := 0
  dataCut : Nat := 0
  pendingOut : Bytes := []
deriving DecidableEq, Repr

/-- The Flail fall-back registers (Table 6-5) and its digest: `cut` bytes of the last word are left out by LAST_BYTES,
`core` is the core that works on it, and `turn` its turn in the queue of priority 3 (R197). -/
structure FlailPath where
  alg : Nat := 0
  lastBytes : Nat := 0
  busy : Bool := false
  ready : Bool := false
  done : Bool := false
  result : Nat := 0
  din : Bytes := []
  out : Bytes := []
  runAlg : Nat := 0
  data : Bytes := []
  finishing : Bool := false
  inWord : Bool := false
  valid : Bool := false
  cut : Nat := 0
  core : Option Nat := none
  turn : Nat := 0
deriving DecidableEq, Repr

/-- A curve present in the Mill (Table 7-2). -/
structure Curve where
  id : Nat
  form : Nat
  cofactor : Nat
  pBits : Nat
  nBits : Nat
  ops : Nat
  origin : Nat := 0
  tableId : Bytes := []
  p : Nat := 0
  a : Nat := 0
  b : Nat := 0
  gx : Nat := 0
  gy : Nat := 0
  n : Nat := 0
deriving DecidableEq, Repr

/-! ### Ports, strands, seals (chapters 03, 04) -/

/-- A stored port configuration (Table 3-4). -/
structure PortCfg where
  admin : Nat := 0
  lanes : Nat := 1
  an : Nat := 1
  medium : Nat := 0
  fecAllow : Nat := 0
  modeAllow : Nat := 0
  forcedMode : Nat := 0
  forcedFec : Nat := 0
  pauseRx : Nat := 0
  pauseTx : Nat := 0
  vlan : Nat := 0
  holdKib : Nat := 0
  mac : Bytes := List.replicate 6 0
deriving DecidableEq, Repr

/-- A frame the port is to send: `kind` is its TYPE (Table 3-7), or 0x100 for a link PAUSE, and `dst` its destination.
`bytes` runs from after the EtherType to before the FCS; `eth`, through the EtherType, is set when the frame starts (R80).
`held` are the Bins bytes it frees, `turn` its turn of arrival at the egress gate (R95). -/
structure TxFrame where
  kind : Nat
  strand : Nat := 0
  seq : Nat := 0
  turn : Nat := 0
  dst : Bytes := []
  eth : Bytes := []
  bytes : Bytes := []
  held : Nat := 0
deriving DecidableEq, Repr

/-- A port (Tables 3-10, 3-11): configuration, link, flow control, the two transmit queues (R95) and the frame
being sent, counters by their order in Table 3-11 with the latched high dwords (R100). -/
structure Port where
  cfg : PortCfg := {}
  absorbed : Bool := false
  lead : Nat := 0
  up : Bool := false
  anDone : Bool := false
  ltDone : Bool := false
  pcsLock : Bool := false
  fecLock : Bool := false
  hiBer : Bool := false
  changes : Nat := 0
  mode : Nat := 0
  fec : Nat := 0
  symPause : Bool := false
  asymPause : Bool := false
  ability : Nat := 0
  rxPausedUntil : Nat := 0
  rxPaused : Bool := false
  txPausing : Bool := false
  sending : Option TxFrame := none
  unkeyed : Nat := 0
  unkeyedSec : Nat := 0
  ctrlQ : List TxFrame := []
  dataQ : List TxFrame := []
  counters : Tbl Nat := []
  latched : Tbl Nat := []
deriving DecidableEq, Repr

/-- The configuration STRAND_CONFIG stores (Table 4-13). -/
structure StrandCfg where
  ingress : Nat := 0
  egress : Nat := 0
  flags : Nat := 0
  archiveKey : Nat := 0
  segPeriod : Nat := 100000
  scannerMac : Bytes := []
  archiveMac : Bytes := []
  rekeyS : Nat := 0
  scannerId : Bytes := []
deriving DecidableEq, Repr

/-- The states of Table 4-1. -/
inductive StrandState where
  | unused | armed | keying | opened | held | closing
deriving DecidableEq, Repr

/-- A knot (Table 4-6). -/
structure Knot where
  kind : Nat := 1
  flags : Nat := 0
  strand : Nat := 0
  payloadLen : Nat := 0
  seq : Nat := 0
  captureTime : Nat := 0
  arrival : Nat := 0
  archiveKey : Nat := 0
  epoch : Nat := 0
  unitKind : Nat := 0
  unitInfo : Nat := 0
  aux : Nat := 0
  sourceTag : Bytes := []
  contentDigest : Bytes := []
  prev : Bytes := []
deriving DecidableEq, Repr

/-- How far the archive encryption of a frame has come: none is needed, it runs, it runs again after a twin
failure, or it is done (R127, R131). -/
inductive Enc where
  | notNeeded | pending | retry | sealed (cipher tag : Bytes)
deriving DecidableEq, Repr

/-- A knot on its way through the knot builder (R17, R104). A DATA frame brings its payload, the archive key it
loaded with the slot's index, and its IV; `held` are its Bins bytes; `ack` says that an ACK carries the knot; `turn` is
its turn of arrival at the egress gate (R95); `twinned` and `cores` are the form and the AES cores of its encryption (R146, R148). -/
structure Release where
  knot : Knot
  ack : Bool := true
  payload : Bytes := []
  keyIndex : Nat := 0
  key : Bytes := []
  iv : Bytes := []
  digested : Bool := false
  enc : Enc := .notNeeded
  held : Nat := 0
  turn : Nat := 0
  twinned : Bool := true
  cores : List Nat := []
deriving DecidableEq, Repr

/-- Where a window slot stands (R118, R126). -/
inductive SlotState where
  | verifying | digesting | ready
deriving DecidableEq, Repr

/-- A frame in the ordering window (R118), with the form and the AES cores of its verification (R146, R148). -/
structure WSlot where
  seq : Nat
  header : Bytes
  payload : Bytes
  tag : Bytes
  arrival : Nat
  state : SlotState := .verifying
  digest : Bytes := []
  twinned : Bool := true
  cores : List Nat := []
deriving DecidableEq, Repr

/-- A seal record (Table 4-10) without its signatures, and the handles of the keys that sign it; `waited` marks a seal that waited
for the seal keys, which SEAL_LATE has counted (R142). -/
structure Seal where
  kind : Nat
  flags : Nat
  strand : Nat
  sealNo : Nat
  serial : Nat
  tick : Nat
  segStart : Nat
  firstSeq : Nat
  lastSeq : Nat
  knots : Nat
  epoch : Nat
  head : Bytes
  prevSeal : Bytes
  ecdsaKid : Bytes
  mldsaKid : Bytes
  boundary : Nat
  ecdsaKey : Nat := 0
  mldsaKey : Nat := 0
  waited : Bool := false
deriving DecidableEq, Repr

/-- An item at the egress gate: a chained knot with its frame if it has one, or a signed seal record (R136). -/
inductive GateItem where
  | knot (r : Release)
  | sealed (x : Seal) (record : Bytes)
deriving DecidableEq, Repr

/-- An event waiting for the strand's Hand, in arrival order (R21): an UNKEYED OPEN_REQ from a port (R106), and for
sheaf instances a strand state change or a RESUME (Table 9-5). A keyed CTRL message waits in the ordering window. -/
inductive CtrlEvent where
  | unkeyed (slot : Nat) (src : Bytes) (body : Bytes)
  | strandChange (old new reason : Nat)
  | resume (seq : Nat)
deriving DecidableEq, Repr

/-- What EF.CardAccess offers for PACE (Table 8-1): the mapping (1 Generic on DH, 2 Generic on ECDH, 3 Chip Authentication on
ECDH, 0 another), the cipher (1 3DES, 2 to 4 AES-128 to AES-256, 0 another) and the standardized domain parameters (none where
they are given explicitly). -/
structure PaceInfo where
  mapping : Nat
  cipher : Nat
  param : Option Nat
deriving DecidableEq, Repr

/-- Where the Hand is in a chip session (R247): reading EF.CardAccess, PACE, BAC, reading a file (data group `n`; 0 is EF.SOD),
verifying the PACE-CAM mapping, Chip Authentication, the read under its keys, Active Authentication, reading EF.CVCA, Terminal
Authentication with the chain `id`, or at the verdict. -/
inductive ChipPhase where
  | cardAccess
  | pace (i : PaceInfo)
  | bac
  | file (n : Nat)
  | mapping
  | chipAuth
  | proof
  | activeAuth
  | cvca
  | terminal (id : Nat)
  | verdict
deriving DecidableEq, Repr

/-- A chip session (R244–R248): the policy as it stood at CHIP_BEGIN, the R-APDUs received, the last knot of the session, the
draw its random values come from; the phase and how many R-APDUs came before it; the files still to read and those read; the
access, chip and terminal authentication done so far (method, status, subcode); the windows of the Terminal Authentication chain;
the session slots its keys are in (R274), whether it has its share of the floor's release space and waits for it (R249); the Hand
that served its last event, and when (R479); what it asks of the engines while the Hand waits for them (R224) and that they have done
it; that the hub has ended it before its end (R248). -/
structure ChipSession where
  session : Nat
  policyNo : Nat
  policy : Policy
  pwdKind : Nat
  pwd : Bytes
  maxC : Nat
  maxR : Nat
  begun : Nat
  firstSeq : Nat
  seed : Nat
  exchange : Nat := 0
  outstanding : Bool := false
  cmdTick : Nat := 0
  transcript : List Bytes := []
  lastSeq : Nat := 0
  apduHead : Bytes := []
  phase : ChipPhase := .cardAccess
  mark : Nat := 0
  access : Nat := 0
  toRead : List Nat := []
  tried : List Nat := []
  sod : Option Bytes := none
  dgs : List (Nat × Bytes) := []
  chipAuth : Option (Nat × Nat × Nat) := none
  ta : Option (Nat × Nat × Nat) := none
  taWindows : List (Nat × Nat) := []
  slots : List Nat := []
  space : Bool := false
  waiting : Bool := false
  served : Option (Nat × Nat) := none
  asks : Option (List HandOp) := none
  made : Bool := false
  early : Bool := false
deriving DecidableEq, Repr

/-- The counters of STRAND_STATUS, which saturate and are cleared at each opening (R141). -/
structure StrandCounts where
  knots : Nat := 0
  seals : Nat := 0
  tagFail : Nat := 0
  gaps : Nat := 0
  duplicates : Nat := 0
  late : Nat := 0
  windowDrop : Nat := 0
  frozenDrop : Nat := 0
  twin : Nat := 0
  unknownCtrl : Nat := 0
  sealLate : Nat := 0
deriving DecidableEq, Repr

/-- A keyed hub frame that waits for an acknowledged epoch (R405): its TYPE, key epoch, payload and AUX. -/
structure HubMsg where
  kind : Nat
  epoch : Nat
  payload : Bytes
  aux : Bytes
deriving DecidableEq, Repr

/-- A strand (chapter 04): its configuration and keys, the ordering window from NEXT, with the slots below the highest
verified SEQ that are empty and since when (`empty`) and those that a NAK has listed (`missing`), the knot builder (`todo`,
`building`), the egress gate (`gate`), seals and timers. -/
structure Strand where
  state : StrandState := .unused
  cfg : StrandCfg := {}
  epoch : Nat := 0
  classical : Bool := false
  prevClassical : Bool := false
  scannerFixed : Bytes := []
  hubFixed : Bytes := []
  peerMac : Bytes := []
  th : Bytes := []
  certDigest : Bytes := []
  next : Nat := 1
  highest : Nat := 0
  window : List WSlot := []
  missing : List (Nat × Nat) := []
  empty : List (Nat × Nat) := []
  lastNak : Nat := 0
  tagFailed : List Nat := []
  twinFailed : List Nat := []
  gapRuns : List (Nat × Nat) := []
  gapKnots : List Knot := []
  todo : List Release := []
  building : Option Release := none
  gate : List GateItem := []
  head : Bytes := []
  headSeq : Nat := 0
  headEpoch : Nat := 0
  acked : Option Knot := none
  counts : StrandCounts := {}
  sinceSeal : Nat := 0
  firstSince : Nat := 0
  singleCore : Bool := false
  sealNo : Nat := 0
  prevSeal : Bytes := []
  lastSealTick : Nat := 0
  sealAt : Nat := 0
  boundary : Nat := 0
  nextBoundary : Nat := 0
  openTick : Nat := 0
  sealQ : List Seal := []
  sealWait : Option (Nat × Nat) := none
  segTagFails : Nat := 0
  heldBytes : Nat := 0
  pausing : Bool := false
  lastPause : Nat := 0
  keyingEnd : Nat := 0
  rekeySeq : Option Nat := none
  rekeyEnd : Nat := 0
  epochStart : Nat := 0
  asked : Bool := false
  nearAsked : Bool := false
  closeEnd : Option Nat := none
  reason : Nat := 0
  heldFor : Nat := 0
  closeAtThaw : Bool := false
  hubWait : List HubMsg := []
  ctrl : List CtrlEvent := []
  chip : Option ChipSession := none
deriving DecidableEq, Repr

/-- A strand as a state-copy record or a durable record holds it (Table 14-6, R140). -/
structure StrandCopy where
  state : StrandState := .unused
  cfg : StrandCfg := {}
  epoch : Nat := 0
  classical : Bool := false
  scannerFixed : Bytes := []
  hubFixed : Bytes := []
  peerMac : Bytes := []
  next : Nat := 1
  head : Bytes := []
  headSeq : Nat := 0
  sealNo : Nat := 0
  prevSeal : Bytes := []
  sinceSeal : Nat := 0
  firstSince : Nat := 0
  openTick : Nat := 0
  boundary : Nat := 0
  heldFor : Nat := 0
deriving DecidableEq, Repr

/-- An event subscription (R143). -/
structure Subscription where
  client : Nat
  first : Nat
  last : Nat
  ring : Nat
  kinds : Nat
deriving DecidableEq, Repr

/-- Names of signing keys and their certificate (SEAL_KEY_SET, VERDICT_KEY_SET). -/
structure SignKeys where
  alg : Nat := 1
  ecdsa : Nat := 0
  mldsa : Nat := 0
  cert : Bytes := []
  named : Bool := false
deriving DecidableEq, Repr

/-! ### Documents (chapter 08) -/

/-- What an X.509 certificate says (R232, R239, R241). -/
structure CertInfo where
  issuer : Bytes := []
  subject : Bytes := []
  serial : Bytes := []
  aki : Bytes := []
  ski : Bytes := []
  country : Bytes := []
  issuerCountry : Bytes := []
  notBeforeText : Bytes := []
  notAfterText : Bytes := []
  notBefore : Nat := 0
  notAfter : Nat := 0
  keyBits : Nat := 0
  curve : Nat := 0
  pub : Bytes := []
  tbs : Bytes := []
  sig : Bytes := []
  sigAlg : Nat := 0
  sigHash : Nat := 0
  selfSigned : Bool := false
deriving DecidableEq, Repr

/-- A trust-store entry (Table 8-4). -/
inductive TrustEntry where
  | csca (der : Bytes) (info : CertInfo) (link : Bool)
  | crl (issuer : Nat) (der : Bytes) (country : Bytes) (thisUpdate nextUpdate : Nat) (serials : List Bytes)
  | chain (key : Nat) (car chr : Bytes) (country : Bytes) (start stop : Nat) (certs : List Bytes)
deriving DecidableEq, Repr

/-- A cached DS certificate (R237): its digest, its content and the CSCA it was verified under. -/
structure DsEntry where
  digest : Bytes
  info : CertInfo
  csca : Nat
deriving DecidableEq, Repr

/-- What the parse of an SOD gives (R241). -/
structure SodInfo where
  issuer : Bytes := []
  serial : Bytes := []
  hashAlg : Nat := 0
  sigAlg : Nat := 0
  sigHash : Nat := 0
  signed : Bytes := []
  sig : Bytes := []
  attrsOk : Bool := true
  dsDer : Bytes := []
  dgHashes : List (Nat × Bytes) := []
deriving DecidableEq, Repr

/-- What a CSCA master list holds (R232). -/
structure MasterList where
  certs : List Bytes := []
  signer : Bytes := []
  signed : Bytes := []
  sig : Bytes := []
  sigAlg : Nat := 0
  sigHash : Nat := 0
deriving DecidableEq, Repr

/-- What a CRL says (R233). -/
structure CrlInfo where
  issuer : Bytes := []
  aki : Bytes := []
  thisText : Bytes := []
  nextText : Bytes := []
  thisUpdate : Nat := 0
  nextUpdate : Nat := 0
  serials : List Bytes := []
  tbs : Bytes := []
  sig : Bytes := []
  sigAlg : Nat := 0
  sigHash : Nat := 0
deriving DecidableEq, Repr

/-- What a CV certificate says (R234): its dates are the six digits YYMMDD, one a byte. -/
structure CvCert where
  car : Bytes := []
  chr : Bytes := []
  country : Bytes := []
  pub : Bytes := []
  effective : Bytes := []
  expires : Bytes := []
  body : Bytes := []
  sig : Bytes := []
  sigAlg : Nat := 0
  sigHash : Nat := 0
deriving DecidableEq, Repr

/-- How a protocol with the chip ends: it succeeds, fails with a subcode of Table 8-9, or needs an algorithm that Table 8-1 does
not list. -/
inductive Shown where
  | passed
  | failed (subcode : Nat)
  | unsupported
deriving DecidableEq, Repr

/-- A C-APDU (ISO/IEC 7816-4): CLA, INS, P1, P2; the data; the response bytes asked for, 0 for none. -/
structure CApdu where
  header : Bytes := []
  data : Bytes := []
  le : Nat := 0
deriving DecidableEq, Repr

/-- Where a phase of the chip exchange stands: its next C-APDU, or its end: what it showed, the file it read (the signature, for
Active Authentication), the PACE offers or the CARs it found, the session keys it derived, encryption and MAC, and what the step asks
of the Mill: opcode and SET (R224). -/
structure ChipStep where
  next : Option CApdu := none
  shown : Shown := .passed
  file : Option Bytes := none
  offers : List PaceInfo := []
  cars : List Bytes := []
  keys : Option (Bytes × Bytes) := none
  mill : List (Nat × Nat) := []
deriving DecidableEq, Repr

/-- What DG14 says: the Chip Authentication it offers (0 none, 1 version 1, 2 version 2, else another), its cipher as in `PaceInfo` (0
also where the agreement is none of Table 8-1), and the hash of Active Authentication with ECDSA, by ALG. -/
structure Dg14Info where
  version : Nat := 0
  cipher : Nat := 0
  hash : Nat := 0
deriving DecidableEq, Repr

/-- The key of DG15: 1 RSA with ISO/IEC 9796-2 scheme 1, 2 ECDSA, 0 another. -/
structure Dg15Info where
  alg : Nat := 0
  pub : Bytes := []
deriving DecidableEq, Repr

/-- What DG1 says; the date of expiry is YYMMDD in ASCII. -/
structure Dg1Info where
  issuingState : Bytes := []
  expiry : Bytes := []
deriving DecidableEq, Repr

/-- A verdict whose signature is being made (R252), by the keys of two handles. `job` is its offline job, else it goes to a strand and
an event ring, and `space` says that it holds its session's share of the release space (R249). -/
structure Verdict where
  no : Nat
  record : Bytes
  result : Nat
  alg : Nat
  job : Option Nat := none
  strand : Nat := 0xFFFF
  session : Nat := 0
  client : Nat := 0
  ring : Nat := 0
  extra : Bytes := []
  space : Bool := false
  ecdsa : Nat := 0
  mldsa : Nat := 0
deriving DecidableEq, Repr

/-! ### Sheaves (chapter 09) -/

/-- A step-table state (Table 9-8). -/
structure SState where
  first : Nat
  count : Nat
  transient : Bool
deriving DecidableEq, Repr

/-- A step-table transition (Table 9-8). -/
structure STrans where
  event : Nat
  guard : Nat
  a : Nat
  b : Nat
  target : Nat
  nact : Nat
  firstAct : Nat
  loopMax : Nat
deriving DecidableEq, Repr

/-- A step-table action (Table 9-9). -/
structure SAct where
  op : Nat
  x : Nat
  y : Nat
  z : Nat
deriving DecidableEq, Repr

/-- A step table (Tables 9-7, 9-8). -/
structure StepTable where
  initial : Nat
  bound : Nat
  msgFirst : Nat
  msgLast : Nat
  states : List SState
  trans : List STrans
  acts : List SAct
  consts : List Nat
deriving DecidableEq, Repr

/-- A gleaner node (Table 9-11). -/
structure GNode where
  depth : Nat
  flags : Nat
  tag : Nat
  field : Nat
  enc : Nat
  minLen : Nat
  maxLen : Nat
  offset : Nat
  len : Nat
deriving DecidableEq, Repr

/-- A gleaner format (Table 9-11). -/
structure GFormat where
  syntaxKind : Nat
  depth : Nat
  nodes : List GNode
deriving DecidableEq, Repr

/-- A row of a verdict rule set. -/
structure RuleRow where
  check : Nat
  required : Bool
  onFail : Nat
deriving DecidableEq, Repr

/-- A verdict rule set. -/
structure RuleSet where
  hybrid : Bool
  rows : List RuleRow
deriving DecidableEq, Repr

/-- A loaded sheaf (R257–R263): `curveTables` is what its file holds of its curves, and `unreadable` says that the stored file could not
be read or has failed its verification (R259, R285). -/
structure Sheaf where
  name : Bytes
  version : Nat
  signer : Nat
  format : Nat
  total : Nat
  digest : Bytes
  tables : List StepTable
  formats : List GFormat
  curves : List Nat
  rules : List RuleSet
  unreadable : Bool := false
  curveTables : List Curve := []
deriving DecidableEq, Repr

/-- A binding of a step table to a strand (R264). -/
structure Binding where
  sheaf : Nat
  table : Nat
  client : Nat
  ring : Nat
deriving DecidableEq, Repr

/-- A verdict record that a VERDICT_EMIT is to sign, whether hybrid, and the handles of the keys (R277). -/
structure ToSign where
  record : Bytes
  hybrid : Bool
  ecdsa : Nat
  mldsa : Nat
deriving DecidableEq, Repr

/-- An asynchronous action outstanding (R273): its tag, the job it submitted if it is one, the verdict it is to sign, and, once it has completed, the status and output its DONE event carries. -/
structure Async where
  tag : Nat
  job : Option Nat := none
  verdict : Option ToSign := none
  done : Option (Nat × Bytes) := none
deriving DecidableEq, Repr

/-- A field: a run of bytes with its encoding (R265). -/
structure FieldRef where
  enc : Nat
  bytes : Bytes
deriving DecidableEq, Repr

/-- An open sheaf verdict (R277). -/
structure SheafVerdict where
  rules : Nat
  statuses : Tbl Nat := []
  subcodes : Tbl Nat := []
  data : Bytes := []
  firstSeq : Nat := 0
deriving DecidableEq, Repr

/-- The per-event working memory: fields, build area, payload and the specials (R265, Table 9-6). -/
structure EventCtx where
  kind : Nat
  payload : Bytes := []
  status : Nat := 0
  tag : Nat := 0
  msg : Nat := 0
  seq : Nat := 0
  timer : Nat := 0
  fields : Tbl FieldRef := []
  build : Bytes := []
deriving DecidableEq, Repr

/-- The part of an instance that an action fault restores (R270): state, cells, timers. -/
structure Core where
  state : Nat
  cells : List Nat
  timers : Tbl Nat
deriving DecidableEq, Repr

/-- An event stopped at a transition (R385): its working memory, the transition whose actions have not run, the loop
counts of its transient state, the steps taken, what a fault restores, and the tables it runs on. -/
structure Parked where
  ev : EventCtx
  trans : Nat
  loops : Tbl Nat
  steps : Nat
  before : Core
  table : StepTable
  formats : List GFormat
  rules : List RuleSet
deriving DecidableEq, Repr

/-- An instance of a bound step table (R265). `halt` marks it to park (R385), `ended` to end when its event under way
has completed (Table 9-13). `waiting` holds the events of its strand that wait while it is parked. `served` is what its last event found: the Hand
that served it, the tick, and the state, cells and timers before it (R479). -/
structure Instance where
  sheaf : Nat
  table : Nat
  state : Nat
  cells : List Nat
  timers : Tbl Nat := []
  asyncs : List Async := []
  verdict : Option SheafVerdict := none
  slots : Tbl Nat := []
  unhandled : Nat := 0
  faults : Nat := 0
  halt : Bool := false
  parked : Option Parked := none
  waiting : List (Nat × EventCtx) := []
  ended : Bool := false
  served : Option (Nat × Nat × Core) := none
deriving DecidableEq, Repr

/-- A sheaf signer's keys (R261). -/
structure Signer where
  ecdsa : Nat
  mldsa : Nat
deriving DecidableEq, Repr

/-! ### Cards and quorum (chapter 11) -/

/-- SLOT_STATE of CARD_STATUS (Table 11-5). -/
inductive SlotStatus where
  | empty | activating | ready | mute | refused | fault
deriving DecidableEq, Repr

/-- A tally-card slot: CLASS and the ATR of the activation in force, T=1's send number, and the blocks of the latest exchange as the
device sent them; `oneLine` holds a card to one-line mode until it is removed (R320). -/
structure CardSlot where
  status : SlotStatus := .empty
  card : Option Card := none
  twoLine : Bool := false
  verified : Bool := false
  fast : Bool := false
  oneLine : Bool := false
  cls : Nat := 0
  atr : Bytes := []
  ns : Nat := 0
  sent : List CardBlock := []
deriving DecidableEq, Repr

/-- An entry of the custody journal (Table 11-3) with the APDU data it keeps while unresolved (R323). -/
structure JournalEntry where
  jno : Nat
  state : Nat
  op : Nat
  slot : Nat
  officer : Nat
  commitBefore : Nat
  sw : Nat
  begun : Nat
  cardId : Bytes
  digest : Bytes
  settled : Nat
  apdu : Bytes
deriving DecidableEq, Repr

/-- The state of an officer record (R326). -/
inductive OfficerState where
  | active | locked | pending
deriving DecidableEq, Repr

/-- An officer record (R326). -/
structure Officer where
  cardId : Bytes
  pub : Bytes
  state : OfficerState
deriving DecidableEq, Repr

/-- An approval (R332, R333). -/
structure Approval where
  no : Nat
  code : Nat
  client : Nat
  digest : Bytes
  expires : Nat
  challenge : Bytes
  signers : List Nat := []
  approved : Bool := false
deriving DecidableEq, Repr

/-! ### The Scarecrow (chapter 12) -/

/-- A monitor's configuration and history (Tables 12-1, 12-8): `applied` is the level its present cause was raised
at, `recent` the ticks at which its latest events leave the window of 10 s (R340). -/
structure Monitor where
  level : Nat := 0
  threshold : Int := 0
  active : Bool := false
  applied : Nat := 0
  events : Nat := 0
  recent : List Nat := []
deriving DecidableEq, Repr

/-- A decision that has been made once (R355): an event of a monitor, the level it takes and what caps it, when its second evaluation
comes (in periods of the 4 MHz oscillator, four to a tick), and whether a cause begins with it: a failed test has none (R359). -/
structure Decision where
  monitor : Nat
  value : Nat
  level : Nat
  detect : Nat
  configured : Nat
  escalated : Bool := false
  due : Nat := 0
  cap : Nat := 5
  cause : Bool := true
deriving DecidableEq, Repr

/-- A Vigil log entry (Table 12-7). -/
structure VigilEntry where
  tick : Nat
  seq : Nat
  monitor : Nat
  level : Nat
  action : Nat
  supply : Nat
  value : Nat
  tj : Int
  vbatMv : Nat
deriving DecidableEq, Repr

/-- The log of an event whose response is done: the Ledger entry ALARM, the entry PURGE where it purged, and the ALARM event (R344,
R363). -/
structure AlarmLog where
  decision : Decision
  entry : Bytes
  purge : Option Bytes
  event : Event
deriving DecidableEq, Repr

/-- The Scarecrow: monitors, levels, decisions, the Loft, the Vigil log and the watchdog; `unlogged` holds what an event
detected earlier keeps from being logged (R353); `stopped` is a Steward that a
lockstep mismatch has stopped (R478). -/
structure Scarecrow where
  monitors : Tbl Monitor := []
  seen : Nat := 0
  latchSrc : Nat := 0
  count : Nat := 0
  latched : Nat := 0
  throttleEnd : Nat := 0
  throttled : Bool := false
  testing : Bool := false
  decisions : List Decision := []
  unlogged : List AlarmLog := []
  rootValid : Bool := true
  custodyValid : Bool := true
  reload : Nat := 0
  zerofill : Nat := 0
  zerofillEnd : Nat := 0
  onVbat : Bool := false
  vigil : List VigilEntry := []
  vigilLost : Nat := 0
  vigilSeq : Nat := 0
  compat : Nat := 0
  lastRefresh : Nat := 0
  wdogArmed : Bool := false
  wdogFired : Bool := false
  stopped : Bool := false
  motion : Option Nat := none
  lastTck : Option Nat := none
deriving DecidableEq, Repr

/-! ### Life-cycle and debug (chapter 13) -/

/-- The debug challenge (R380). -/
structure Challenge where
  level : Nat
  bytes : Bytes
  issued : Nat
  expires : Nat
  need : Nat
deriving DecidableEq, Repr

/-- The life-cycle fuses, the owner record and the debug level (R368–R382). -/
structure Life where
  rows : List Nat := [0x3F, 0x3F, 0x3F]
  lifecycle : Nat := 2
  claimed : Bool := false
  claimNo : Nat := 0
  ownerKey : Bytes := []
  ownerDigest : Bytes := []
  vendorDigest : Bytes := []
  vendorCred : Bytes := []
  purged : Bool := false
  debug : Nat := 0
  challenge : Option Challenge := none
  debugExpires : Nat := 0
deriving DecidableEq, Repr

/-- A Lanyard response (R383). -/
structure LnyResp where
  ack : Nat
  rdata : List Nat := []
  crc : Nat := 0
deriving DecidableEq, Repr

/-- The Lanyard's breakpoints, halted processors, trace, counters and last response (R383–R386). -/
structure Lanyard where
  sheafBps : List Nat := []
  procBps : List (Nat × Nat) := []
  halted : List Nat := []
  trace : List (List Nat) := []
  parkedIgnored : Nat := 0
  bpHits : Nat := 0
  memory : Tbl Nat := []
  resp : Option LnyResp := none
  tap : Tap := {}
deriving DecidableEq, Repr

/-! ### The pair (chapter 14) -/

/-- The pair roles (Table 14-1). -/
inductive Role where
  | solo | active | standby | resync | isolated
deriving DecidableEq, Repr

/-- The COPY mark (R402). -/
inductive CopyMark where
  | own | current | stale
deriving DecidableEq, Repr

/-- Where a Hitch claim stands (R400). -/
inductive Claim where
  | none | quiet (from_ : Nat) | window (from_ : Nat) | backoff (until_ : Nat)
deriving DecidableEq, Repr

/-- One Hawser path (R396, Tables 14-2, 14-10): `key` and `peerKey` are the two traffic keys, `hello` the peer's HELLO, `lastEnd` the latest
epoch whose end it has brought. -/
structure HawserPath where
  link : Bool := false
  up : Bool := false
  silent : Bool := false
  lastBeat : Option Nat := none
  fails : Nat := 0
  txSeq : Nat := 1
  nonce : Bytes := []
  peerNonce : Bytes := []
  key : Bytes := []
  peerKey : Bytes := []
  hello : Option Hello := none
  lastEnd : Nat := 0
deriving DecidableEq, Repr

/-- A Hawser frame sent: its path, type, SEQ and payload (Tables 14-2, 14-3), and its bytes on the path (R395, R396). -/
structure HawserTx where
  path : Path
  type : Nat
  seq : Nat
  payload : Bytes
  wire : Bytes
deriving DecidableEq, Repr

/-- PAIR_BEGIN's identity until PAIR_COMPLETE (R416, R420). -/
structure PairIdentity where
  peer : Nat
  join : Bool
  begun : Nat
  ecdsa : Bytes
  mldsa : Bytes
deriving DecidableEq, Repr

/-- A key agreement under way (R417). -/
structure KeyEx where
  fn : Nat
  op : Nat
  peer : Nat
  peerEcdsa : Bytes
  peerMldsa : Bytes
  started : Nat
  mine : Bytes := []
  ephemeral : Bytes := []
  kem : Bytes := []
  agreed : Bool := false
deriving DecidableEq, Repr

/-- The time as the pair shares it (R406, Table 14-6): the TAI offset and LEAP_S, with what R307 says of the TIME_SET they come
from; `set` is clear where none has been accepted. -/
structure TimeCopy where
  offset : Int := 0
  leap : Nat := 0
  set : Bool := false
  lost : Bool := false
  uncertainty : Nat := 0
  setTick : Nat := 0
  pllUs : Nat := 0
  crystalUs : Nat := 0
deriving DecidableEq, Repr

/-- One changed item as an epoch or bulk record carries it (R395, Table 14-6). -/
inductive CopyRecord where
  | key (index gen : Nat) (slot : Option KeySlot)
  | counter (id : Nat) (c : Counter)
  | base (value : Nat)
  | strand (id : Nat) (c : StrandCopy)
  | port (slot : Nat) (cfg : PortCfg)
  | twin (on : Bool)
  | compat (value : Nat)
  | monitor (m level : Nat) (threshold : Int)
  | policy (n : Nat) (p : Policy)
  | officer (n : Nat) (o : Option Officer)
  | quorum (m : Nat)
  | credential (client cred : Nat) (c : Option Credential)
  | sealKeys (k : SignKeys) (idle : Nat)
  | verdictKeys (k : SignKeys)
  | bindings (strand : Nat) (bs : List Binding)
  | trust (id : Nat) (e : Option TrustEntry)
  | sheaf (n : Nat) (s : Option Sheaf) (curves : List Curve)
  | scanner (ca : Bool) (id : Bytes) (present : Bool) (der : Bytes)
  | inst (key sheaf table : Nat) (c : Option Core)
  | trustNo (next : Nat)
  | time (t : TimeCopy)
  | fieldOut (value : Nat)
deriving DecidableEq, Repr

/-- Pair state (Tables 14-1, 14-10). `ackedValues` holds, of the counters that have moved since, the value in the last
epoch acknowledged (R405); `sentEpochs` the end and the counter values of each epoch not acknowledged; `sentStrands` what the
last epoch said of the strands; `copying` that a full copy has begun to arrive, and `copyNext` the epoch that is to be applied next after
it; `incoming` the records of the epochs that arrive and `ends` the RECORDS and DIGEST of those whose end has arrived (R404); `leaving`
that an alarm makes the unit hand over once its frames have left, and whether with a last epoch (R415); `early` a KEYEX frame that came
before PAIR_COMPLETE; `beatAt` and `beatPath` when and where the next heartbeat goes out (R397). -/
structure Pair where
  role : Role := .solo
  paired : Bool := false
  seat : Nat := 0
  peerSerial : Nat := 0
  pairKey : Bytes := []
  pairKid : Bytes := []
  keyGone : Bool := false
  copy : CopyMark := .own
  peerMayClaim : Bool := false
  degraded : Bool := false
  peerRole : Nat := 7
  peerAlarm : Nat := 0
  peerField : Nat := 0
  peerEpoch : Nat := 0
  peerParts : Bytes := []
  peerUpdate : Nat := 0
  peerReachable : Bool := false
  lastReason : Nat := 0
  hitchOut : Bool := false
  drivenSince : Nat := 0
  hitchIn : Bool := false
  hitchSince : Nat := 0
  collision : Bool := false
  lineFault : Bool := false
  claim : Claim := .none
  starting : Bool := false
  startDeadline : Nat := 0
  pathA : HawserPath := {}
  pathB : HawserPath := {}
  tagFails : Nat := 0
  tx : List HawserTx := []
  epoch : Nat := 0
  acked : Nat := 0
  lagging : Bool := false
  changes : List CopyRecord := []
  incoming : Tbl (Tbl CopyRecord) := []
  ends : Tbl (Nat × Bytes) := []
  copyNext : Option Nat := none
  leaving : Option Bool := none
  early : Option (Path × Keyex) := none
  beatAt : Nat := 0
  beatPath : Path := .a
  driven : Nat := 0
  fieldSeq : Nat := 0
  takeovers : Nat := 0
  gap : Nat := 0
  tickOffset : Int := 0
  peerOffset : Int := 0
  identity : Option PairIdentity := none
  keyex : Option KeyEx := none
  ackedValues : Tbl Nat := []
  sentEpochs : Tbl (Nat × Tbl Nat) := []
  sentStrands : Tbl StrandCopy := []
  copying : Bool := false
  lastAnnounce : Nat := 0
deriving DecidableEq, Repr

/-! ### Updates and start-up (chapter 15) -/

/-- The update phases. -/
inductive Phase where
  | idle | staging | staged | trial
deriving DecidableEq, Repr

/-- What a bank or a staged bale holds (Tables 15-1, 15-2). -/
structure BaleInfo where
  svn : Nat := 0
  versions : List Nat := [0, 0, 0, 0, 0, 0, 0]
  digests : List Bytes := []
  schema : Nat := 0
  schemaMin : Nat := 0
  pairFormat : Nat := 0
  pairFormatPrev : Nat := 0
  release : Bytes := []
  baleId : Bytes := []
deriving DecidableEq, Repr

/-- Where an activation stands (R436). -/
inductive Activation where
  | none | draining (fn op since : Nat) | pause (fn op since : Nat)
deriving DecidableEq, Repr

/-- What the settings region holds (R439): a trial's changes go to its shadow, and this is the copy that the old release
would start on. -/
structure SettingsCopy where
  clients : Tbl Client := []
  twin : Bool := true
  compat : Nat := 0
  ports : Tbl PortCfg := []
  strands : Tbl StrandCfg := []
  monitors : Tbl (Nat × Int) := []
  policies : Tbl Policy := []
  officers : Tbl Officer := []
  quorumM : Nat := 1
  sealKeys : SignKeys := {}
  sealIdle : Nat := 0
  verdictKeys : SignKeys := {}
  signers : Tbl Signer := []
  bindings : Tbl (List Binding) := []
  lock : Bool := false
deriving DecidableEq, Repr

/-- What the scrub finds (R284, R285): two copies that differ, of a settings line with their write counts, or a read that fails
(`settingsDamaged`: a settings line in both copies). -/
inductive ScrubFinding where
  | repaired (offset region : Nat)
  | counterCopies (id first second : Nat)
  | wearCopies (index : Nat) (first second : Wear)
  | settingsCopies (first second : Nat × SettingsCopy)
  | almanacCopies (first second : Nat)
  | settingsDamaged
  | keyDamaged (index : Nat)
  | counterDamaged (id : Nat)
  | trustDamaged (id : Nat)
  | sheafDamaged (n : Nat)
  | ledgerDamaged (seq : Nat)
deriving DecidableEq, Repr

/-- What is found at a cold start: whether each bank's parts verify (R446) and each copy of the bank-select word is valid (R435),
whether the settings can be read
and migrate (R447, R439), whether every part starts, the SEAT strap (R390), the monitors that fail SELF_TEST
(R359), whether the purge path passes its tests (R481), the stored sheaves that fail (R259), and what the start-up scrub finds
(R284). -/
structure StartEnv where
  bankAOk : Bool := true
  bankBOk : Bool := true
  word1Ok : Bool := true
  word2Ok : Bool := true
  settingsOk : Bool := true
  migrateOk : Bool := true
  seat : Nat := 0
  failedTests : List Nat := []
  purgePathOk : Bool := true
  badSheaves : List Nat := []
  scrub : List ScrubFinding := []
deriving DecidableEq, Repr

/-- A configuration that the bank-select word names (R435), with what belongs to it: running bank and attempt count, where 0 is no trial,
the phase, the settings region beside its shadow (R439), the other bank's fitness as a fallback, CONFIRMING of the update journal
(R441). -/
structure BankConfig where
  bank : Nat := 0
  attempt : Nat := 0
  phase : Phase := .idle
  saved : Option SettingsCopy := none
  fallback : Bool := true
  confirming : Bool := false
deriving DecidableEq, Repr

/-- A copy of the bank-select word (R435): running bank and attempt count, and the configuration that the write replaced. -/
structure BankWord where
  bank : Nat := 0
  attempt : Nat := 0
  was : BankConfig := {}
deriving DecidableEq, Repr

/-- The update state (R429–R450). `word1` and `word2` are the copies of the bank-select word, `confirming` that the update journal
holds CONFIRMING. `changed` lists the parts that an
activation replaces, `saved` is the settings region that a trial leaves alone, `testsPassed` the monitors whose
SELF_TEST has passed in the attempt, `resetAfterFill` that a cold reset follows the zero-fill (R451). -/
structure Update where
  phase : Phase := .idle
  bank : Nat := 0
  banks : Tbl BaleInfo := []
  fallback : Bool := true
  attempt : Nat := 0
  deadline : Nat := 0
  result : Nat := 0
  reason : Nat := 0
  baleLen : Nat := 0
  baleId : Bytes := []
  chunks : Tbl Bytes := []
  verified : Bool := false
  staged : BaleInfo := {}
  lock : Bool := false
  activation : Activation := .none
  step : Nat := 0
  code : Nat := 0
  recovery : Bool := false
  mbxReady : Bool := false
  captureReady : Bool := false
  svnFloor : Nat := 0
  changed : List Nat := []
  saved : Option SettingsCopy := none
  testsPassed : List Nat := []
  attemptStart : Nat := 0
  resetAfterFill : Bool := false
  word1 : BankWord := {}
  word2 : BankWord := {}
  confirming : Bool := false
deriving DecidableEq, Repr

/-! ### Power (chapter 16) -/

/-- The power states. -/
inductive PowerState where
  | active | drowse | vigil | off
deriving DecidableEq, Repr

/-- The Grange (R453–R469, Tables 16-1, 16-6, 16-7). `telemetry` holds readings that stand in place of what the sensors read
(notes/assumptions/9.md). -/
structure Power where
  state : PowerState := .active
  feedAOk : Bool := true
  feedBOk : Bool := true
  switchA : Bool := true
  switchB : Bool := true
  switchFault : Bool := false
  holdover : Bool := false
  phasesCore : Nat := 0xFFFF
  phasesSer : Nat := 0xF
  pcieRef : Bool := true
  ethRef : Nat := 0xF
  railsGood : List Rail := [.vio, .vddh, .vcore, .vser]
  railStarting : Option Rail := none
  railFaults : Nat := 0
  railHold : Bool := false
  retryAt : Nat := 0
  vauxOk : Bool := true
  resetAt : Nat := 0
  resetPending : Bool := false
  linkUp : Bool := false
  linkWidth : Nat := 0
  linkRate : Nat := 0
  telemetry : Tbl Int := []
  smbus : Bytes := []
  smbusAck : Bool := false
deriving DecidableEq, Repr

/-- What tells one unit from another: serial, options, the device-unique fixed field of its IVs. -/
structure Ident where
  serial : Nat := 0
  optionN : Bool := false
  gradeE : Bool := false
  fixedField : Bytes := [0, 0, 0, 0]
deriving DecidableEq, Repr

/-- A unit's withdrawals (R476). -/
structure Withdrawal where
  unit : EngineUnit
  ticks : List Nat := []
  out : Bool := true
  retired : Bool := false
  monitor : Nat := 0
deriving DecidableEq, Repr

end Sys2Proof
end

