-- ==== Sys2Proof/Syntax.lean ====
section
/-! DEFINITION. The commands of the block: one constructor per row of the opcode table (spec/opcode_table.json),
with the row's operands. A mailbox row carries the command as it stands in the buffer, a job row its descriptor
and what its DMA reads, an event row what the event brings. -/

namespace Sys2Proof

/-- A command: a write or read of a register, a mailbox command, a job, a pin or bus event, a timer. -/
inductive Instr where
  /-- GET_INFO (R428). -/
  | getInfo (q : MbxReq)
  /-- SESSION_OPEN (R42). -/
  | sessionOpen (q : MbxReq)
  /-- SESSION_AUTH (R44). -/
  | sessionAuth (q : MbxReq)
  /-- SESSION_CLOSE (R44). -/
  | sessionClose (q : MbxReq)
  /-- CLIENT_ENROLL (R45). -/
  | clientEnroll (q : MbxReq)
  /-- CLIENT_REVOKE (R45). -/
  | clientRevoke (q : MbxReq)
  /-- KEY_GENERATE (R294). -/
  | keyGenerate (q : MbxReq)
  /-- KEY_IMPORT (R294). -/
  | keyImport (q : MbxReq)
  /-- KEY_IMPORT_WRAPPED (R296). -/
  | keyImportWrapped (q : MbxReq)
  /-- KEY_EXPORT_WRAPPED (R296). -/
  | keyExportWrapped (q : MbxReq)
  /-- KEY_DESTROY (R298). -/
  | keyDestroy (q : MbxReq)
  /-- KEY_INFO (R290). -/
  | keyInfo (q : MbxReq)
  /-- KEY_SET_ATTR (R297). -/
  | keySetAttr (q : MbxReq)
  /-- KEY_PUBLIC_READ (R290). -/
  | keyPublicRead (q : MbxReq)
  /-- COUNTER_READ (R514). -/
  | counterRead (q : MbxReq)
  /-- COUNTER_ADVANCE (R300). -/
  | counterAdvance (q : MbxReq)
  /-- COUNTER_ALLOCATE (R299). -/
  | counterAllocate (q : MbxReq)
  /-- CONTEXT_CLAIM (R169). -/
  | contextClaim (q : MbxReq)
  /-- CONTEXT_RELEASE (R170). -/
  | contextRelease (q : MbxReq)
  /-- CONTEXT_INFO (R168). -/
  | contextInfo (q : MbxReq)
  /-- TWIN_SET (R148). -/
  | twinSet (q : MbxReq)
  /-- DIGEST_CONTEXT_RESET (R190). -/
  | digestContextReset (q : MbxReq)
  /-- CURVE_LIST (R206). -/
  | curveList (q : MbxReq)
  /-- STRAND_CONFIG (R142). -/
  | strandConfig (q : MbxReq)
  /-- STRAND_LIST (R141). -/
  | strandList (q : MbxReq)
  /-- STRAND_STATUS (R141). -/
  | strandStatus (q : MbxReq)
  /-- STRAND_CLOSE (R114). -/
  | strandClose (q : MbxReq)
  /-- STRAND_SUBSCRIBE (R143). -/
  | strandSubscribe (q : MbxReq)
  /-- SCANNER_TRUST_IMPORT (R142). -/
  | scannerTrustImport (q : MbxReq)
  /-- SEAL_CONFIG (R142). -/
  | sealConfig (q : MbxReq)
  /-- SEAL_KEY_SET (R142). -/
  | sealKeySet (q : MbxReq)
  /-- PORT_CONFIG (R80). -/
  | portConfig (q : MbxReq)
  /-- PORT_STATUS (R101). -/
  | portStatus (q : MbxReq)
  /-- PORT_COUNTERS (R101). -/
  | portCounters (q : MbxReq)
  /-- TRUST_IMPORT_MASTERLIST (R232). -/
  | trustImportMasterlist (q : MbxReq) (file : Option Bytes)
  /-- TRUST_IMPORT_CRL (R233). -/
  | trustImportCrl (q : MbxReq) (file : Option Bytes)
  /-- TRUST_IMPORT_IS_KEY (R234). -/
  | trustImportIsKey (q : MbxReq)
  /-- TRUST_LIST (R235). -/
  | trustList (q : MbxReq)
  /-- TRUST_REMOVE (R235). -/
  | trustRemove (q : MbxReq)
  /-- VERDICT_KEY_SET (R236). -/
  | verdictKeySet (q : MbxReq)
  /-- DSCACHE_FLUSH (R235). -/
  | dscacheFlush (q : MbxReq)
  /-- VERIFY_POLICY_SET (R238). -/
  | verifyPolicySet (q : MbxReq)
  /-- SHEAF_LOAD (R262). -/
  | sheafLoad (q : MbxReq) (file : Option Bytes)
  /-- SHEAF_LIST (R261). -/
  | sheafList (q : MbxReq)
  /-- SHEAF_REMOVE (R264). -/
  | sheafRemove (q : MbxReq)
  /-- SHEAF_BIND (R264). -/
  | sheafBind (q : MbxReq)
  /-- SHEAF_SIGNER_SET (R261). -/
  | sheafSignerSet (q : MbxReq)
  /-- CARD_STATUS (R336). -/
  | cardStatus (q : MbxReq)
  /-- OFFICER_ENROL (R327). -/
  | officerEnrol (q : MbxReq) (link : CardLink)
  /-- OFFICER_REMOVE (R330). -/
  | officerRemove (q : MbxReq)
  /-- QUORUM_SET (R330). -/
  | quorumSet (q : MbxReq)
  /-- QUORUM_BEGIN (R332). -/
  | quorumBegin (q : MbxReq)
  /-- QUORUM_APPROVE (R332). -/
  | quorumApprove (q : MbxReq) (link : CardLink)
  /-- QUORUM_CANCEL (R334). -/
  | quorumCancel (q : MbxReq)
  /-- CARD_FORCE_ERASE (R329). -/
  | cardForceErase (q : MbxReq) (link : CardLink)
  /-- CUSTODY_JOURNAL_READ (R336). -/
  | custodyJournalRead (q : MbxReq)
  /-- PAIR_BEGIN (R416). -/
  | pairBegin (q : MbxReq)
  /-- PAIR_COMPLETE (R417). -/
  | pairComplete (q : MbxReq)
  /-- PAIR_STATUS (R420). -/
  | pairStatus (q : MbxReq)
  /-- PAIR_SWITCHOVER (R418). -/
  | pairSwitchover (q : MbxReq)
  /-- PAIR_DISSOLVE (R419). -/
  | pairDissolve (q : MbxReq)
  /-- FIELD_OUTPUT_SET (R413). -/
  | fieldOutputSet (q : MbxReq)
  /-- FIELD_OUTPUT_READ (R420). -/
  | fieldOutputRead (q : MbxReq)
  /-- BALE_BEGIN (R430). -/
  | baleBegin (q : MbxReq)
  /-- BALE_CHUNK (R431). -/
  | baleChunk (q : MbxReq) (file : Option Bytes)
  /-- BALE_CHUNK_MAP (R449). -/
  | baleChunkMap (q : MbxReq)
  /-- BALE_VERIFY (R432). -/
  | baleVerify (q : MbxReq)
  /-- BALE_ACTIVATE (R436). -/
  | baleActivate (q : MbxReq)
  /-- BALE_STATUS (R449). -/
  | baleStatus (q : MbxReq)
  /-- BALE_ABANDON (R434). -/
  | baleAbandon (q : MbxReq)
  /-- UPDATE_LOCK_SET (R449). -/
  | updateLockSet (q : MbxReq)
  /-- POWER_STATE_SET (R461). -/
  | powerStateSet (q : MbxReq)
  /-- POWER_STATUS (R466). -/
  | powerStatus (q : MbxReq)
  /-- TELEMETRY_READ (R466). -/
  | telemetryRead (q : MbxReq)
  /-- COMPAT_SET (R467). -/
  | compatSet (q : MbxReq)
  /-- MODE_READ (R466). -/
  | modeRead (q : MbxReq)
  /-- ALARM_STATUS (R365). -/
  | alarmStatus (q : MbxReq)
  /-- MONITOR_CONFIG (R342). -/
  | monitorConfig (q : MbxReq)
  /-- SELF_TEST (R358). -/
  | selfTest (q : MbxReq)
  /-- THAW (R354). -/
  | thaw (q : MbxReq)
  /-- VIGIL_LOG_READ (R365). -/
  | vigilLogRead (q : MbxReq)
  /-- LEDGER_READ (R312). -/
  | ledgerRead (q : MbxReq)
  /-- LEDGER_HEAD (R312). -/
  | ledgerHead (q : MbxReq)
  /-- LIFECYCLE_STATUS (R371). -/
  | lifecycleStatus (q : MbxReq)
  /-- LIFECYCLE_ADVANCE (R373). -/
  | lifecycleAdvance (q : MbxReq)
  /-- OWNER_CLAIM (R377). -/
  | ownerClaim (q : MbxReq)
  /-- DEBUG_CHALLENGE (R380). -/
  | debugChallenge (q : MbxReq)
  /-- DEBUG_UNLOCK (R381). -/
  | debugUnlock (q : MbxReq)
  /-- DEBUG_CLOSE (R381). -/
  | debugClose (q : MbxReq)
  /-- DECOMMISSION (R375). -/
  | decommission (q : MbxReq)
  /-- TIME_READ (R313). -/
  | timeRead (q : MbxReq)
  /-- TIME_SET (R305). -/
  | timeSet (q : MbxReq)
  /-- TIME_KEY_SET (R306). -/
  | timeKeySet (q : MbxReq)
  /-- DRIFT_READ (R307). -/
  | driftRead (q : MbxReq)
  /-- AES_GCM_ENCRYPT (R155). -/
  | aesGcmEncrypt (j : JobReq)
  /-- AES_GCM_DECRYPT (R161). -/
  | aesGcmDecrypt (j : JobReq)
  /-- AES_GMAC_GENERATE (R155). -/
  | aesGmacGenerate (j : JobReq)
  /-- AES_GMAC_VERIFY (R161). -/
  | aesGmacVerify (j : JobReq)
  /-- AES_CTR (R165). -/
  | aesCtr (j : JobReq)
  /-- AES_CBC_ENCRYPT (R144). -/
  | aesCbcEncrypt (j : JobReq)
  /-- AES_CBC_DECRYPT (R144). -/
  | aesCbcDecrypt (j : JobReq)
  /-- AES_CMAC_GENERATE (R161). -/
  | aesCmacGenerate (j : JobReq)
  /-- AES_CMAC_VERIFY (R161). -/
  | aesCmacVerify (j : JobReq)
  /-- AES_ECB_WRAP (R144). -/
  | aesEcbWrap (j : JobReq)
  /-- AES_ECB_UNWRAP (R144). -/
  | aesEcbUnwrap (j : JobReq)
  /-- TDEA_CBC_ENCRYPT (R144). -/
  | tdeaCbcEncrypt (j : JobReq)
  /-- TDEA_CBC_DECRYPT (R144). -/
  | tdeaCbcDecrypt (j : JobReq)
  /-- TDEA_MAC3 (R161). -/
  | tdeaMac3 (j : JobReq)
  /-- DIGEST (R185). -/
  | digest (j : JobReq)
  /-- XOF (R185). -/
  | xof (j : JobReq)
  /-- ECDSA_SIGN (R209). -/
  | ecdsaSign (j : JobReq)
  /-- ECDSA_VERIFY (R214). -/
  | ecdsaVerify (j : JobReq)
  /-- EDDSA_SIGN (R209). -/
  | eddsaSign (j : JobReq)
  /-- EDDSA_VERIFY (R214). -/
  | eddsaVerify (j : JobReq)
  /-- ECDH (R209). -/
  | ecdh (j : JobReq)
  /-- RSA_SIGN (R209). -/
  | rsaSign (j : JobReq)
  /-- RSA_VERIFY (R214). -/
  | rsaVerify (j : JobReq)
  /-- RSA_DECRYPT (R209). -/
  | rsaDecrypt (j : JobReq)
  /-- RSA_ENCRYPT (R209). -/
  | rsaEncrypt (j : JobReq)
  /-- MLDSA_SIGN (R218). -/
  | mldsaSign (j : JobReq)
  /-- MLDSA_VERIFY (R209). -/
  | mldsaVerify (j : JobReq)
  /-- MLKEM_ENCAPS (R209). -/
  | mlkemEncaps (j : JobReq)
  /-- MLKEM_DECAPS (R213). -/
  | mlkemDecaps (j : JobReq)
  /-- MODEXP (R209). -/
  | modexp (j : JobReq)
  /-- MODMUL (R209). -/
  | modmul (j : JobReq)
  /-- VERIFY_OFFLINE (R251). -/
  | verifyOffline (j : JobReq)
  /-- MBX_GO_REJECTED (R39). -/
  | mbxGoRejected (fn : Nat)
  /-- MBX_RELEASE (R39). -/
  | mbxRelease (fn : Nat)
  /-- JOB_RING_ENABLE (R48). -/
  | jobRingEnable (fn ring ctrl : Nat)
  /-- JOB_RING_DISABLE (R49). -/
  | jobRingDisable (fn ring ctrl : Nat)
  /-- JOB_RING_PRODUCE (R47). -/
  | jobRingProduce (fn ring index : Nat)
  /-- EVENT_RING_ENABLE (R56). -/
  | eventRingEnable (fn ring ctrl : Nat)
  /-- EVENT_RING_DISABLE (R56). -/
  | eventRingDisable (fn ring ctrl : Nat)
  /-- EVENT_RING_CONSUME (R60). -/
  | eventRingConsume (fn ring index : Nat)
  /-- EVENT_COALESCE_EXPIRY (R61). -/
  | eventCoalesceExpiry (fn ring : Nat)
  /-- HATCH_LOCK_ACQUIRE (R179). -/
  | hatchLockAcquire (value : Nat)
  /-- HATCH_LOCK_RELEASE (R180). -/
  | hatchLockRelease (value : Nat)
  /-- HATCH_START (R178). -/
  | hatchStart
  /-- HATCH_FINAL (R178). -/
  | hatchFinal
  /-- HATCH_ABORT (R178). -/
  | hatchAbort
  /-- HATCH_DIN_SUBMIT (R177). -/
  | hatchDinSubmit (word : Nat)
  /-- HATCH_DOUT_CONSUME (R177). -/
  | hatchDoutConsume
  /-- HATCH_OPERATION_DONE (R178). -/
  | hatchOperationDone
  /-- HATCH_IDLE_RELEASE (R180). -/
  | hatchIdleRelease
  /-- FLAIL_START (R197). -/
  | flailStart
  /-- FLAIL_FINAL (R197). -/
  | flailFinal
  /-- FLAIL_ABORT (R197). -/
  | flailAbort
  /-- FLAIL_DIN_SUBMIT (R197). -/
  | flailDinSubmit (word : Nat)
  /-- FLAIL_OUT_READ (R198). -/
  | flailOutRead (index : Nat)
  /-- FLAIL_FALLBACK_DONE (R198). -/
  | flailFallbackDone
  /-- PORT_COUNTER_LATCH_READ (R100). -/
  | portCounterLatchRead (slot counter : Nat)
  /-- REGISTER_WRITE (R30). -/
  | registerWrite (fn : Nat) (bar : Bar) (offset size value : Nat)
  /-- JOB_COMPLETE (R59). -/
  | jobComplete (job : Nat) (outcome : JobOutcome)
  /-- DEFERRED_OP_END (R41). -/
  | deferredOpEnd (fn no : Nat)
  /-- DEFERRED_OP_TIMEOUT (R486). -/
  | deferredOpTimeout (fn no : Nat)
  /-- SESSION_AUTH_TIMEOUT (R44). -/
  | sessionAuthTimeout (fn index : Nat)
  /-- SESSION_IDLE_TIMEOUT (R44). -/
  | sessionIdleTimeout (fn index : Nat)
  /-- BUS_MASTER_ENABLE_CHANGE (R54). -/
  | busMasterEnableChange (fn : Nat) (on : Bool)
  /-- VF_ENABLE_CHANGE (R28). -/
  | vfEnableChange (on : Bool) (numVfs : Nat)
  /-- FUNCTION_LEVEL_RESET (R62). -/
  | functionLevelReset (fn : Nat)
  /-- PERST_ASSERT (R65). -/
  | perstAssert
  /-- RST_N_ASSERT (R464). -/
  | rstNAssert
  /-- POWER_ARRIVAL (R456). -/
  | powerArrival
  /-- COLD_RESET_START (R446). -/
  | coldResetStart (env : StartEnv)
  /-- SELF_RESET_DUE (R464). -/
  | selfResetDue
  /-- RAIL_GOOD (R456). -/
  | railGood (rail : Rail)
  /-- RAIL_GOOD_TIMEOUT (R456). -/
  | railGoodTimeout (rail : Rail)
  /-- RAIL_FAULT_RETRY (R456). -/
  | railFaultRetry
  /-- PHASE_FAULT (R457). -/
  | phaseFault (rail : Rail) (phase : Nat)
  /-- PHASE_IMBALANCE (R457). -/
  | phaseImbalance (rail : Rail) (phase : Nat)
  /-- FEED_LOST (R453). -/
  | feedLost (feed : Feed)
  /-- FEED_RETURN (R453). -/
  | feedReturn (feed : Feed)
  /-- SWITCH_FAULT_RETRY (R454). -/
  | switchFaultRetry (feed : Feed)
  /-- ETHREF_LOSS (R70). -/
  | ethrefLoss (k : Nat)
  /-- ETHREF_RETURN (R458). -/
  | ethrefReturn (k : Nat)
  /-- VAUX_LOSS (R500). -/
  | vauxLoss
  /-- VAUX_RETURN (R490). -/
  | vauxReturn
  /-- ALWAYS_ON_POWER_LOSS (R460). -/
  | alwaysOnPowerLoss
  /-- MONITOR_EVENT (R344). -/
  | monitorEvent (monitor value : Nat)
  /-- DECISION_SECOND_EVALUATION (R355). -/
  | decisionSecondEvaluation (second : Nat)
  /-- MONITOR_CAUSE_CLEARED (R339). -/
  | monitorCauseCleared (monitor : Nat)
  /-- THROTTLE_END (R345). -/
  | throttleEnd
  /-- ESCALATION_WINDOW_END (R340). -/
  | escalationWindowEnd (monitor : Nat)
  /-- LOFT_KEY_RELOAD (R348). -/
  | loftKeyReload
  /-- ZEROFILL_DONE (R348). -/
  | zerofillDone
  /-- VIGIL_MONITOR_EVENT (R360). -/
  | vigilMonitorEvent (monitor value : Nat)
  /-- WATCHDOG_REFRESH (R478). -/
  | watchdogRefresh
  /-- WATCHDOG_EXPIRY (R403). -/
  | watchdogExpiry
  /-- LATENT_TEST_DUE (R480). -/
  | latentTestDue (checker : Checker) (unit : Nat) (passed : Bool)
  /-- WITHDRAWAL_TEST_DONE (R476). -/
  | withdrawalTestDone (unit : EngineUnit) (passed : Bool)
  /-- KEY_BUS_STALL (R151). -/
  | keyBusStall (port : KeyPort)
  /-- KEY_PORT_RETEST_DONE (R151). -/
  | keyPortRetestDone (port : KeyPort) (passed : Bool)
  /-- KEY_SLOT_COMMIT (R152). -/
  | keySlotCommit (index : Nat)
  /-- FLOOR_WAKE_DONE (R25). -/
  | floorWakeDone (floor : Nat)
  /-- WINNOW_SLICE_END (R172). -/
  | winnowSliceEnd (job : Nat) (bytes : Nat)
  /-- WINNOW_AGE_PROMOTION (R172). -/
  | winnowAgePromotion (job : Nat)
  /-- MILL_AGE_PROMOTION (R224). -/
  | millAgePromotion (job : Nat)
  /-- MILL_STONE_DONE (R215). -/
  | millStoneDone (stone : Nat) (fault : StoneFault)
  /-- MILL_RELEASE_CHECK_DONE (R219). -/
  | millReleaseCheckDone (job : Nat) (passed : Bool)
  /-- STONE_WIPE_DONE (R222). -/
  | stoneWipeDone (stone : Nat)
  /-- STONE_IDLE_GATE (R26). -/
  | stoneIdleGate (stone : Nat)
  /-- STONE_WAKE_DONE (R26). -/
  | stoneWakeDone (stone : Nat)
  /-- SCRUB_PASS (R284). -/
  | scrubPass (findings : List ScrubFinding)
  /-- ALMANAC_STORE (R303). -/
  | almanacStore
  /-- CRYSTAL_CALIBRATION (R307). -/
  | crystalCalibration (ppb : Int)
  /-- PORT_LINK_UP (R77). -/
  | portLinkUp (slot : Nat) (partner : Partner)
  /-- PORT_LINK_DOWN (R89). -/
  | portLinkDown (loss : LinkLoss)
  /-- RX_FRAME (R87). -/
  | rxFrame (slot : Nat) (frame : WireFrame)
  /-- UNKEYED_WINDOW_RESET (R87). -/
  | unkeyedWindowReset
  /-- TAG_VERIFY_DONE (R118). -/
  | tagVerifyDone (strand seq : Nat) (twinOk : Bool)
  /-- CONTENT_DIGEST_DONE (R126). -/
  | contentDigestDone (strand : Nat) (digest : DigestEnd)
  /-- KNOT_DIGEST_DONE (R123). -/
  | knotDigestDone (strand : Nat) (datapathOk : Bool)
  /-- ARCHIVE_ENCRYPT_DONE (R131). -/
  | archiveEncryptDone (strand : Nat) (twinOk : Bool)
  /-- SLOT_MISSING (R119). -/
  | slotMissing (strand seq : Nat)
  /-- NAK_REPEAT (R119). -/
  | nakRepeat (strand : Nat)
  /-- GAP_TIMEOUT (R120). -/
  | gapTimeout (strand : Nat)
  /-- STRAND_PAUSE_REPEAT (R90). -/
  | strandPauseRepeat (strand : Nat)
  /-- LINK_PAUSE_REFRESH (R92). -/
  | linkPauseRefresh (floor : Nat)
  /-- PAUSE_QUANTA_EXPIRY (R94). -/
  | pauseQuantaExpiry (slot : Nat)
  /-- OPEN_REQ (R111). -/
  | openReq (strand : Nat)
  /-- OPEN_CONFIRM (R105). -/
  | openConfirm (strand : Nat)
  /-- REKEY_REQ (R113). -/
  | rekeyReq (strand : Nat)
  /-- REKEY_CONFIRM (R113). -/
  | rekeyConfirm (strand : Nat)
  /-- CLOSE_REQ (R114). -/
  | closeReq (strand : Nat)
  /-- UNKNOWN_CTRL (R106). -/
  | unknownCtrl (strand : Nat)
  /-- KEYING_TIMEOUT (R105). -/
  | keyingTimeout (strand : Nat)
  /-- REKEY_CONFIRM_TIMEOUT (R113). -/
  | rekeyConfirmTimeout (strand : Nat)
  /-- REKEY_INTERVAL (R113). -/
  | rekeyInterval (strand : Nat)
  /-- CLOSE_GRACE_TIMEOUT (R114). -/
  | closeGraceTimeout (strand : Nat)
  /-- SEGMENT_BOUNDARY (R132). -/
  | segmentBoundary (strand : Nat)
  /-- IDLE_SEAL_DUE (R132). -/
  | idleSealDue (strand : Nat)
  /-- SEAL_SIGN_DONE (R134). -/
  | sealSignDone (strand : Nat) (checkOk : Bool)
  /-- STRAND_RECORD_PERSIST (R140). -/
  | strandRecordPersist
  /-- CHIP_BEGIN (R245). -/
  | chipBegin (strand : Nat)
  /-- CHIP_RSP (R246). -/
  | chipRsp (strand : Nat)
  /-- CHIP_END (R248). -/
  | chipEnd (strand : Nat)
  /-- CHIP_APDU_TIMEOUT (R248). -/
  | chipApduTimeout (strand : Nat)
  /-- CHIP_SESSION_TIMEOUT (R248). -/
  | chipSessionTimeout (strand : Nat)
  /-- VERDICT_SIGN_DONE (R252). -/
  | verdictSignDone (verdict : Nat) (checkOk : Bool)
  /-- SHEAF_MSG_EVENT (R265). -/
  | sheafMsgEvent (strand : Nat)
  /-- SHEAF_TIMER_EXPIRY (R265). -/
  | sheafTimerExpiry (strand binding timer : Nat)
  /-- SHEAF_ACTION_DONE (R273). -/
  | sheafActionDone (strand binding tag : Nat)
  /-- HAWSER_PATH_DOWN (R396). -/
  | hawserPathDown (path : Path)
  /-- HAWSER_HELLO (R396). -/
  | hawserHello (path : Path) (h : Hello)
  /-- HAWSER_KEYEX (R417). -/
  | hawserKeyex (path : Path) (frame : Keyex)
  /-- HEARTBEAT_SEND (R397). -/
  | heartbeatSend
  /-- HAWSER_HEARTBEAT (R397). -/
  | hawserHeartbeat (path : Path) (protection : FrameSeal) (h : Heartbeat)
  /-- HAWSER_EPOCH_DATA (R404). -/
  | hawserEpochData (path : Path) (protection : FrameSeal) (epoch index : Nat) (r : CopyRecord)
  /-- HAWSER_EPOCH_END (R404). -/
  | hawserEpochEnd (path : Path) (protection : FrameSeal) (epoch records : Nat) (final : Bool) (digest : Bytes)
  /-- HAWSER_EPOCH_ACK (R405). -/
  | hawserEpochAck (path : Path) (protection : FrameSeal) (epoch : Nat)
  /-- HAWSER_SHADOW (R413). -/
  | hawserShadow (path : Path) (protection : FrameSeal) (out fieldSeq : Nat)
  /-- HAWSER_SHADOW_ACK (R413). -/
  | hawserShadowAck (path : Path) (protection : FrameSeal) (fieldSeq : Nat)
  /-- HAWSER_BULK (R414). -/
  | hawserBulk (path : Path) (protection : FrameSeal) (r : CopyRecord)
  /-- HAWSER_NOTICE (R395). -/
  | hawserNotice (path : Path) (protection : FrameSeal) (kind : Nat)
  /-- EPOCH_TICK (R404). -/
  | epochTick
  /-- EPOCH_ACK_TIMEOUT (R407). -/
  | epochAckTimeout
  /-- PEER_LOST (R398). -/
  | peerLost
  /-- HAWSER_PATH_SILENT (R398). -/
  | hawserPathSilent (path : Path)
  /-- HITCH_IN_CHANGE (R401). -/
  | hitchInChange (asserted : Bool)
  /-- HITCH_QUIET_EXPIRY (R400). -/
  | hitchQuietExpiry
  /-- HITCH_CLAIM_CONFIRMED (R408). -/
  | hitchClaimConfirmed
  /-- HITCH_BACKOFF_EXPIRY (R400). -/
  | hitchBackoffExpiry
  /-- HITCH_HOLDER_COLLISION (R400). -/
  | hitchHolderCollision
  /-- PEER_MAY_CLAIM_TIMEOUT (R402). -/
  | peerMayClaimTimeout
  /-- START_PEER_WAIT_EXPIRY (R402). -/
  | startPeerWaitExpiry
  /-- FIELD_SHADOW_TIMEOUT (R413). -/
  | fieldShadowTimeout
  /-- PAIR_BEGIN_LAPSE (R420). -/
  | pairBeginLapse
  /-- PAIR_KEYEX_TIMEOUT (R420). -/
  | pairKeyexTimeout
  /-- ANNOUNCE_PERIODIC (R410). -/
  | announcePeriodic
  /-- ACTIVATION_DRAIN_END (R436). -/
  | activationDrainEnd
  /-- ACTIVATION_DRAIN_TIMEOUT (R436). -/
  | activationDrainTimeout
  /-- ACTIVATION_PAUSE_END (R436). -/
  | activationPauseEnd (loaded migrated : Bool)
  /-- TRIAL_CONFIRM (R441). -/
  | trialConfirm
  /-- TRIAL_DEADLINE (R442). -/
  | trialDeadline
  /-- CARD_ACTIVATION (R317). -/
  | cardActivation (slot : Nat) (card : Card)
  /-- CARD_REMOVED (R318). -/
  | cardRemoved (slot : Nat)
  /-- CARD_OVERCURRENT (R319). -/
  | cardOvercurrent (slot : Nat)
  /-- DEBUG_LEVEL_EXPIRY (R381). -/
  | debugLevelExpiry
  /-- LANYARD_IDENTIFY (R384). -/
  | lanyardIdentify (r : LnyReq)
  /-- LANYARD_STATUS (R384). -/
  | lanyardStatus (r : LnyReq)
  /-- LANYARD_TRACE_READ (R384). -/
  | lanyardTraceRead (r : LnyReq)
  /-- LANYARD_STATS_READ (R384). -/
  | lanyardStatsRead (r : LnyReq)
  /-- LANYARD_BP_SET (R384). -/
  | lanyardBpSet (r : LnyReq)
  /-- LANYARD_BP_CLEAR (R384). -/
  | lanyardBpClear (r : LnyReq)
  /-- LANYARD_HALT (R385). -/
  | lanyardHalt (r : LnyReq)
  /-- LANYARD_RESUME (R385). -/
  | lanyardResume (r : LnyReq)
  /-- LANYARD_STEP (R385). -/
  | lanyardStep (r : LnyReq)
  /-- LANYARD_READ (R386). -/
  | lanyardRead (r : LnyReq)
  /-- LANYARD_WRITE (R386). -/
  | lanyardWrite (r : LnyReq)
  /-- LANYARD_FRAMING_RESET (R383). -/
  | lanyardFramingReset
  /-- TAP_OPERATION (R387). -/
  | tapOperation (op : TapOp)
  /-- TAP_TCK_IN_PRODUCTION (R388). -/
  | tapTckInProduction
  /-- SMBUS_READ_BOOT (R469). -/
  | smbusReadBoot
  /-- SMBUS_READ_STATUS (R469). -/
  | smbusReadStatus
  /-- SMBUS_READ_TELEMETRY (R469). -/
  | smbusReadTelemetry
  /-- SMBUS_READ_SERIAL (R469). -/
  | smbusReadSerial
  /-- FRAME_TRANSMITTED (R89). -/
  | frameTransmitted (slot : Nat)
  /-- HAWSER_LINK_UP (R396). -/
  | hawserLinkUp (path : Path)
  /-- PCIE_LINK_UP (R27): the widths and the rates of the link partner, bit `k` for 2^k lanes and for the `k`-th rate. -/
  | pcieLinkUp (widths rates : Nat)
  /-- PCIE_LINK_DOWN (R54). -/
  | pcieLinkDown
  /-- HATCH_BLOCK_DONE (R177). -/
  | hatchBlockDone
  /-- FLAIL_WORD_DONE (R197). -/
  | flailWordDone
  /-- MBX_GO_CODE_NOT_ALLOCATED (R67). -/
  | mbxGoCodeNotAllocated (code : Nat) (q : MbxReq)
  /-- DESCRIPTOR_CODE_NOT_ALLOCATED (R67). -/
  | descriptorCodeNotAllocated (opcode : Nat) (j : JobReq)
deriving DecidableEq, Repr

end Sys2Proof
end

