-- ==== Sys2Proof/Decode.lean ====
section
/-! DEFINITION. The decoder over the opcode table's bits. No row of the table gives bits: the device takes its
commands through registers, buffers, rings, pins and timers, not as instruction words. -/

namespace Sys2Proof

/-- The command a word spells by the table's bits: none, as no row of the table gives bits. -/
def decodeTableWord (_nbits _w : Nat) : Option Instr := none

end Sys2Proof
end

