-- ==== Sys2Proof/Config.lean ====
section
/-! DEFINITION. What the spec takes from elsewhere and does not define itself: the random bit generator, and the
algorithms of the standards it names (FIPS 180-4, 202, 186-5, 203, 204, NIST SP 800-38, X.509, ICAO Doc 9303 and
so on). Each is an uninterpreted constant with no body, so a statement about the device holds whatever it computes.
Lengths are fixed where they are used. See notes/assumptions/2.md and 3.md. -/

namespace Sys2Proof.Config

/-- FREE VALUE. Byte `i` of the `n`-th value drawn from the random bit generator. -/
opaque random : Nat → Nat → Byte

/-- FREE VALUE. Any other value the spec leaves open: `what` says which, `n` is the draw. -/
opaque free : Nat → Nat → Nat

/-- FREE VALUE. What a sensor reads: quantity `k` of the TELEMETRY_READ response (Table 16-7) at tick `t`,
notes/assumptions/9.md. -/
opaque sensor : Nat → Nat → Int

/-- FREE VALUE. A file in host memory that a command's DMA reads at the `n`-th draw; `none` where the read fails (R54). -/
opaque hostFile : Nat → Option Bytes

/-- FREE VALUE. Whether the inverse check of a key-wrap command's core fails (R147, R296) at the `n`-th draw. -/
opaque inverseFails : Nat → Bool

/-- FREE VALUE. Whether the two datapaths of the core that works on a fall-back digest disagree (R194) at the `n`-th draw. -/
opaque flailFails : Nat → Bool

/-- FREE VALUE. What a stone's multiplier registers hold while it computes an operation: opcode, key and operands (R222). -/
opaque multiplier : Nat → Bytes → Bytes → Bytes

/-- FREE VALUE. Whether the Scarecrow's two evaluations of a THAW disagree (R355) at the `n`-th draw. -/
opaque thawDisagrees : Nat → Bool

/-- The digest algorithms, by the ALG codes of Table 6-1. -/
opaque digest : Nat → Bytes → Bytes

/-- The extendable-output functions, by ALG, with the output length. -/
opaque xof : Nat → Nat → Bytes → Bytes

/-- AES-GCM encryption (SP 800-38D): key, IV, AAD, plaintext to ciphertext. -/
opaque gcmCipher : Bytes → Bytes → Bytes → Bytes

/-- AES-GCM authentication tag: key, IV, AAD, ciphertext. -/
opaque gcmTag : Bytes → Bytes → Bytes → Bytes → Bytes

/-- AES-GCM decryption, which inverts `gcmCipher`. -/
opaque gcmPlain : Bytes → Bytes → Bytes → Bytes

/-- Block ciphers in CBC: cipher (1 AES, 2 TDEA), encrypt, key, IV, data. -/
opaque cbc : Nat → Bool → Bytes → Bytes → Bytes → Bytes

/-- AES-CMAC (SP 800-38B): key, message. -/
opaque cmac : Bytes → Bytes → Bytes

/-- AES in ECB: encrypt, key, data. -/
opaque ecb : Bool → Bytes → Bytes → Bytes

/-- MAC algorithm 3 of ISO/IEC 9797-1 with TDEA: key, IV, padded message. -/
opaque mac3 : Bytes → Bytes → Bytes → Bytes

/-- Key wrap with padding (SP 800-38F): key, data. -/
opaque kwpWrap : Bytes → Bytes → Bytes

/-- Its inverse; `none` where the integrity check fails. -/
opaque kwpUnwrap : Bytes → Bytes → Option Bytes

/-- A signature: scheme (an opcode of Table 2-17), parameters, private key, message or digest, drawn nonce. -/
opaque sign : Nat → Bytes → Bytes → Bytes → Nat → Bytes

/-- A signature verifies: scheme, parameters, public key, message or digest, signature. -/
opaque verify : Nat → Bytes → Bytes → Bytes → Bytes → Bool

/-- Key agreement (opcode of Table 2-17, parameters, private key, peer's public value); `none` is a rejected input. -/
opaque agree : Nat → Bytes → Bytes → Bytes → Option Bytes

/-- Encapsulation: parameters, public key, draw; ciphertext and shared secret. -/
opaque encaps : Bytes → Bytes → Nat → Bytes × Bytes

/-- Decapsulation (FIPS 203 with implicit rejection): parameters, private key, ciphertext. -/
opaque decaps : Bytes → Bytes → Bytes → Bytes

/-- RSA encryption padding and its exponentiation: parameters, public key, message, draw. -/
opaque rsaEncrypt : Bytes → Bytes → Bytes → Nat → Bytes

/-- RSA decryption and unpadding: parameters, private key, ciphertext; `none` is a padding failure. -/
opaque rsaDecrypt : Bytes → Bytes → Bytes → Option Bytes

/-- The key a generation draws: key type, set, draw. -/
opaque keyGen : Nat → Nat → Nat → Bytes

/-- The public half of a private key: key type, set, private material. -/
opaque publicHalf : Nat → Nat → Bytes → Bytes

/-- The order of the base point of a preloaded curve (Table 7-1, R276). -/
opaque curveOrder : Nat → Nat

/-- The field prime and the coefficients a and b of a preloaded short Weierstrass curve, or of one of the base tables. -/
opaque curveField : Nat → Nat × Nat × Nat

/-- A point of a curve with a cofactor above 1 is in the subgroup of the base point: n·Q is the identity (Table 7-5). -/
opaque inSubgroup : Nat → Bytes → Bool

/-- The point that an Ed25519 or Ed448 encoding names exists on the curve, its sign bit agrees with x, and it is not of small
order (Table 7-5). -/
opaque edPoint : Nat → Bytes → Bool

/-- A curve table of the base tables, by its curve ID (R276). -/
opaque baseCurveTable : Nat → Bytes

/-- A curve table's order is prime by 64 rounds of Miller–Rabin, and times the base point it gives the identity (R205). -/
opaque curveOk : Bytes → Bool

/-- Private or public key material passes the checks of R294 and Table 7-5: key type, set, material. -/
opaque keyValid : Nat → Nat → Bytes → Bool

/-- The content of an X.509 certificate in DER (RFC 5280); `none` where it is malformed. -/
opaque parseCert : Bytes → Option CertInfo

/-- The content of a CSCA master list (Doc 9303 Part 12, RFC 5652). -/
opaque parseMasterList : Bytes → Option MasterList

/-- The content of an X.509 v2 CRL. -/
opaque parseCrl : Bytes → Option CrlInfo

/-- The content of a CV certificate (TR-03110 Part 3). -/
opaque parseCvCert : Bytes → Option CvCert

/-- The content of a Document Security Object (Doc 9303 Part 10, RFC 5652). -/
opaque parseSod : Bytes → Option SodInfo

/-- The content of DG1. -/
opaque parseDg1 : Bytes → Option Dg1Info

/-- The content of DG14. -/
opaque parseDg14 : Bytes → Option Dg14Info

/-- The content of DG15. -/
opaque parseDg15 : Bytes → Option Dg15Info

/-- An Active Authentication signature verifies: algorithm (1 RSA, 2 ECDSA), hash, public key, challenge, signature. -/
opaque activeAuth : Nat → Nat → Bytes → Bytes → Bytes → Bool

/-- The password of a chip session is in the character set and form of Doc 9303: kind, bytes. -/
opaque passwordOk : Nat → Bytes → Bool

/-- The MRZ password agrees with DG1: password, DG1 (MRZ_MATCH of Table 8-6). -/
opaque mrzMatch : Bytes → Bytes → Bool

/-- What a phase of a chip exchange does by Doc 9303 and TR-03110: the draw its random values come from, the phase, what it works
with, and the R-APDUs received before the phase and in it. -/
opaque chipStep : Nat → ChipPhase → Bytes → List Bytes → List Bytes → Option ChipStep

/-- A signature's encoding passes Table 7-5: scheme, parameters, signature. -/
opaque signatureOk : Nat → Bytes → Bytes → Bool

/-- The full-operation time, in ns, of a Mill kind that Table 7-7 does not list: opcode and PARAM (R215). -/
opaque millTime : Nat → Bytes → Nat

/-- The bytes of an epoch or bulk record in a pair format; the formats belong to the firmware release (R395). -/
opaque recordBytes : Nat → CopyRecord → Bytes

/-- The PAIR_FORMAT of the release that has a PARTS_ID: what a unit knows of its peer's release is the PARTS_ID (R397, R444). -/
opaque partsFormat : Bytes → Nat

/-- The Lanyard addresses of a TARGET that R379 and R386 exclude; the map of a processor's memory and of TARGET 0xF is not given. -/
opaque lanyardExcluded : Nat → Nat → Bool

/-- How long after a unit's PAIR_COMPLETE, started at a tick, the peer starts its own (R420). -/
opaque peerStart : Nat → Nat

/-- The one-way delay in µs that a unit measures on a Hawser path, at a tick (R406). -/
opaque hawserDelay : Nat → Nat

/-- The vendor bale keys held in the Steward's boot ROM (R427): the P-384 public key. -/
opaque vendorBaleEcdsa : Bytes

/-- The ML-DSA-65 public key. -/
opaque vendorBaleMldsa : Bytes

end Sys2Proof.Config
end

