-- ==== Sys2Proof/Machine/Bytes.lean ====
section
/-! DEFINITION. Byte strings and tables: little- and big-endian fields (R6), slices, padding, and the
tables keyed by a number that hold the device's slots, counters, strands and the like. -/

namespace Sys2Proof.Machine

/-- The byte holding `v` modulo 256. -/
def byte (v : Nat) : Byte := BitVec.ofNat 8 v

/-- `n` zero bytes. -/
def zeros (n : Nat) : Bytes := List.replicate n 0

/-- `v` as an `n`-byte little-endian field (R6). -/
def le : Nat → Nat → Bytes
  | 0, _ => []
  | n + 1, v => byte v :: le n (v / 256)

/-- `v` as an `n`-byte big-endian string, for the encodings of standards. -/
def be (n v : Nat) : Bytes := (le n v).reverse

/-- The value of a little-endian string. -/
def ofLe : Bytes → Nat
  | [] => 0
  | b :: bs => b.toNat + 256 * ofLe bs

/-- The value of a big-endian string. -/
def ofBe (b : Bytes) : Nat := ofLe b.reverse

/-- `n` bytes from offset `off`. -/
def slice (b : Bytes) (off n : Nat) : Bytes := (b.drop off).take n

/-- The `n`-byte little-endian field at `off` (R6). -/
def rd (b : Bytes) (off n : Nat) : Nat := ofLe (slice b off n)

/-- Cut or zero-padded to exactly `n` bytes. -/
def fit (n : Nat) (b : Bytes) : Bytes := (b ++ zeros n).take n

/-- Every byte is zero. -/
def allZero (b : Bytes) : Bool := b.all (· == 0)

/-- The index of the first byte that is not zero. -/
def firstNonZero (b : Bytes) : Option Nat := b.findIdx? (· != 0)

/-- The bytes of an ASCII label. -/
def ascii (t : String) : Bytes := t.toList.map (fun c => byte c.toNat)

/-- An `n`-byte two's complement field. -/
def leInt (n : Nat) (v : Int) : Bytes := le n (v % (2 ^ (8 * n) : Nat)).toNat

/-- The signed value of an `n`-byte field. -/
def toSigned (n v : Nat) : Int := if v < 2 ^ (8 * n - 1) then (v : Int) else (v : Int) - (2 ^ (8 * n) : Nat)

/-- Bits [hi:lo] of a word. -/
def bits (v hi lo : Nat) : Nat := v / 2 ^ lo % 2 ^ (hi + 1 - lo)

/-- Bit `k` of a word. -/
def bit (v k : Nat) : Bool := v.testBit k

/-- A flag as 0 or 1. -/
def ofBool (b : Bool) : Nat := if b then 1 else 0

/-- The mask with bit `k` set for each `k` in the list, below 2^`width`. -/
def maskOf (ks : List Nat) (width : Nat) : Nat :=
  ((List.range width).map (fun k => if ks.contains k then 2 ^ k else 0)).sum

/-- The bitwise XOR of two strings, over the length of the shorter. -/
def xorBytes (a b : Bytes) : Bytes := List.zipWith (fun x y => x ^^^ y) a b

/-- A value that stops at `m` instead of wrapping. -/
def sat (m v : Nat) : Nat := if v ≤ m then v else m

/-- A u32 that saturates. -/
def sat32 (v : Nat) : Nat := sat 0xFFFFFFFF v

/-- Rounded up quotient. -/
def ceilDiv (a b : Nat) : Nat := (a + b - 1) / b

/-- Every byte is an ASCII digit. -/
def allDigits (b : Bytes) : Bool := b.all (fun x => 0x30 ≤ x.toNat && x.toNat ≤ 0x39)

/-! ### Tables -/

/-- The entry at `k`, if there is one. -/
def tblFind {α : Type} (t : Tbl α) (k : Nat) : Option α :=
  match t with
  | [] => none
  | (j, v) :: r => if j = k then some v else tblFind r k

/-- The entry at `k`, or the default. -/
def tblGet {α : Type} (t : Tbl α) (k : Nat) (d : α) : α := (tblFind t k).getD d

/-- The table with `v` at `k`: keys stay in rising order and distinct. -/
def tblSet {α : Type} (t : Tbl α) (k : Nat) (v : α) : Tbl α :=
  match t with
  | [] => [(k, v)]
  | (j, w) :: r =>
    if j = k then (k, v) :: r
    else if k < j then (k, v) :: (j, w) :: r
    else (j, w) :: tblSet r k v

/-- The table without `k`. -/
def tblDel {α : Type} (t : Tbl α) (k : Nat) : Tbl α := t.filter (fun e => e.1 != k)

/-- The table without the entries that satisfy `p`. -/
def tblDrop {α : Type} (t : Tbl α) (p : Nat → α → Bool) : Tbl α := t.filter (fun e => !p e.1 e.2)

/-- Every entry changed by `f`. -/
def tblMap {α : Type} (t : Tbl α) (f : Nat → α → α) : Tbl α := t.map (fun e => (e.1, f e.1 e.2))

/-- There is an entry at `k`. -/
def tblHas {α : Type} (t : Tbl α) (k : Nat) : Bool := (tblFind t k).isSome

/-- The keys, in order. -/
def tblKeys {α : Type} (t : Tbl α) : List Nat := t.map (·.1)

/-- The smallest number below `n`, from `lo` up, that satisfies `p`. -/
def firstFrom (lo n : Nat) (p : Nat → Bool) : Option Nat := ((List.range n).map (· + lo)).find? p

/-- The smallest number from `lo` up, within `fuel` numbers, that satisfies `p`; stops at the first. -/
def scanFrom (p : Nat → Bool) : Nat → Nat → Option Nat
  | 0, _ => none
  | fuel + 1, lo => if p lo then some lo else scanFrom p fuel (lo + 1)

/-- Apply `f` to each element, left to right. -/
def foldS {α σ : Type} (l : List α) (s : σ) (f : σ → α → σ) : σ := l.foldl f s

/-- The low `n` bits of a value, the least significant first. -/
def sentBits (n v : Nat) : List Bool := (List.range n).map (fun k => v.testBit k)

/-- CRC-8 with polynomial x^8 + x^2 + x + 1 and initial value 0, over bits in the order they are sent (R383, R469). -/
def crc8 (l : List Bool) : Nat :=
  l.foldl (fun c b => if decide (128 ≤ c) != b then (2 * c % 256) ^^^ 0x07 else 2 * c % 256) 0

end Sys2Proof.Machine
end

