-- ==== Sys2Proof/Machine/State.lean ====
section
/-! DEFINITION. The state of the device: every register, buffer, counter, mode and pin the spec gives it, and the
queue of commands that wait. State is plain data. A field's default is its value right after reset; see the rows
of notes/assumptions for the values that the spec does not give. -/

namespace Sys2Proof.Machine

/-- Why a step stops the block. The spec gives every command an effect or says it is ignored, so no meaning
raises a fault; the type is closed. -/
inductive Fault where
  /-- Raised by no meaning: the block never stops. Safe: it would only remove behaviours. -/
  | halted
deriving DecidableEq, Repr

/-- Why the model has no meaning for a command. -/
inductive Refusal where
  /-- Raised by an arm of `exec` whose command has no meaning yet. Safe: nothing is proved of it. -/
  | notModelled (mnemonic : String)
deriving DecidableEq, Repr

/-- The state of the OPM9144. -/
structure State where
  /-- Commands that wait, first in, first out (the block's own queue of inputs). -/
  pending : List Instr := []
  /-- The Almanac tick, in µs (R302). -/
  now : Nat := 0
  /-- MODEL'S OWN: how many values have been drawn from the random bit generator. -/
  rng : Nat := 0
  /-- What tells this unit from another (R33, Table 2-1). -/
  ident : Ident := {}
  /-- The functions' windows (R34), by client number. -/
  fns : Tbl Fn := []
  /-- SR-IOV VF Enable (R28). -/
  vfEnable : Bool := false
  /-- SR-IOV NumVFs (R28). -/
  numVfs : Nat := 0
  /-- Credentials and lockouts by client (R44, R45). -/
  clients : Tbl Client := []
  /-- MODEL'S OWN: the writes the device has made to host memory, in order (R59). -/
  hostWrites : List HostWrite := []
  /-- MODEL'S OWN: the reads the device has made of source fragments, in order (R51). -/
  hostReads : List HostRead := []
  /-- Key slots by 20-bit index; an absent entry is an empty slot (R288). -/
  keys : Tbl KeySlot := []
  /-- The slot wear table (R282). -/
  wear : Tbl Wear := []
  /-- Slot writes that have not committed (R152, R293). -/
  writes : List SlotWrite := []
  /-- Monotonic counters (R299) whose entry has been written since all of them held one value. -/
  counters : Tbl Counter := []
  /-- The value of every counter that `counters` does not list: what leaps at takeover have made of 0 (R301). -/
  counterBase : Nat := 0
  /-- The Almanac (R302–R307). -/
  almanac : Almanac := {}
  /-- The Ledger (R309). -/
  ledger : Ledger := {}
  /-- Fetched jobs that have not posted their completion (R53–R55), in order of fetching. -/
  jobs : List Job := []
  /-- The number of the next job. -/
  jobNo : Nat := 1
  /-- MODEL'S OWN: the next turn at a queue's tail, which orders the entries of each queue (R172, R224). -/
  turnNo : Nat := 1
  /-- Cipher and digest contexts (R168, R187). -/
  contexts : Tbl Context := []
  /-- Twin computation on (R19, R150). -/
  twin : Bool := true
  /-- Floors 0–5. -/
  floors : Tbl Floor := []
  /-- Stones 0–63. -/
  stones : Tbl Stone := []
  /-- Mill group key ports that are fenced (R201). -/
  groupFences : List Nat := []
  /-- Curves loaded from sheaves, by curve ID (R204, R259). -/
  curves : Tbl Curve := []
  /-- The Hatch (Table 5-7); the Steward holds its lock as INTERNAL from cold reset (R181). -/
  hatch : Hatch := { tag := 0xFFFF, internal := true, held := true }
  /-- The Flail fall-back path (Table 6-5). -/
  flail : FlailPath := {}
  /-- Capture ports by slot (Table 3-11). -/
  ports : Tbl Port := []
  /-- Strands by ID (chapter 04). -/
  strands : Tbl Strand := []
  /-- The durable strand records (R140). -/
  durable : Tbl StrandCopy := []
  /-- Event subscriptions (R143). -/
  subs : List Subscription := [{ client := 0, first := 0, last := 4095, ring := 0, kinds := 6 }]
  /-- Seal key names (SEAL_KEY_SET). -/
  sealKeys : SignKeys := {}
  /-- SEAL_CONFIG's setting. -/
  sealIdle : Nat := 0
  /-- Scanner CA certificates: identifier and DER (R142). -/
  scannerCas : List (Bytes × Bytes) := []
  /-- Denied scanner IDs (R142). -/
  scannerDenied : List Bytes := []
  /-- The trust store by entry ID (R228–R232). -/
  trust : Tbl TrustEntry := []
  /-- The next TRUST_ID; none is reused (Table 8-4). -/
  trustNo : Nat := 1
  /-- Verification policies (Table 8-5). -/
  policies : Tbl Policy := []
  /-- The DS-certificate cache (R237). -/
  dsCache : List DsEntry := []
  /-- Verdict key names (VERDICT_KEY_SET). -/
  verdictKeys : SignKeys := {}
  /-- Verdicts whose signature is being made (R252). -/
  verdicts : List Verdict := []
  /-- Loaded sheaves by number (R259). -/
  sheaves : Tbl Sheaf := []
  /-- Sheaf signers (R261). -/
  signers : Tbl Signer := []
  /-- Bindings of each strand, in order (R264). -/
  bindings : Tbl (List Binding) := []
  /-- Instances (R265), by 1024·strand + 16·sheaf + table. -/
  instances : Tbl Instance := []
  /-- Tally-card slots TC0–TC3. -/
  cards : Tbl CardSlot := []
  /-- The custody journal, oldest first (R323). -/
  journal : List JournalEntry := []
  /-- The number of the next journal entry. -/
  journalNo : Nat := 1
  /-- Officer records (R326). -/
  officers : Tbl Officer := []
  /-- m (R330). -/
  quorumM : Nat := 1
  /-- Approvals that exist, oldest first (R332). -/
  approvals : List Approval := []
  /-- The number of the next approval. -/
  approvalNo : Nat := 1
  /-- The Scarecrow, the Loft and the Vigil log (chapter 12). -/
  scarecrow : Scarecrow := {}
  /-- Life-cycle fuses, owner and debug level (chapter 13). -/
  life : Life := {}
  /-- The Lanyard and the TAP. -/
  lanyard : Lanyard := {}
  /-- The pair (chapter 14). -/
  pair : Pair := {}
  /-- Updates and start-up (chapter 15). -/
  update : Update := {}
  /-- The Grange (chapter 16). -/
  power : Power := {}
  /-- Units withdrawn or retired (R476). -/
  withdrawals : List Withdrawal := []
deriving DecidableEq, Repr

/-- The device right after reset: t0 of R446, with the rails good and the mailboxes not ready. -/
def State.reset : State := {}

end Sys2Proof.Machine
end

