-- ==== Sys2Proof/Machine/Flags.lean ====
section
/-! DEFINITION. The status codes, the monitor table, the modes in force, and the words of the status registers:
each is computed from the state by the table that lays it out. -/

namespace Sys2Proof.Machine

/-! ### Status codes (Table 2-16) -/

abbrev sOk : Nat := 0x0000
abbrev eCode : Nat := 0x0101
abbrev eFormat : Nat := 0x0102
abbrev eLength : Nat := 0x0103
abbrev eLengthMismatch : Nat := 0x0104
abbrev eLimit : Nat := 0x0105
abbrev eAuth : Nat := 0x0201
abbrev eGuarded : Nat := 0x0202
abbrev eState : Nat := 0x0203
abbrev eDenied : Nat := 0x0204
abbrev eBusy : Nat := 0x0301
abbrev eHeld : Nat := 0x0302
abbrev eKeyAbsent : Nat := 0x0401
abbrev eKeyGone : Nat := 0x0402
abbrev eKeyRetired : Nat := 0x0403
abbrev ePkReject : Nat := 0x0501
abbrev eParity : Nat := 0x0601
abbrev eTwin : Nat := 0x0602
abbrev eFault : Nat := 0x0603
abbrev eDma : Nat := 0x0604
abbrev eFrozen : Nat := 0x0701
abbrev ePurged : Nat := 0x0702
abbrev eEarly : Nat := 0x0801
abbrev eUpdateRefused : Nat := 0x0901
abbrev eTimeout : Nat := 0x0A01
abbrev ePeer : Nat := 0x0B01
abbrev eTooLate : Nat := 0x0C01
abbrev eCard : Nat := 0x0D01
abbrev ePin : Nat := 0x0D02

/-! ### Words from fields -/

/-- A register word from its fields: (value, lowest bit, width). -/
def pack (fs : List (Nat × Nat × Nat)) : Nat :=
  (fs.map (fun f => f.1 % 2 ^ f.2.2 * 2 ^ f.2.1)).sum

/-! ### Monitors (Tables 12-1, 12-2) -/

/-- Default configured level (Table 12-1). -/
def monitorDefault (m : Nat) : Nat :=
  [3, 3, 4, 3, 1, 1, 5, 3, 4, 2, 2, 2, 4, 3, 3, 5, 5, 0, 0, 0, 0, 3, 2, 1, 2, 2, 2, 3, 2, 1, 1, 4].getD m 0

/-- Lowest level MONITOR_CONFIG may set (Table 12-1). -/
def monitorFloor (m : Nat) : Nat :=
  [3, 3, 3, 2, 1, 1, 5, 3, 3, 2, 1, 1, 4, 2, 3, 5, 4, 0, 0, 0, 0, 2, 1, 1, 1, 1, 2, 3, 1, 1, 1, 4].getD m 0

/-- The monitor samples in power state Vigil (Table 12-1). -/
def monitorVigil (m : Nat) : Bool :=
  [4, 5, 6, 10, 11, 12, 13, 15, 16, 17, 18, 19, 20, 31].contains m

/-- The monitor is tested by injection (R358). -/
def monitorTestable (m : Nat) : Bool := m ≤ 0x14

/-- Reports on other blocks have no lasting condition (chapter 12, "Monitors"). -/
def monitorMomentary (m : Nat) : Bool := 0x15 ≤ m && m ≤ 0x1D

/-- Default threshold (Table 12-2); `gradeE` is the extended grade. -/
def thresholdDefault (gradeE : Bool) (m : Nat) : Int :=
  match m with
  | 0x05 => 2700
  | 0x0D => if gradeE then 115 else 110
  | 0x0E => if gradeE then -50 else -10
  | 0x0F => -30
  | 0x13 => 0xF0
  | _ => 0

/-- The range a threshold may take (Table 12-2); `none` where it is not adjustable. -/
def thresholdRange (gradeE : Bool) (m : Nat) : Option (Int × Int) :=
  match m with
  | 0x05 => some (2700, 3300)
  | 0x0D => if gradeE then some (105, 115) else some (100, 110)
  | 0x0E => if gradeE then some (-50, -40) else some (-10, 0)
  | 0x0F => some (-30, -10)
  | 0x13 => some (0, 0xFF)
  | _ => none

/-- The monitor's configuration and history; an absent entry is at its defaults (R343). -/
def monitorOf (s : State) (m : Nat) : Monitor :=
  tblGet s.scarecrow.monitors m { level := monitorDefault m, threshold := thresholdDefault s.ident.gradeE m }

/-! ### Modes in force -/

/-- Life-cycle states by number (Table 13-1). -/
abbrev lcBlank : Nat := 0
abbrev lcTest : Nat := 1
abbrev lcProduction : Nat := 2
abbrev lcEndOfLife : Nat := 3

/-- Blank and End of life cap levels at 1 (R369). -/
def levelsCapped (s : State) : Bool := s.life.lifecycle == lcBlank || s.life.lifecycle == lcEndOfLife

/-- The level a present cause stands for: the one its event was raised at (R340, R342). -/
def causeLevel (m : Monitor) : Nat :=
  if m.active then m.applied else 0

/-- The highest level among the causes present. -/
def causesLevel (s : State) : Nat :=
  ((List.range 32).map (fun m => causeLevel (monitorOf s m))).foldl max 0

/-- The alarm level in force: from the causes present, or latched (Table 12-8). -/
def alarmLevel (s : State) : Nat :=
  let l := max (causesLevel s) s.scarecrow.latched
  if levelsCapped s then min l 1 else l

/-- The Purged condition (R350). -/
def purged (s : State) : Bool := s.life.purged

/-- Freeze is in force: a level of 3 or above is latched, outside the Purged condition (R346, R350). -/
def frozen (s : State) : Bool := 3 ≤ s.scarecrow.latched && !s.life.purged

/-- Throttle is in force: while a cause of level 2 or above is present, and for 10 s after (R345). -/
def throttled (s : State) : Bool := s.scarecrow.throttled || 2 ≤ causesLevel s

/-- Role numbers (Table 2-3). -/
def roleNo : Role → Nat
  | .solo => 0 | .active => 1 | .standby => 2 | .resync => 3 | .isolated => 4

/-- Phase numbers (Table 2-3). -/
def phaseNo : Phase → Nat
  | .idle => 0 | .staging => 1 | .staged => 2 | .trial => 3

/-- Power state numbers (Table 2-3). -/
def powerNo : PowerState → Nat
  | .active => 0 | .drowse => 1 | .vigil => 2 | .off => 3

/-- The Steward runs: it is neither stopped by a lockstep mismatch (R478) nor halted through the Lanyard (R386). -/
def stewardServes (s : State) : Bool := !s.scarecrow.stopped && !s.lanyard.halted.contains 0

/-- The unit seals, signs and drives: Solo or Active (Table 14-1). -/
def acting (s : State) : Bool := s.pair.role == .solo || s.pair.role == .active

/-- The roles in which R393 refuses changes: Standby, Resync and Isolated. -/
def passiveRole (s : State) : Bool := !acting s

/-- DEVICE_STATUS (R33, Table 2-3). -/
def deviceStatus (s : State) : Nat :=
  pack [(s.life.lifecycle, 0, 2), (ofBool s.life.purged, 2, 1), (powerNo s.power.state, 3, 2),
    (roleNo s.pair.role, 5, 3), (phaseNo s.update.phase, 8, 2), (s.life.debug, 10, 2),
    (s.scarecrow.compat, 12, 2), (alarmLevel s, 14, 3), (s.pair.seat, 17, 1), (s.update.bank, 18, 1),
    (ofBool s.update.mbxReady, 19, 1), (ofBool s.update.captureReady, 20, 1)]

/-- DEVICE_SHAPE of the OPM9144 (R32, Table 2-2), 32 bytes. -/
def deviceShape (s : State) : Bytes :=
  le 4 (pack [(0x9144, 0, 16), (1, 16, 8), (ofBool s.ident.optionN, 24, 1), (ofBool s.ident.gradeE, 25, 1)]) ++
  le 4 (pack [(144, 0, 8), (120, 8, 8), (6, 16, 4), (96, 20, 8)]) ++
  le 4 (pack [(64, 0, 8), (if s.ident.optionN then 0 else 8, 8, 8), (8, 16, 4), (8, 20, 4), (16, 24, 8)]) ++
  le 4 (pack [(16, 0, 8), (64, 8, 8), (128, 16, 8), (64, 24, 8)]) ++
  le 4 0x00010000 ++ le 4 (pack [(2048, 0, 16), (4096, 16, 16)]) ++ le 4 0x00080000 ++
  le 4 (pack [(16384, 0, 16), (4, 16, 8), (4, 24, 8)])

/-! ### The alarm window (Table 12-8) -/

/-- ALARM_SUMMARY. -/
def alarmSummary (s : State) : Nat :=
  pack [(alarmLevel s, 0, 3), (s.scarecrow.latched, 3, 3), (ofBool (frozen s), 6, 1), (ofBool s.life.purged, 7, 1),
    (ofBool (throttled s), 8, 1), (ofBool s.scarecrow.testing, 9, 1), (s.scarecrow.compat, 10, 2)]

/-- ALARM_ACTIVE: the causes present. -/
def alarmActive (s : State) : Nat :=
  ((List.range 32).map (fun m => if (monitorOf s m).active then 2 ^ m else 0)).sum

/-- LOFT_STATUS. -/
def loftStatus (s : State) : Nat :=
  pack [(ofBool s.scarecrow.rootValid, 0, 1), (ofBool s.scarecrow.custodyValid, 1, 1),
    (ofBool (s.scarecrow.zerofill != 0), 2, 1), (ofBool s.scarecrow.onVbat, 3, 1),
    (s.scarecrow.vigil.length, 8, 8), (sat 0xFFFF s.scarecrow.vigilLost, 16, 16)]

/-- Telemetry by position in the TELEMETRY_READ response (Table 16-7), 0 VIN_A_MV to 15 ENERGY_J: a reading that stands in State, or
else what the sensor reads now. FREE VALUE, notes/assumptions/9.md. -/
def telemetry (s : State) (k : Nat) : Int := tblGet s.power.telemetry k (Config.sensor k s.now)

/-- VBAT in mV. -/
def vbatMv (s : State) : Int := telemetry s 9

/-- Tj in 0.1 °C. -/
def tj (s : State) : Int := telemetry s 12

/-- SENSE. -/
def sense (s : State) : Nat := ofLe (leInt 2 (vbatMv s) ++ leInt 2 (tj s))

/-- The state code of a level (Table 12-6). -/
def series7Code (l : Nat) : Nat := [0xFF00, 0xF00F, 0xCC33, 0xC33C, 0xAA55, 0xA55A].getD l 0xA55A

/-- SERIES7_STATE: the code of the level in force; 0 in Native. -/
def series7State (s : State) : Nat := if s.scarecrow.compat == 0 then 0 else series7Code (alarmLevel s)

/-- MONITOR_m. -/
def monitorWord (s : State) (m : Nat) : Nat :=
  let w := monitorOf s m
  pack [(w.level, 0, 3), (monitorFloor m, 4, 3), (monitorDefault m, 8, 3), (ofBool w.active, 12, 1),
    (ofBool (monitorTestable m), 13, 1), (ofBool (monitorVigil m), 14, 1), (sat 0xFFFF w.events, 16, 16)]

/-- THRESHOLD_m. -/
def thresholdWord (s : State) (m : Nat) : Nat :=
  if (thresholdRange s.ident.gradeE m).isSome then ofLe (leInt 4 (monitorOf s m).threshold) else 0

/-! ### The power window (Table 16-6) -/

/-- Floor `f`. -/
def floorOf (s : State) (f : Nat) : Floor := tblGet s.floors f {}

/-- Stone `n`. -/
def stoneOf (s : State) (n : Nat) : Stone := tblGet s.stones n {}

/-- A stone is powered unless gated, waking from gating or retired. -/
def stoneAwake (s : State) (n : Nat) : Bool :=
  let t := (stoneOf s n).state
  t == .idle || t == .busy || t == .wiping

/-- PWR_STATE [5:2], which POWER events of kind feed carry (R468). -/
def feedBits (s : State) : Nat :=
  pack [(ofBool s.power.feedAOk, 0, 1), (ofBool s.power.feedBOk, 1, 1), (ofBool s.power.switchA, 2, 1),
    (ofBool s.power.switchB, 3, 1)]

/-- PWR_STATE. -/
def pwrState (s : State) : Nat :=
  pack [(powerNo s.power.state, 0, 2), (feedBits s, 2, 4), (ofBool s.power.holdover, 6, 1),
    (ofBool s.power.switchFault, 7, 1), (maskOf ((List.range 6).filter (fun f => (floorOf s f).awake)) 6, 8, 6)]

/-- PWR_PHASES. -/
def pwrPhases (s : State) : Nat := pack [(s.power.phasesCore, 0, 16), (s.power.phasesSer, 16, 4)]

/-- XTAL32 runs: XTAL_FAIL's cause is absent. -/
def xtalOk (s : State) : Bool := !(monitorOf s 0x0A).active

/-- The core and processor PLLs are locked: they run in Active and Drowse, and are unlocked in holdover (R458). -/
def pllLock (s : State) : Bool := (s.power.state == .active || s.power.state == .drowse) && !s.power.holdover

/-- PWR_CLOCKS. -/
def pwrClocks (s : State) : Nat :=
  pack [(ofBool (xtalOk s), 0, 1), (ofBool s.power.pcieRef, 1, 1), (s.power.ethRef, 2, 4),
    (ofBool (pllLock s), 6, 1), (ofBool (pllLock s), 7, 1)]

/-- PWR_INPUT_MW. -/
def pwrInputMw (s : State) : Nat := (telemetry s 14).toNat

/-- PWR_STONES_AWAKE. -/
def pwrStonesAwake (s : State) : Nat :=
  ((List.range 64).map (fun n => if stoneAwake s n then 2 ^ n else 0)).sum

/-! ### Firmware (chapter 15) -/

/-- SHA3-256 (FIPS 202). -/
def sha3 (b : Bytes) : Bytes := fit 32 (Config.digest 0x12 b)

/-- SHA-384 (FIPS 180-4). -/
def sha384 (b : Bytes) : Bytes := fit 48 (Config.digest 0x04 b)

/-- The first `n` bytes of SHAKE256 (FIPS 202). -/
def shake256 (n : Nat) (b : Bytes) : Bytes := fit n (Config.xof 0x22 n b)

/-- What a bank holds. -/
def bankOf (s : State) (b : Nat) : BaleInfo := tblGet s.update.banks b {}

/-- The running bale. -/
def running (s : State) : BaleInfo := bankOf s s.update.bank

/-- The PARTS_ID of seven versions (R428). -/
def partsIdOf (vs : List Nat) : Bytes := (sha3 (vs.flatMap (le 4))).take 8

/-- This unit's PARTS_ID (R428). -/
def partsId (s : State) : Bytes := partsIdOf (running s).versions

/-- The PAIR_FORMAT of the peer's release: with the same PARTS_ID, as with none reported yet, this unit's own, else what that PARTS_ID
has, a FREE VALUE, notes/assumptions/38.md. -/
def peerFormat (s : State) : Nat :=
  if s.pair.peerParts == [] || s.pair.peerParts == partsId s then (running s).pairFormat else Config.partsFormat s.pair.peerParts

/-- The pair format in use: while the units of a pair differ in their PARTS_ID, the lower of their two (R444). -/
def pairFormat (s : State) : Nat :=
  if s.pair.paired then min (running s).pairFormat (peerFormat s) else (running s).pairFormat

/-- CHUNKS (R430). -/
def chunkCount (s : State) : Nat := ceilDiv s.update.baleLen 65536

/-- Chunks received. -/
def chunksReceived (s : State) : Nat := s.update.chunks.length

/-- Milliseconds to the trial deadline; 0 outside Trial (Table 15-8). -/
def trialLeftMs (s : State) : Nat :=
  if s.update.phase == .trial then (s.update.deadline - s.now) / 1000 else 0

/-- UPDATE_STATUS (Table 15-8). -/
def updateStatus (s : State) : Nat :=
  pack [(phaseNo s.update.phase, 0, 2),
    (match s.update.activation with | .pause _ _ _ => 1 | _ => 0, 2, 1), (ofBool s.update.verified, 3, 1),
    (ofBool s.update.recovery, 4, 1), (ofBool s.update.lock, 5, 1), (s.update.attempt, 6, 2),
    (s.update.result, 8, 8), (s.update.reason, 16, 8)]

/-! ### The pair window (Table 14-10) -/

/-- COPY numbers (Table 14-4). -/
def copyNo : CopyMark → Nat
  | .own => 0 | .current => 1 | .stale => 2

/-- Path `p`. -/
def pathOf (s : State) (p : Path) : HawserPath :=
  match p with
  | .a => s.pair.pathA
  | .b => s.pair.pathB

/-- R392, as this unit observes it: the peer is the other half of Active and Standby, both paths carry heartbeats,
no epoch lags, the line is whole, and the parts agree unless an update is staged or in trial. -/
def healthy (s : State) : Bool :=
  ((s.pair.role == .active && s.pair.peerRole == 2) || (s.pair.role == .standby && s.pair.peerRole == 1)) &&
  s.pair.pathA.up && s.pair.pathB.up && !s.pair.pathA.silent && !s.pair.pathB.silent && s.pair.peerReachable &&
  !s.pair.lagging && !s.pair.sentEpochs.any (fun x => x.2.1 + 5000 < s.now) && !s.pair.lineFault &&
  (s.pair.peerParts == partsId s || s.update.phase == .staged || s.update.phase == .trial ||
    s.pair.peerUpdate == 2 || s.pair.peerUpdate == 3)

/-- PAIR_STATE. -/
def pairState (s : State) : Nat :=
  pack [(roleNo s.pair.role, 0, 3), (ofBool s.pair.paired, 3, 1), (ofBool s.pair.degraded, 4, 1),
    (ofBool (healthy s), 5, 1), (ofBool s.pair.peerReachable, 6, 1), (copyNo s.pair.copy, 8, 2),
    (ofBool s.pair.peerMayClaim, 10, 1), (s.pair.peerRole, 12, 3), (s.pair.lastReason, 16, 8)]

/-- PAIR_STATE [6:3], the FLAGS of PAIR_STATUS and of PAIR events. -/
def pairFlags (s : State) : Nat := bits (pairState s) 6 3

/-- PAIR_FIELD.SENSED: the nets that read low are those this unit pulls and those that a reachable driving peer reports.
DESIGN CHOICE, notes/assumptions/42.md. -/
def fieldSensed (s : State) : Nat :=
  s.pair.driven ||| (if s.pair.peerReachable && (s.pair.peerRole == 1 || s.pair.peerRole == 2) then s.pair.peerField else 0)

/-- PAIR_HITCH. -/
def pairHitch (s : State) : Nat :=
  pack [(ofBool s.pair.hitchOut, 0, 1), (ofBool s.pair.hitchIn, 1, 1), (ofBool s.scarecrow.wdogArmed, 2, 1),
    (ofBool s.pair.collision, 3, 1), (ofBool s.pair.lineFault, 4, 1)]

/-- PAIR_PATHS [1:0], the PATHS of heartbeats and PAIR_STATUS. -/
def pathsUp (s : State) : Nat := pack [(ofBool s.pair.pathA.up, 0, 1), (ofBool s.pair.pathB.up, 1, 1)]

/-- PAIR_PATHS. -/
def pairPaths (s : State) : Nat :=
  pack [(pathsUp s, 0, 2), (ofBool s.pair.pathA.silent, 2, 1), (ofBool s.pair.pathB.silent, 3, 1),
    (sat 0xFFFF s.pair.tagFails, 16, 16)]

/-- The peer-state word with a reason code (R421). -/
def peerWord (s : State) (reason : Nat) : Nat :=
  pack [(s.pair.peerRole, 0, 3), (ofBool s.pair.peerReachable, 3, 1), (reason, 8, 8)]

/-! ### Refusal of updates (Table 15-4) -/

/-- Condition `r`, 1 to 8, of Table 15-4 holds now. -/
def updateCondition (s : State) (r : Nat) : Bool :=
  match r with
  | 1 => (monitorOf s 0x14).active ||
      (match s.scarecrow.motion with | some t => s.now < t | none => false)
  | 2 => vbatMv s < 2700
  | 3 => s.update.lock
  | 4 => 3 ≤ alarmLevel s
  | 5 => s.pair.paired && !healthy s && !s.update.recovery
  | 6 => s.life.lifecycle == lcEndOfLife
  | 7 => (s.pair.role == .active || s.pair.role == .resync || s.pair.role == .isolated) && !s.update.recovery
  | 8 => s.life.debug != 0
  | _ => false

/-- UPDATE_REFUSE.MASK. -/
def updateRefuseMask (s : State) : Nat :=
  maskOf (((List.range 8).map (· + 1)).filter (updateCondition s)) 16

/-- The lowest condition among 1 to `top` that holds. -/
def firstRefusal (s : State) (top : Nat) : Option Nat := ((List.range top).map (· + 1)).find? (updateCondition s)

/-! ### The per-function window (Tables 2-5, 2-9, 2-12) -/

/-- A function's own state. -/
def fnOf (s : State) (f : Nat) : Fn := tblGet s.fns f {}

/-- A planned switchover is under way: nothing more is knotted (R418). -/
def switching (s : State) : Bool :=
  match (fnOf s 0).held with
  | some { why := .switchover _, .. } => true
  | _ => false

/-- Its knotted frames have left, and the capture transmitters are disabled (R418 step 2). -/
def txOff (s : State) : Bool :=
  match (fnOf s 0).held with
  | some { why := .switchover (some _), .. } => true
  | _ => false

/-- The SR-IOV capability (R28): TotalVFs. -/
abbrev sriovTotalVfs : Nat := 63
/-- First VF Offset. -/
abbrev sriovFirstOffset : Nat := 1
/-- VF Stride. -/
abbrev sriovStride : Nat := 1

/-- The routing offset from the PF of VF `n`, from 1 (R28). -/
def vfRouting (n : Nat) : Nat := sriovFirstOffset + (n - 1) * sriovStride

/-- The function exists (R28). -/
def fnExists (s : State) (f : Nat) : Bool := f == 0 || (s.vfEnable && f ≤ s.numVfs && f ≤ sriovTotalVfs)

/-- MBX_STATUS.STATE values. -/
def mbxNo : MbxState → Nat
  | .idle => 0 | .busy => 1 | .done => 2 | .notReady => 3

/-- MBX_STATUS. -/
def mbxStatus (f : Fn) : Nat := pack [(mbxNo f.state, 0, 2), (ofBool f.rejectedGo, 2, 1)]

/-- FN_INT_CAUSE. -/
def fnIntCause (f : Fn) : Nat := pack [(ofBool f.mbxDone, 0, 1), (ofBool f.ringHalt, 1, 1), (ofBool f.notice, 2, 1)]

/-- FN_CLIENT. -/
def fnClient (n : Nat) : Nat := pack [(n, 0, 6), (ofBool (n == 0), 8, 1)]

/-- A job ring. -/
def jobRingOf (f : Fn) (r : Nat) : JobRing := tblGet f.job r {}

/-- An event ring; its vector is n + 1 at reset. -/
def eventRingOf (f : Fn) (r : Nat) : EventRing := tblGet f.event r { vector := r + 1 }

/-- JR_CTRL. -/
def jrCtrl (j : JobRing) : Nat := pack [(ofBool j.enable, 0, 1), (j.priority, 1, 2), (j.sizeLog2, 4, 4)]

/-- A completion of a job of ring `r` whose number satisfies `p` has not been posted: it waits for its event ring (R484). -/
def unposted (w : Fn) (r : Nat) (p : Nat → Bool) : Bool :=
  w.event.any (fun e => e.2.queue.any (fun v => match v.job with | some (k, n) => k == r && p n | none => false))

/-- The ring fetches, or jobs fetched from it have not posted their completion (R49). -/
def jrRunning (s : State) (f r : Nat) : Bool :=
  let j := jobRingOf (fnOf s f) r
  (j.enable && !j.halted) || s.jobs.any (fun b => b.req.fn == f && b.req.ring == r) || unposted (fnOf s f) r (fun _ => true)

/-- JR_STATUS. -/
def jrStatus (s : State) (f r : Nat) : Nat :=
  let j := jobRingOf (fnOf s f) r
  pack [(ofBool (jrRunning s f r), 0, 1), (ofBool j.halted, 1, 1), (j.cause, 4, 4)]

/-- ER_CTRL. -/
def erCtrl (e : EventRing) : Nat :=
  pack [(ofBool e.enable, 0, 1), (e.sizeLog2, 4, 4), (e.vector, 8, 5), (ofBool e.mask, 13, 1)]

/-- ER_COAL. -/
def erCoal (e : EventRing) : Nat := pack [(e.coalCount, 0, 16), (e.coalUsec, 16, 16)]

/-- ER_STATUS. -/
def erStatus (e : EventRing) : Nat := pack [(ofBool e.enabled, 0, 1), (ofBool e.cfgErr, 1, 1)]

end Sys2Proof.Machine
end

