-- ==== Sys2Proof/Machine/Ops.lean ====
section
/-! DEFINITION. The shared operations: drawing random bytes, the Ledger (R309), host interrupts and the event rings
(R56–R61), sessions, and the parts of State by their number. -/

namespace Sys2Proof.Machine

/-- What a meaning answers. -/
abbrev Out := Host.Outcome State Fault Refusal

/-! ### Random values -/

/-- `n` bytes of the next draw of the random bit generator. -/
def randomBytes (s : State) (n : Nat) : Bytes := (List.range n).map (Config.random s.rng)

/-- The state after a draw. -/
def draw (s : State) : State := { s with rng := s.rng + 1 }

/-! ### Parts of the state by number -/

/-- Change function `f`'s own state. -/
def setFn (s : State) (f : Nat) (v : Fn) : State := { s with fns := tblSet s.fns f v }

/-- A client's kept data. -/
def clientOf (s : State) (c : Nat) : Client := tblGet s.clients c {}

/-- Change it. -/
def setClient (s : State) (c : Nat) (v : Client) : State := { s with clients := tblSet s.clients c v }

/-- Change floor `f`. -/
def setFloor (s : State) (f : Nat) (v : Floor) : State := { s with floors := tblSet s.floors f v }

/-- Change stone `n`. -/
def setStone (s : State) (n : Nat) (v : Stone) : State := { s with stones := tblSet s.stones n v }

/-- Capture port in slot `p`. -/
def portOf (s : State) (p : Nat) : Port := tblGet s.ports p {}

/-- Change it. -/
def setPort (s : State) (p : Nat) (v : Port) : State := { s with ports := tblSet s.ports p v }

/-- Strand `i`. -/
def strandOf (s : State) (i : Nat) : Strand := tblGet s.strands i {}

/-- Change it. -/
def setStrand (s : State) (i : Nat) (v : Strand) : State := { s with strands := tblSet s.strands i v }

/-- Change the Scarecrow. -/
def setScarecrow (s : State) (v : Scarecrow) : State := { s with scarecrow := v }

/-- Change a monitor. -/
def setMonitor (s : State) (m : Nat) (v : Monitor) : State :=
  setScarecrow s { s.scarecrow with monitors := tblSet s.scarecrow.monitors m v }

/-- Record a write to host memory (R59). -/
def hostWrite (s : State) (addr : Nat) (b : Bytes) : State :=
  { s with hostWrites := s.hostWrites ++ [{ addr, bytes := b }] }

/-- The same with the No Snoop attribute of the fragment written to (R51). -/
def snoopWrite (s : State) (addr : Nat) (b : Bytes) (noSnoop : Bool) : State :=
  { s with hostWrites := s.hostWrites ++ [{ addr, bytes := b, noSnoop }] }

/-- `n` microseconds pass on the tick, counted on the PLL or on the crystal (R302, R307). -/
def pass (s : State) (n : Nat) : State :=
  let a := s.almanac
  let a := if a.lowRate then { a with crystalUs := a.crystalUs + n } else { a with pllUs := a.pllUs + n }
  { s with now := s.now + n, almanac := a }

/-- The time reaches `t`, if it has not passed it: a timer's command comes at its deadline or after. -/
def advanceTo (s : State) (t : Nat) : State := pass s (t - s.now)

/-! ### The pair's copy (R404) -/

/-- A changed item of Table 14-6 goes into the current epoch while the unit is Active (R404). -/
def share (s : State) (r : CopyRecord) : State :=
  if s.pair.role == .active then { s with pair := { s.pair with changes := s.pair.changes ++ [r] } } else s

/-- Remember the value the Standby holds of a counter that is about to change (R405). Keys: counter IDs, and
0x10_0000 plus the index for invocation counters. -/
def rememberAcked (s : State) (key old : Nat) : State :=
  if s.pair.role == .active && s.pair.peerRole == 2 && !tblHas s.pair.ackedValues key then
    { s with pair := { s.pair with ackedValues := tblSet s.pair.ackedValues key old } } else s

/-- Releasing `v` would exceed the acknowledged value by 2^23 or more while the peer is Standby (R405). -/
def beyondAcked (s : State) (key v : Nat) : Bool :=
  s.pair.role == .active && s.pair.peerRole == 2 && tblGet s.pair.ackedValues key v + 2 ^ 23 ≤ v

/-- A counter that sheaf actions have moved stands where nothing that may hold its value goes into a verdict yet (R405). -/
def countersHeld (s : State) : Bool :=
  s.pair.ackedValues.any (fun x => x.1 < 0x80000 && beyondAcked s x.1 (tblGet s.counters x.1 { value := s.counterBase }).value)

/-! ### The Ledger (R309–R311) -/

/-- The 128 bytes of an entry (Table 10-7). -/
def ledgerBytes (e : LedgerEntry) : Bytes :=
  le 8 e.seq ++ le 8 e.tick ++ le 2 e.type ++ le 1 e.source ++ le 1 e.client ++ le 4 e.tag ++
  le 2 e.status ++ zeros 2 ++ le 4 e.detail ++ fit 64 e.data ++ fit 32 e.prev

/-- The time as it goes to the peer (R406). -/
def timeCopy (a : Almanac) : TimeCopy :=
  { offset := a.offset, leap := a.leap, set := a.offsetSet, lost := a.timeLost, uncertainty := a.uncertainty
    setTick := a.setTick, pllUs := a.pllUs, crystalUs := a.crystalUs }

/-- An entry as it reads: SEQ 0 where it is damaged (R285). -/
def ledgerRead (l : Ledger) (e : LedgerEntry) : Bytes :=
  if l.damaged.contains e.seq then zeros 8 ++ (ledgerBytes e).drop 8 else ledgerBytes e

/-- SHA3-256 of the newest entry; zero before SEQ 1. -/
def ledgerHead (l : Ledger) : Bytes :=
  match l.entries.getLast? with
  | none => zeros 32
  | some e => sha3 (ledgerBytes e)

/-- The entries with one more, without the oldest when there are more than 16,384 (R310). -/
def ledgerPush (es : List LedgerEntry) (e : LedgerEntry) : List LedgerEntry :=
  (es ++ [e]).drop (es.length + 1 - 16384)

/-- Append an entry (R309, R310). -/
def ledger (s : State) (type source client tag status detail : Nat) (data : Bytes) : State :=
  let e : LedgerEntry := { seq := s.ledger.seq + 1, tick := s.now, type, source, client, tag, status, detail,
                           data := fit 64 data, prev := ledgerHead s.ledger }
  { s with ledger := { s.ledger with entries := ledgerPush s.ledger.entries e, seq := s.ledger.seq + 1 } }

/-- A Ledger entry of the Steward that no command brought (Table 10-8). -/
def note (s : State) (type : Nat) (data : Bytes) : State := ledger s type 0 0xFF 0 0 0 data

/-- A DAMAGED entry of the Granary controller (R285): offset, region by its row of Table 10-1 from 0, and the handle or ID,
notes/assumptions/52.md. -/
def damagedNote (s : State) (off region id : Nat) : State :=
  ledger s 0xF006 4 0xFF 0 0 0 (le 4 off ++ le 4 region ++ le 4 id)

/-! ### Interrupts (R39, R61) -/

/-- Signal MSI-X vector `v` of function `f`: the message goes out, or its pending bit is set while the vector is
masked; nothing while MSI-X is disabled. -/
def signal (s : State) (f v : Nat) : State :=
  let w := fnOf s f
  if !w.msixOn then s
  else if bit (tblGet w.msixTable (4 * v + 3) 0) 0 then
    setFn s f { w with msixPba := if w.msixPba.contains v then w.msixPba else w.msixPba ++ [v] }
  else setFn s f { w with msixSent := w.msixSent ++ [v] }

/-- The three FN_INT_CAUSE bits (Table 2-5). -/
inductive Cause where
  | mbxDone | ringHalt | notice
deriving DecidableEq, Repr

/-- Set a cause bit; vector 0 is signalled unless the matching mask bit is set (Table 2-5, R61). -/
def raiseCause (s : State) (f : Nat) (c : Cause) : State :=
  let w := fnOf s f
  let k := match c with | .mbxDone => 0 | .ringHalt => 1 | .notice => 2
  let w := match c with
    | .mbxDone => { w with mbxDone := true }
    | .ringHalt => { w with ringHalt := true }
    | .notice => { w with notice := true }
  let s := setFn s f w
  if bit w.intMask k then s else signal s f 0

/-- The PF's NOTICE is set when DEVICE_STATUS has changed from `old` (Table 2-5). -/
def noteStatus (old : Nat) (s : State) : State :=
  if deviceStatus s == old then s else raiseCause s 0 .notice

/-! ### Event rings (R56–R61) -/

/-- Entries of a ring. -/
def ringSize (e : EventRing) : Nat := 2 ^ e.sizeLog2

/-- The places of an empty or partly used record area: `len` bytes fit at `at_` beside the live records. -/
def placeFree (e : EventRing) (at_ len : Nat) : Bool :=
  at_ + len ≤ e.recSize && e.live.all (fun r => r.2 == 0 || at_ + len ≤ r.1 || r.1 + r.2 ≤ at_)

/-- Where a record of `len` bytes goes: on a 64-byte boundary after the last one, at offset 0 when the end lacks
space; `none` while the area lacks space (R58, R60). -/
def placeRecord (e : EventRing) (len : Nat) : Option Nat :=
  let n := ceilDiv len 64 * 64
  let start := if e.recNext + len ≤ e.recSize then e.recNext else 0
  if placeFree e start n then some start else none

/-- The 64 bytes of an entry (Table 2-13). -/
def eventBytes (v : Event) (seq recOff : Nat) : Bytes :=
  le 2 v.type ++ le 2 v.status ++ le 4 v.tag ++ le 4 seq ++
  le 4 (v.flags + (if v.record.isEmpty then 0 else 2)) ++ le 4 recOff ++ le 4 v.record.length ++
  le 8 v.tick ++ le 4 v.detail ++ fit 28 v.inline

/-- ALARM events' TYPE (Table 2-14). -/
abbrev tAlarm : Nat := 0x0030
/-- LOST events' TYPE. -/
abbrev tLost : Nat := 0x0040

/-- Write an entry whose record, if any, lies at `recOff`: record, entry, copy of ER_PROD, then the interrupt as
coalescing gives (R59, R61). -/
def writeEntry (s : State) (f r : Nat) (v : Event) (recOff : Nat) : State :=
  let e := eventRingOf (fnOf s f) r
  let s := if v.record.isEmpty then s else hostWrite s (e.recBase + recOff) v.record
  let s := hostWrite s (e.base + 64 * e.prod) (eventBytes v (e.seq + 1) recOff)
  let prod := (e.prod + 1) % ringSize e
  let s := if e.wbAddr == 0 then s else hostWrite s e.wbAddr (le 4 prod)
  let n := e.unsignalled + 1
  let first := e.unsignalled == 0
  let fire := v.status != 0 || v.type == tAlarm || max 1 e.coalCount ≤ n || e.coalUsec == 0
  let e := { e with
    prod, seq := e.seq + 1
    live := e.live ++ [(recOff, if v.record.isEmpty then 0 else ceilDiv v.record.length 64 * 64)]
    recNext := if v.record.isEmpty then e.recNext else recOff + ceilDiv v.record.length 64 * 64
    unsignalled := if fire then 0 else n
    oldest := if first then s.now else e.oldest
    oldUsec := if first then e.coalUsec else e.oldUsec
    oldVector := if first then e.vector else e.oldVector
    oldMask := if first then e.mask else e.oldMask }
  let s := setFn s f { fnOf s f with event := tblSet (fnOf s f).event r e }
  if fire && !e.mask then signal s f e.vector else s

/-- The ring accepts an entry: it is enabled, the function may write memory, and ER_PROD would not reach ER_CONS. -/
def entrySpace (s : State) (f r : Nat) : Bool :=
  let e := eventRingOf (fnOf s f) r
  e.enabled && (fnOf s f).busMaster && (e.prod + 1) % ringSize e != e.cons

/-- A completion whose record the area can never hold (R58). -/
def oversize (e : EventRing) (v : Event) : Event :=
  if e.recSize < v.record.length then
    { v with status := eLength, detail := v.record.length, record := [] }
  else v

/-- Where the next event's record goes; `none` while the record area lacks space for it, which makes the ring full (R60). -/
def nextPlace (e : EventRing) : Option Nat :=
  match e.queue with
  | [] => some 0
  | v :: _ => if (oversize e v).record.isEmpty then some 0 else placeRecord e v.record.length

/-- The Ledger has the events that a LOST entry reports: client, ring, count (Table 10-8). -/
def noteLost (s : State) (f r n : Nat) : State := ledger s 0xF00A 0 f 0 0 0 (le 1 f ++ le 1 r ++ le 4 n)

/-- A LOST event is due: events were dropped, and the ring takes an entry: one that is full for want of record space (R60) takes it only
where the record of a dropped event could never fit (R58). -/
def lostDue (e : EventRing) : Bool := e.lost != 0 && (e.neverFits || (nextPlace e).isSome)

/-- Write what waits, oldest first, a LOST event before it when events were dropped; a full ring takes neither (R56, R58, R60).
`fuel` bounds the number of entries. -/
def flush : Nat → State → Nat → Nat → State
  | 0, s, _, _ => s
  | fuel + 1, s, f, r =>
    let w := fnOf s f
    let e := eventRingOf w r
    if !entrySpace s f r then s
    else if lostDue e then
      let s := noteLost (setFn s f { w with event := tblSet w.event r { e with lost := 0, neverFits := false } }) f r e.lost
      flush fuel (writeEntry s f r { type := tLost, detail := e.lost, tick := s.now, unsolicited := true } 0) f r
    else match nextPlace e, e.queue with
      | some off, v :: rest =>
        let s := setFn s f { w with event := tblSet w.event r { e with queue := rest } }
        flush fuel (writeEntry s f r (oversize e v) off) f r
      | _, _ => s

/-- Write what waits on a ring. -/
def flushRing (s : State) (f r : Nat) : State :=
  flush ((eventRingOf (fnOf s f) r).queue.length + 2) s f r

/-- Post a completion (JOB_DONE or OP_DONE): it waits while the ring is full or disabled; none is lost (R56, R60). -/
def postCompletion (s : State) (f r : Nat) (v : Event) : State :=
  let w := fnOf s f
  let e := eventRingOf w r
  let e := { e with queue := e.queue ++ [{ v with tick := s.now }] }
  flushRing (setFn s f { w with event := tblSet w.event r e }) f r

/-- An unsolicited event is dropped: the ring is disabled, its record can never fit, or the queue of 1,024 is full
(R56, R58, R60). -/
def dropsEvent (e : EventRing) (v : Event) : Bool :=
  !e.enabled || e.recSize < v.record.length || 1024 ≤ (e.queue.filter (·.unsolicited)).length

/-- Post an unsolicited event (R56, R58, R60). -/
def postEvent (s : State) (f r : Nat) (v : Event) : State :=
  let w := fnOf s f
  let e := eventRingOf w r
  let e := if dropsEvent e v then
      { e with dropped := sat32 (e.dropped + 1), lost := e.lost + 1
               neverFits := e.neverFits || (e.enabled && e.recSize < v.record.length) }
    else { e with queue := e.queue ++ [{ v with tick := s.now, unsolicited := true }] }
  flushRing (setFn s f { w with event := tblSet w.event r e }) f r

/-! ### Sessions (R42–R44) -/

/-- The session identifier of a session of client `c` (chapter 02). -/
def sessionId (c : Nat) (x : Session) : Nat := c * 2 ^ 24 + x.index * 2 ^ 16 + x.serial

/-- The open session a SESSION value names, if its client field is client `c`. -/
def sessionOf (s : State) (c v : Nat) : Option Session := (fnOf s c).sessions.find? (fun x => sessionId c x == v)

/-- SESSION names an authenticated session of the client (R42). -/
def sessionAuthed (s : State) (c v : Nat) : Bool :=
  match sessionOf s c v with
  | some x => x.auth
  | none => false

/-- Halt job ring `r` with a CAUSE at its next slot (R48). -/
def haltRing (s : State) (f r cause : Nat) : State :=
  let w := fnOf s f
  let j := jobRingOf w r
  raiseCause (setFn s f { w with job := tblSet w.job r { j with halted := true, cause, errIndex := j.cons } })
    f .ringHalt

/-- Halt with CAUSE 4 the running rings whose session is `v` (R48). -/
def haltRingsOf (s : State) (f v : Nat) : State :=
  (List.range 4).foldl (fun s r =>
    let j := jobRingOf (fnOf s f) r
    if j.enable && !j.halted && j.session == v then haltRing s f r 4 else s) s

/-- Close a session: it leaves the client's list, and its rings halt (R44, R48). -/
def closeSession (s : State) (c : Nat) (x : Session) : State :=
  let w := fnOf s c
  haltRingsOf (setFn s c { w with sessions := w.sessions.filter (fun y => y.index != x.index) }) c (sessionId c x)

/-- Close every session of the client that satisfies `p`. -/
def closeSessions (s : State) (c : Nat) (p : Session → Bool) : State :=
  ((fnOf s c).sessions.filter p).foldl (fun s x => closeSession s c x) s

/-- A command or job under a session restarts its idle time-out (R44). -/
def touchSession (s : State) (c v : Nat) : State :=
  let w := fnOf s c
  setFn s c { w with sessions := w.sessions.map (fun x => if sessionId c x == v then { x with lastUse := s.now } else x) }

/-- The cryptographic contexts a client holds are released (R62). -/
def releaseContexts (s : State) (c : Nat) : State := { s with contexts := tblDrop s.contexts (fun _ x => x.holder == c) }

/-! ### Reports to the Scarecrow (R339, R340, R355) -/

/-- The level a monitor's event takes: one higher, up to 3, from the 8th event in 10 s on (R340); at most 1 in Blank
and End of life (R369); at most `cap`. -/
def eventLevel (s : State) (level cap : Nat) (escalated : Bool) : Nat :=
  let l := min cap (if escalated then level + 1 else level)
  if levelsCapped s then min l 1 else l

/-- `a` is detected before `b`; events of one tick count as detected in the same 250 ns, in ascending monitor number (R353),
notes/assumptions/40.md (DESIGN CHOICE). -/
def detectedFirst (a b : Decision) : Bool := a.detect < b.detect || (a.detect == b.detect && a.monitor < b.monitor)

/-- Put a decision into the order of detection. -/
def insertDecision (d : Decision) : List Decision → List Decision
  | [] => [d]
  | e :: es => if detectedFirst d e then d :: e :: es else e :: insertDecision d es

/-- The delay before a decision's second evaluation, in periods of the 4 MHz oscillator, drawn afresh (R355). -/
def evaluationDelay (s : State) : Nat := (Config.random s.rng 0).toNat % 32 + 1

/-- An event of monitor `m` comes to its first decision (R355), at a level of at most `cap`; at level 0 none is raised (R339). -/
def toDecide (s : State) (d : Decision) : State :=
  let w := monitorOf s d.monitor
  if w.level == 0 then s
  else
    let recent := w.recent.filter (s.now < ·) ++ [s.now + 10000000]
    let recent := recent.drop (recent.length - 8)
    let escalated := w.level ≤ 2 && recent.length == 8
    let d := { d with detect := s.now, configured := w.level, escalated, due := 4 * s.now + evaluationDelay s
                      level := eventLevel s (max d.level w.level) d.cap escalated }
    let s := draw (setMonitor s d.monitor { w with recent })
    setScarecrow s { s.scarecrow with decisions := insertDecision d s.scarecrow.decisions }

/-- The condition of monitor `m` begins to hold, or the monitor reports on another block: the event is detected and the
first of its evaluations made. A cause that is present raises no further event (R339). -/
def report (s : State) (m value : Nat) : State :=
  let w := monitorOf s m
  if w.active then s
  else toDecide (setMonitor s m { w with active := !monitorMomentary m, applied := 0 }) { monitor := m, value, level := 0, detect := 0, configured := 0 }

/-- A monitor that fails its test raises an event of its own, at its level capped at 3: no cause begins or goes with it (R359). -/
def reportFailed (s : State) (m : Nat) : State :=
  toDecide s { monitor := m, value := 0xFFFFFFFF, level := 0, detect := 0, configured := 0, cap := 3, cause := false }

/-! ### Notices of the other blocks -/

/-- A POWER event on PF event ring 0 (R468). -/
def powerEvent (s : State) (kind old new value : Nat) : State :=
  postEvent s 0 0 { type := 0x0032, inline := le 1 kind ++ le 1 old ++ le 1 new ++ zeros 1 ++ le 4 value }

/-- Set the pair role: a PAIR event and a PAIR Ledger entry report each role change and each reason (R423). -/
def pairEvent (s : State) (old : Nat) (reason : Nat) : State :=
  let s := { s with pair := { s.pair with lastReason := reason } }
  let b := le 1 old ++ le 1 (roleNo s.pair.role) ++ le 1 reason ++ le 1 (pairFlags s) ++ le 8 s.pair.epoch ++
    le 8 s.pair.peerSerial ++ le 4 s.pair.gap
  let s := postEvent s 0 0 { type := 0x0031, inline := b }
  note s 0xF00B (le 1 old ++ le 1 (roleNo s.pair.role) ++ le 4 (peerWord s reason))

/-- The unit takes role `r` for a reason (R391, R423). -/
def setRole (s : State) (r : Role) (reason : Nat) : State :=
  let old := roleNo s.pair.role
  pairEvent { s with pair := { s.pair with role := r } } old reason

end Sys2Proof.Machine
end

