-- ==== Sys2Proof/Machine/Mailbox.lean ====
section
/-! DEFINITION. The mailbox (R36–R41): the order of checks of R38, approvals (R333), the Ledger entry of a command
(R511), the response (R37), and deferred operations (R41). -/

namespace Sys2Proof.Machine

/-- The access letters of Table 2-17. -/
inductive Access where
  | n | s | q
deriving DecidableEq, Repr

/-- What Table 2-17, Table 12-5, Table 11-4 and R511 say of a command. -/
structure CmdSpec where
  /-- CODE (Table 2-17). -/
  code : Nat
  /-- Access (Table 2-17). -/
  access : Access := .s
  /-- PF only (Table 2-17). -/
  pf : Bool := false
  /-- Deferred (Table 2-17). -/
  deferred : Bool := false
  /-- Allowed during Freeze (Table 12-5). -/
  inFreeze : MbxReq → Bool := fun _ => false
  /-- Allowed while Purged (Table 12-5). -/
  inPurge : Bool := false
  /-- Writes a region the zero-fill under way covers (R348). -/
  region : MbxReq → State → Bool := fun _ _ => false
  /-- Refused in Standby, Resync and Isolated (R393). -/
  active : Bool := false
  /-- The further mode checks of step 8: the DETAIL of E_STATE where they fail. -/
  modes : MbxReq → State → Option Nat := fun _ _ => none
  /-- The guard condition of Table 11-4, for access S. -/
  guard : MbxReq → State → Bool := fun _ _ => false
  /-- Written to the Ledger (R511). -/
  logged : Bool := false
  /-- Payload bytes that are secret: offset and length (R511). -/
  secret : Nat × Nat := (0, 0)
  /-- The header FLAGS bits the command has (Table 5-3). -/
  flags : Nat := 0
  /-- Runs in recovery mode (R448). -/
  inRecovery : Bool := false

/-- A zero-fill of every protected region runs (R348). -/
def fillingAll (_ : MbxReq) (s : State) : Bool := s.scarecrow.zerofill == 5

/-- What a command's own checks and execution answer. -/
structure Reply where
  /-- The state after it. -/
  st : State
  /-- STATUS of the response. -/
  status : Nat := 0
  /-- DETAIL of the response. -/
  detail : Nat := 0
  /-- Payload of the response. -/
  payload : Bytes := []
  /-- The mailbox stays BUSY for this. -/
  hold : Option HeldFor := none
  /-- For a deferred command: what its DMA reads later. -/
  file : Option Bytes := none
  /-- For a deferred command: how its exchange with a card goes. -/
  link : CardLink := []

/-- The command fails and changes nothing. -/
abbrev reject (s : State) (status detail : Nat) : Reply := { st := s, status, detail }

/-- The command succeeds. -/
abbrev accept (s : State) (payload : Bytes) : Reply := { st := s, payload }

/-! ### Payload format (step 10) -/

/-- The payload offset of the first reserved byte that is not zero (R8, R512). -/
def firstReserved (b : Bytes) (rs : List (Nat × Nat)) : Option Nat :=
  rs.findSome? (fun r => (firstNonZero (slice b r.1 r.2)).map (· + r.1))

/-- The payload has the wrong length, or a reserved byte is not zero. A wrong length is E_LENGTH_MISMATCH with the
actual count, notes/assumptions/20.md (DEDUCED). -/
def badFormat (q : MbxReq) (n : Nat) (rs : List (Nat × Nat)) : Option (Nat × Nat) :=
  if q.payload.length != n then some (eLengthMismatch, q.payload.length)
  else (firstReserved q.payload rs).map (fun o => (eFormat, 32 + o))

/-- Check the format, then go on. A reserved byte that is not zero and a field that `k` finds out of range are faults of one
step, whose DETAIL is the offset of the first (R512). -/
def withFormat (q : MbxReq) (n : Nat) (rs : List (Nat × Nat)) (s : State) (k : Reply) : Reply :=
  match badFormat q n rs with
  | some (st, d) => if st == eFormat && k.status == eFormat && k.detail < d then reject s eFormat k.detail else reject s st d
  | none => k

/-- What stands beside the first condition that holds: the DETAIL of the first field out of range. -/
def firstField (l : List (Bool × Nat)) : Option Nat := (l.find? (·.1)).map (·.2)

/-- The payload's `n`-byte field at `off`. -/
def fld (q : MbxReq) (off n : Nat) : Nat := rd q.payload off n

/-! ### Approvals (R333) -/

/-- An approval covers the command (R333); none does while no officer record exists (R331). -/
def covers (s : State) (code : Nat) (q : MbxReq) (a : Approval) : Bool :=
  !s.officers.isEmpty && a.approved && a.code == code && a.digest == sha3 q.payload && a.client == q.fn && s.now < a.expires

/-- The oldest approval that covers the command (R333). -/
def coveringApproval (s : State) (code : Nat) (q : MbxReq) : Option Approval := s.approvals.find? (covers s code q)

/-- The state with an approval consumed. -/
def consumeApproval (s : State) (a : Approval) : State :=
  { s with approvals := s.approvals.filter (fun b => b.no != a.no) }

/-- OFFICER_ENROL from client 0 needs no approval while no officer record exists (R331). -/
def firstOfficer (s : State) (c : CmdSpec) (q : MbxReq) : Bool :=
  c.code == 0x0802 && q.fn == 0 && s.officers.isEmpty

/-- The command is guarded (R335). -/
def isGuarded (s : State) (c : CmdSpec) (q : MbxReq) : Bool :=
  (c.access == .q && !firstOfficer s c q) || (c.access == .s && c.guard q s)

/-! ### The checks of R38 -/

/-- Steps 1 to 5 of R38. -/
def headerCheck (c : CmdSpec) (q : MbxReq) (s : State) : Option (Nat × Nat) :=
  if q.flags != 0 && q.flags != c.flags then some (eFormat, 2)
  else if !allZero q.rsv then some (eFormat, 16 + (firstNonZero q.rsv).getD 0)
  else if 4064 < q.len then some (eLength, 8)
  else if c.pf && q.fn != 0 then some (eDenied, 0)
  else if c.access != .n && !sessionAuthed s q.fn q.session then some (eAuth, 0)
  else none

/-- Microseconds left of a zero-fill (R348). -/
def zerofillLeft (s : State) : Nat := s.scarecrow.zerofillEnd - s.now

/-- The drain before an activation pause turns the command away (R436 step 2): the µs that can remain. -/
def drainLeft (s : State) (code : Nat) : Option Nat :=
  match s.update.activation with
  | .draining _ _ since => if code == 0x0001 || code == 0x0A06 then none else some (since + 200000 - s.now)
  | _ => none

/-- Steps 6 to 8 of R38. -/
def modeCheck (c : CmdSpec) (q : MbxReq) (s : State) : Option (Nat × Nat) :=
  if purged s && !c.inPurge then some (ePurged, 0)
  else if frozen s && !c.inFreeze q then some (eFrozen, alarmLevel s)
  else if s.update.recovery && !(c.inRecovery && q.fn == 0) then some (eState, deviceStatus s)
  else if (drainLeft s c.code).isSome then some (eBusy, (drainLeft s c.code).getD 0)
  else if c.active && passiveRole s then some (eState, deviceStatus s)
  else if (c.modes q s).isSome then some (eState, (c.modes q s).getD 0)
  else if c.region q s then some (eBusy, zerofillLeft s)
  else if c.deferred && !(eventRingOf (fnOf s q.fn) 0).enabled then some (eState, deviceStatus s)
  else if c.deferred && 8 ≤ (fnOf s q.fn).ops.length then some (eBusy, 0)
  else none

/-! ### Ledger and response -/

/-- A payload with its secret bytes zeroed (R511). -/
def redact (sec : Nat × Nat) (b : Bytes) : Bytes :=
  b.take sec.1 ++ zeros (min sec.2 (b.length - sec.1)) ++ b.drop (sec.1 + sec.2)

/-- The secret bytes of a command's payload, by code (R511): keys and PINs. -/
def secretOf (code : Nat) : Nat × Nat :=
  match code with
  | 0x0102 => (16, 4048)
  | 0x0802 => (4, 12)
  | 0x0806 => (8, 12)
  | _ => (0, 0)

/-- DATA of a command's Ledger entry (Table 10-8). -/
def commandData (code : Nat) (payload : Bytes) : Bytes :=
  let p := redact (secretOf code) payload
  sha3 p ++ fit 32 p

/-- The Ledger entry of a command (R511). -/
def logCommand (s : State) (code fn tag status detail : Nat) (payload : Bytes) : State :=
  ledger s code 0 fn tag status detail (commandData code payload)

/-- The codes R511 lists. -/
def loggedCodes : List Nat :=
  [0x0005, 0x0006, 0x0101, 0x0102, 0x0103, 0x0104, 0x0105, 0x0107, 0x0111, 0x0112, 0x0230,
   0x0501, 0x0504, 0x0506, 0x0507, 0x0508, 0x0509, 0x0602, 0x0603, 0x0604, 0x0606, 0x0607, 0x0609,
   0x0701, 0x0703, 0x0704, 0x0705, 0x0802, 0x0803, 0x0804, 0x0805, 0x0806, 0x0807, 0x0808] ++
  [0x0901, 0x0902, 0x0904, 0x0905, 0x0906, 0x0A01, 0x0A02, 0x0A04, 0x0A05, 0x0A07, 0x0A08,
   0x0B01, 0x0B04, 0x0C02, 0x0C04, 0x0D02, 0x0D03, 0x0D05, 0x0D06, 0x0D07, 0x0E02, 0x0E03]

/-- R511 writes the command of this code to the Ledger. -/
def isLogged (code : Nat) : Bool := loggedCodes.contains code

/-- Write the response, read DONE and signal (R37, R39 step 5). -/
def respond (s : State) (code fn tag status detail : Nat) (payload : Bytes) : State :=
  let w := fnOf s fn
  let hdr := le 2 code ++ le 2 status ++ le 4 tag ++ le 4 payload.length ++ le 4 detail ++ le 8 s.now ++
    le 4 (w.mbxSeq + 1) ++ zeros 4
  let s := setFn s fn { w with state := .done, rspBuf := hdr ++ payload, mbxSeq := w.mbxSeq + 1, held := none }
  raiseCause s fn .mbxDone

/-- End a command: its Ledger entry when R511 lists it, then the response (R310). -/
def finishCmd (s : State) (code fn tag status detail : Nat) (reqPayload payload : Bytes) : State :=
  let s := if isLogged code then logCommand s code fn tag status detail reqPayload else s
  respond s code fn tag status detail payload

/-- Start a deferred operation and answer with its number (R41). -/
def startDeferred (s : State) (c : CmdSpec) (q : MbxReq) (r : Reply) : State :=
  let w := fnOf s q.fn
  let no := w.opNo + 1
  let op : DefOp := { no, code := c.code, tag := q.tag, started := s.now, payload := q.payload,
                      file := r.file, link := r.link, session := q.session }
  let s := setFn s q.fn { w with opNo := no, ops := w.ops ++ [op] }
  respond s c.code q.fn q.tag sOk no []

/-- What the mailbox does with the command's own reply. -/
def settleReply (c : CmdSpec) (q : MbxReq) (r : Reply) : State :=
  match r.hold with
  | some why =>
    let w := fnOf r.st q.fn
    let h : Held := { code := c.code, tag := q.tag, payload := q.payload, why, turn := r.st.turnNo, session := q.session }
    setFn { r.st with turnNo := r.st.turnNo + 1 } q.fn { w with state := .busy, held := some h }
  | none =>
    if c.deferred && r.status == sOk then startDeferred r.st c q r
    else finishCmd r.st c.code q.fn q.tag r.status r.detail q.payload r.payload

/-- The command after steps 1 to 5: steps 6 to 9, then its own checks and execution (R38). -/
def runChecked (c : CmdSpec) (body : MbxReq → State → Reply) (q : MbxReq) (s : State) : State :=
  match modeCheck c q s with
  | some (st, d) => finishCmd s c.code q.fn q.tag st d q.payload []
  | none =>
    if isGuarded s c q then
      match coveringApproval s c.code q with
      | none => finishCmd s c.code q.fn q.tag eGuarded 0 q.payload []
      | some a => settleReply c q (body q (consumeApproval s a))
    else settleReply c q (body q s)

/-- GO with this command in the buffer of an IDLE mailbox (R38, R39). A command that fails steps 1 to 5 leaves no
Ledger entry (R511). -/
def runIdle (c : CmdSpec) (body : MbxReq → State → Reply) (q : MbxReq) (s : State) : State :=
  match headerCheck c q s with
  | some (st, d) => respond s c.code q.fn q.tag st d []
  | none =>
    let s := if c.access == .n then s else touchSession s q.fn q.session
    runChecked c body q s

/-- GO while the mailbox is not IDLE (R39). -/
def rejectGo (s : State) (f : Nat) : State := setFn s f { fnOf s f with rejectedGo := true }

/-- The mailbox's held command ends (R293, R405, R413). -/
def finishHeld (s : State) (f status detail : Nat) (payload : Bytes) : State :=
  match (fnOf s f).held with
  | some h => touchSession (finishCmd s h.code f h.tag status detail h.payload payload) f h.session
  | none => s

/-! ### The end of a deferred operation (R41, R64) -/

/-- The operation `no` of a function, if it runs. -/
def opOf (s : State) (f no : Nat) : Option DefOp := (fnOf s f).ops.find? (fun o => o.no == no)

/-- End an operation: the Ledger entry (R511), then OP_DONE on event ring 0 with the number when OK. Where a function-level
reset has taken its function, its outcome goes to the Ledger whatever its code, and no OP_DONE is posted (R64). -/
def endOp (s : State) (f : Nat) (o : DefOp) (status detail : Nat) (record : Bytes) : State :=
  let w := fnOf s f
  let s := touchSession (setFn s f { w with ops := w.ops.filter (fun p => p.no != o.no) }) f o.session
  let s := if isLogged o.code || o.silent then logCommand s o.code f o.tag status detail o.payload else s
  if o.silent then s
  else
    let ev : Event := { type := 0x0002, status, tag := o.tag, detail := if status == sOk then o.no else detail, record }
    postCompletion s f 0 ev

end Sys2Proof.Machine
end

