-- ==== Sys2Proof/Machine/Keys.lean ====
section
/-! DEFINITION. Key slots and handles (R286–R298): how a handle names a slot, what a client may do with it, and
the write of a slot with its fence and commit (R152, R293). -/

namespace Sys2Proof.Machine

/-! ### Handles (Table 0-5) -/

/-- Class, bits [31:30]. -/
def hClass (h : Nat) : Nat := bits h 31 30
/-- Generation, bits [29:20]. -/
def hGen (h : Nat) : Nat := bits h 29 20
/-- Index, bits [19:0]. -/
def hIndex (h : Nat) : Nat := h % 2 ^ 20

/-- The handle of class, generation and index. -/
def handle (cls gen index : Nat) : Nat := cls * 2 ^ 30 + gen * 2 ^ 20 + index

/-- The index is that of a symmetric slot. -/
def symIndex (i : Nat) : Bool := i < 0x10000
/-- The index is that of an asymmetric slot. -/
def asymIndex (i : Nat) : Bool := 0x10000 ≤ i && i < 0x10800
/-- The index lies outside both ranges (R287). -/
def badIndex (i : Nat) : Bool := 0x10800 ≤ i
/-- A field that takes a symmetric (`sym`) or an asymmetric key names an index in neither range or in the other; handle 0 is
"no key" (R287). -/
def wrongIndex (sym : Bool) (h : Nat) : Bool := badIndex (hIndex h) || (h != 0 && symIndex (hIndex h) != sym)
/-- The strand-reserved range (R102). -/
def strandIndex (i : Nat) : Bool := 0xC000 ≤ i && i < 0x10000

/-- Key classes (Table 0-5). -/
abbrev clsGeneral : Nat := 0
abbrev clsEvidence : Nat := 1
abbrev clsCustody : Nat := 2
abbrev clsPublic : Nat := 3

/-- Attribute bits (Table 10-3). -/
abbrev aEncrypt : Nat := 0
abbrev aDecrypt : Nat := 1
abbrev aSign : Nat := 2
abbrev aVerify : Nat := 3
abbrev aDerive : Nat := 4
abbrev aWrap : Nat := 5
abbrev aUnwrap : Nat := 6
abbrev aExportable : Nat := 7
abbrev aShared : Nat := 8
abbrev aSheaf : Nat := 9

/-- OWNER of an ATTR word. -/
def attrOwner (a : Nat) : Nat := bits a 21 16

/-- Reserved ATTR bits are set (Table 10-3). -/
def attrReserved (a : Nat) : Bool := bits a 15 10 != 0 || bits a 31 22 != 0

/-! ### Slots -/

/-- The generation the wear table keeps (R282). -/
def genOf (s : State) (i : Nat) : Nat := (tblGet s.wear i {}).gen

/-- Lifetime advances of a slot (R286). -/
def advancesOf (s : State) (i : Nat) : Nat := (tblGet s.wear i {}).advances

/-- The slot is worn (R286). -/
def worn (s : State) (i : Nat) : Bool := 800000000000000 ≤ advancesOf s i

/-- The generation after `g` (R287). -/
def nextGen (g : Nat) : Nat := if 1023 ≤ g then 1 else g + 1

/-- The slot is fenced by a write that has not committed (R152). -/
def fenced (s : State) (i : Nat) : Bool := s.writes.any (fun w => w.index == i)

/-- A retired slot (R157). -/
def retired (k : KeySlot) : Bool := 2 ^ 48 ≤ k.invocation

/-- The key a handle names, or the status and DETAIL of its absence: an empty slot with DETAIL 0, another
generation or class with the current generation (R152, R287). -/
def keyAt (s : State) (h : Nat) : Except (Nat × Nat) KeySlot :=
  match tblFind s.keys (hIndex h) with
  | none => .error (eKeyAbsent, 0)
  | some k =>
    if k.cls == hClass h && genOf s (hIndex h) == hGen h then .ok k
    else .error (eKeyAbsent, genOf s (hIndex h))

/-- The key a handle names for the device's own purposes, whatever its OWNER (R290). -/
def ownKey (s : State) (h : Nat) : Option KeySlot :=
  match keyAt s h with
  | .ok k => if k.damaged then none else some k
  | .error _ => none

/-- A key that the device signs with; it needs the bit SIGN (R289). -/
def signKey (s : State) (h : Nat) : Option KeySlot := (ownKey s h).filter (fun k => bit k.attr aSign)

/-- A key that the device verifies with; it needs the bit VERIFY (R289). -/
def verifyKey (s : State) (h : Nat) : Option KeySlot := (ownKey s h).filter (fun k => bit k.attr aVerify)

/-- A client may name the key in a job (R290). -/
def mayUse (k : KeySlot) (c : Nat) : Bool := !k.session && (attrOwner k.attr == c || bit k.attr aShared)

/-- The commands of R290 are open to the OWNER and the PF; no client can name a session slot (R274). -/
def mayManage (k : KeySlot) (c : Nat) : Bool := !k.session && (attrOwner k.attr == c || c == 0)

/-! ### Key types (Table 10-2) -/

/-- The symmetric types. -/
def symType (t : Nat) : Bool := t == 0x01 || t == 0x02
/-- The public types. -/
def publicType (t : Nat) : Bool := t == 0x11 || t == 0x13 || t == 0x15 || t == 0x17
/-- The lattice types (R5). -/
def latticeType (t : Nat) : Bool := 0x14 ≤ t && t ≤ 0x17

/-- The classes of a type. -/
def typeClasses (t : Nat) : List Nat :=
  match t with
  | 0x01 => [0, 1, 2]
  | 0x02 => [0]
  | 0x10 => [0, 1, 2]
  | 0x12 => [0, 1, 2]
  | 0x14 => [0, 1, 2]
  | 0x16 => [0, 2]
  | 0x11 => [3]
  | 0x13 => [3]
  | 0x15 => [3]
  | 0x17 => [3]
  | _ => []

/-- The curves of Table 7-1. -/
def baseCurve (id : Nat) : Option Curve :=
  match id with
  | 0x0001 => some { id, form := 1, cofactor := 1, pBits := 256, nBits := 256, ops := 5 }
  | 0x0002 => some { id, form := 1, cofactor := 1, pBits := 384, nBits := 384, ops := 5 }
  | 0x0003 => some { id, form := 1, cofactor := 1, pBits := 521, nBits := 521, ops := 5 }
  | 0x0011 => some { id, form := 1, cofactor := 1, pBits := 256, nBits := 256, ops := 5 }
  | 0x0012 => some { id, form := 1, cofactor := 1, pBits := 384, nBits := 384, ops := 5 }
  | 0x0013 => some { id, form := 1, cofactor := 1, pBits := 512, nBits := 512, ops := 5 }
  | 0x0021 => some { id, form := 2, cofactor := 8, pBits := 255, nBits := 253, ops := 4 }
  | 0x0022 => some { id, form := 3, cofactor := 8, pBits := 255, nBits := 253, ops := 2 }
  | 0x0023 => some { id, form := 2, cofactor := 4, pBits := 448, nBits := 446, ops := 4 }
  | 0x0024 => some { id, form := 3, cofactor := 4, pBits := 448, nBits := 446, ops := 2 }
  | _ => none

/-- The curves of the base tables (R276): P-192, brainpoolP192r1, P-224, brainpoolP224r1 and brainpoolP320r1. -/
def tableCurve (id : Nat) : Option Curve :=
  let mk := fun n => some ({ id, form := 1, cofactor := 1, pBits := n, nBits := n, ops := 5 } : Curve)
  match id with
  | 0x0100 => mk 192
  | 0x0101 => mk 192
  | 0x0102 => mk 224
  | 0x0103 => mk 224
  | 0x0104 => mk 320
  | _ => none

/-- A curve present in the Mill (R204). -/
def curveOf (s : State) (id : Nat) : Option Curve :=
  match baseCurve id with
  | some c => some c
  | none =>
    match tableCurve id with
    | some c => some c
    | none => tblFind s.curves id

/-- The order of a curve's base point. -/
def orderOf (s : State) (id : Nat) : Nat :=
  match tblFind s.curves id with
  | some c => c.n
  | none => Config.curveOrder id

/-- The parameters of a loaded curve as they enter the operations on it; none for the curves of Table 7-1 and of the base
tables, which their ID names. -/
def curveBytes (s : State) (id : Nat) : Bytes :=
  match tblFind s.curves id with
  | some c => le 1 c.form ++ [c.p, c.a, c.b, c.gx, c.gy, c.n].flatMap (be 66)
  | none => []

/-- L of Table 7-4. -/
def scalarLen (c : Curve) : Nat := ceilDiv c.nBits 8
/-- P of Table 7-4. -/
def fieldLen (c : Curve) : Nat := ceilDiv c.pBits 8

/-- Length of a key, private or public, in the encodings of RFC 7748 and RFC 8032 (R210, Table 10-2). -/
def rfcLen (id : Nat) : Option Nat :=
  match id with
  | 0x0021 | 0x0022 => some 32
  | 0x0023 => some 56
  | 0x0024 => some 57
  | _ => none

/-- Length of an EC private key (Table 10-2). -/
def ecPrivLen (c : Curve) : Nat := (rfcLen c.id).getD (scalarLen c)

/-- Length of an EC public key (Table 10-2). -/
def ecPubLen (c : Curve) : Nat := (rfcLen c.id).getD (1 + 2 * fieldLen c)

/-- Material bytes of a type and SET (Table 10-2); `none` where SET does not fit. -/
def keyLen (s : State) (t set : Nat) : Option Nat :=
  match t with
  | 0x01 => if set == 128 || set == 192 || set == 256 then some (set / 8) else none
  | 0x02 => if set == 2 then some 16 else if set == 3 then some 24 else none
  | 0x10 => (curveOf s set).map ecPrivLen
  | 0x11 => (curveOf s set).map ecPubLen
  | 0x12 => if 2048 ≤ set && set ≤ 8192 && set % 8 == 0 then some (32 + set / 8 + 5 * ceilDiv set 16) else none
  | 0x13 => if 1024 ≤ set && set ≤ 8192 && set % 8 == 0 then some (32 + set / 8) else none
  | 0x14 => if set == 44 || set == 65 || set == 87 then some 32 else none
  | 0x15 => match set with | 44 => some 1312 | 65 => some 1952 | 87 => some 2592 | _ => none
  | 0x16 => if set == 512 || set == 768 || set == 1024 then some 64 else none
  | 0x17 => match set with | 512 => some 800 | 768 => some 1184 | 1024 => some 1568 | _ => none
  | _ => none

/-- The public half of a key (Table 10-2); `none` for AES and TDEA. An RSA pair's is its first fields. -/
def publicOf (s : State) (k : KeySlot) : Option Bytes :=
  match k.type with
  | 0x01 => none
  | 0x02 => none
  | 0x12 => some (k.material.take (32 + k.set / 8))
  | 0x10 => some (fit ((keyLen s 0x11 k.set).getD 0) (Config.publicHalf 0x10 k.set (k.material ++ curveBytes s k.set)))
  | 0x14 => some (fit ((keyLen s 0x15 k.set).getD 0) (Config.publicHalf 0x14 k.set k.material))
  | 0x16 => some (fit ((keyLen s 0x17 k.set).getD 0) (Config.publicHalf 0x16 k.set k.material))
  | _ => some k.material

/-- The checks of R294 on imported RSA pairs: n = p·q, e odd and at least 3, the CRT exponents and inverse. -/
def rsaPairOk (set : Nat) (m : Bytes) : Bool :=
  let k := set / 8
  let h := ceilDiv set 16
  let f := fun off n => ofBe (slice m off n)
  let n := f 0 k
  let e := f k 32
  let p := f (k + 32) h
  let q := f (k + 32 + h) h
  let dp := f (k + 32 + 2 * h) h
  let dq := f (k + 32 + 3 * h) h
  let qi := f (k + 32 + 4 * h) h
  n == p * q && e % 2 == 1 && 3 ≤ e && e * dp % (p - 1) == 1 % (p - 1) && e * dq % (q - 1) == 1 % (q - 1) &&
    q * qi % p == 1 % p

/-- An RSA public key passes Table 7-5. -/
def rsaPublicOk (set : Nat) (m : Bytes) : Bool :=
  let n := ofBe (slice m 0 (set / 8))
  let e := ofBe (slice m (set / 8) 32)
  n % 2 == 1 && 2 ^ (set - 1) ≤ n && n < 2 ^ set && e % 2 == 1 && 3 ≤ e

/-- The field prime and the coefficients a and b of a short Weierstrass curve: a loaded table's, or the standard's. -/
def curveField (s : State) (id : Nat) : Nat × Nat × Nat :=
  match tblFind s.curves id with
  | some c => (c.p, c.a, c.b)
  | none => Config.curveField id

/-- A short Weierstrass public key passes Table 7-5: its first byte is 0x04, X and Y are below p, and the point is on the curve; it
is then not the identity, which has no such encoding. For a cofactor above 1, n·Q is the identity. -/
def weierstrassOk (s : State) (c : Curve) (set : Nat) (m : Bytes) : Bool :=
  let l := fieldLen c
  let x := ofBe (slice m 1 l)
  let y := ofBe (slice m (1 + l) l)
  let f := curveField s set
  m.head? == some 4 && x < f.1 && y < f.1 && y * y % f.1 == (x * x * x + f.2.1 * x + f.2.2) % f.1 &&
  (c.cofactor ≤ 1 || Config.inSubgroup set (m ++ curveBytes s set))

/-- An Ed25519 or Ed448 point passes Table 7-5: y is below p, and the point that it names with its sign bit is on the curve, has
not x = 0 with the sign bit set, and is not of small order. -/
def edPointOk (set : Nat) (m : Bytes) : Bool :=
  let y := if set == 0x24 then ofLe (m.take 56) + (m.getD 56 0).toNat % 128 * 2 ^ 448 else ofLe m % 2 ^ 255
  let p := if set == 0x24 then 2 ^ 448 - 2 ^ 224 - 1 else 2 ^ 255 - 19
  y < p && Config.edPoint set m

/-- An EdDSA signature passes Table 7-5: R as a public key, and S below n. -/
def eddsaSigOk (set : Nat) (sig : Bytes) : Bool :=
  let l := if set == 0x24 then 57 else 32
  edPointOk set (sig.take l) && ofLe (sig.drop l) < Config.curveOrder set

/-- The 12-bit coefficients of an ML-KEM encapsulation key are below the modulus 3,329 (FIPS 203, Table 7-5). -/
def kemCoefficients : Bytes → Bool
  | a :: b :: c :: r =>
    a.toNat + 256 * (b.toNat % 16) < 3329 && b.toNat / 16 + 16 * c.toNat < 3329 && kemCoefficients r
  | _ => true

/-- An ML-KEM encapsulation key passes Table 7-5: all but its 32-byte seed are coefficients. -/
def kemKeyOk (set : Nat) (m : Bytes) : Bool := kemCoefficients (m.take (set / 256 * 384))

/-- A public key on a curve passes Table 7-5. A Montgomery value is never rejected as such; a loaded twisted Edwards curve has no
operation of Table 7-5 (R205). -/
def ecPublicOk (s : State) (set : Nat) (m : Bytes) : Bool :=
  match curveOf s set with
  | some c =>
    if c.form == 1 then weierstrassOk s c set m
    else if c.form == 3 && (set == 0x22 || set == 0x24) then edPointOk set m
    else if c.form == 3 then Config.keyValid 0x11 set (m ++ curveBytes s set)
    else true
  | none => false

/-- Imported material passes the checks of R294. -/
def materialOk (s : State) (t set : Nat) (m : Bytes) : Bool :=
  match t with
  | 0x12 => rsaPairOk set m
  | 0x13 => rsaPublicOk set m
  | 0x10 =>
    match curveOf s set with
    | some c => (rfcLen c.id).isSome || (1 ≤ ofBe m && ofBe m < orderOf s set)
    | none => false
  | 0x11 => ecPublicOk s set m
  | 0x15 => Config.keyValid 0x15 set m
  | 0x17 => kemKeyOk set m
  | _ => true

/-! ### Which slot a key write takes (R293) -/

/-- An empty slot that is not worn and has no write under way. -/
def emptySlot (s : State) (i : Nat) : Bool := !tblHas s.keys i && !worn s i && !fenced s i

/-- The index a write names: its own, or for 0xF_FFFF the lowest empty slot of the type's range; the range's size
where there is none (R293, R513). -/
def writeIndex (s : State) (h t : Nat) : Except (Nat × Nat) Nat :=
  if hIndex h == 0xFFFFF then
    if symType t then
      match scanFrom (emptySlot s) 49152 0 with
      | some i => .ok i
      | none => .error (eLimit, 49152)
    else
      match scanFrom (emptySlot s) 2048 0x10000 with
      | some i => .ok i
      | none => .error (eLimit, 2048)
  else .ok (hIndex h)

/-- The range rules of a key write's HANDLE (R287): DETAIL is the field's offset `off`. -/
def badWriteHandle (h t : Nat) : Bool :=
  hIndex h != 0xFFFFF && (badIndex (hIndex h) || symType t != symIndex (hIndex h))

/-- The checks of R293 on a write by client `c`: the slot's index, or why not. -/
def writeTarget (s : State) (c h t attr : Nat) : Except (Nat × Nat) Nat :=
  if strandIndex (hIndex h) then .error (eDenied, 0)
  else if c != 0 && attrOwner attr != c then .error (eDenied, 0)
  else match writeIndex s h t with
  | .error e => .error e
  | .ok i =>
    match tblFind s.keys i with
    | some k =>
      if !mayManage k c then .error (eDenied, 0)
      else if k.cls != hClass h || genOf s i != hGen h then .error (eKeyAbsent, genOf s i)
      else if worn s i then .error (eLimit, i)
      else .ok i
    | none =>
      if hGen h != 0 then .error (eKeyAbsent, 0)
      else if worn s i then .error (eLimit, i)
      else .ok i

/-! ### The write itself -/

/-- Put a key into slot `i` with the next generation; its invocation counter starts at 0 (R287, R293, R157). -/
def storeKey (s : State) (i : Nat) (k : KeySlot) : State :=
  let g := nextGen (genOf s i)
  let k := { k with invocation := 0, damaged := false }
  let w := tblGet s.wear i {}
  share { s with keys := tblSet s.keys i k, wear := tblSet s.wear i { w with gen := g } } (.key i g (some k))

/-- Zero-fill slot `i`, keeping its generation (R298). -/
def eraseKey (s : State) (i : Nat) : State :=
  share { s with keys := tblDel s.keys i } (.key i (genOf s i) none)

/-- Change a slot's attributes, keeping generation and invocation counter (R297). -/
def setKey (s : State) (i : Nat) (k : KeySlot) : State :=
  share { s with keys := tblSet s.keys i k } (.key i (genOf s i) (some k))

/-- Apply a write at its commit (R293): erase, store with a new generation, or change the attributes alone (R297). -/
def applyWrite (s : State) (w : SlotWrite) : State :=
  match w.content with
  | none => eraseKey s w.index
  | some k =>
    if w.newGen then storeKey s w.index k
    else match tblFind s.keys w.index with
      | some old => setKey s w.index { old with attr := k.attr }
      | none => s

/-- Begin a write that fences its slot; the mailbox waits for the commit (R152, R293). -/
def beginWrite (s : State) (q : MbxReq) (code i cls : Nat) (content : Option KeySlot) (newGen : Bool)
    (reply : Bytes) : Reply :=
  let w : SlotWrite := { index := i, content, newGen, fn := q.fn, code, tag := q.tag, payload := q.payload, reply,
                         purgeClass := cls }
  { st := { s with writes := s.writes ++ [w] }, hold := some (.commit i) }

/-- A command that names a slot whose write has not committed waits for it (R293). -/
def awaitSlot (s : State) (i : Nat) (k : Reply) : Reply :=
  if fenced s i then { st := s, hold := some (.retry i) } else k

/-! ### Using a key -/

/-- Take the next invocation-counter value of slot `i` (R155): the value, with the counter and the slot's wear
advanced. -/
def takeInvocation (s : State) (i : Nat) : Nat × State :=
  match tblFind s.keys i with
  | none => (0, s)
  | some k =>
    let s := rememberAcked s (0x100000 + i) k.invocation
    let w := tblGet s.wear i {}
    let k' := { k with invocation := k.invocation + 1 }
    let s := { s with keys := tblSet s.keys i k', wear := tblSet s.wear i { w with advances := w.advances + 1 } }
    (k.invocation, share s (.key i (genOf s i) (some k')))

/-- The 96-bit IV of fixed field and invocation value (R155). -/
def makeIv (fixed : Bytes) (v : Nat) : Bytes := fit 4 fixed ++ be 8 v

/-- ECDSA P-384 with SHA-384 over a message: r then s (R43, R305 and others). -/
def signP384 (s : State) (priv msg : Bytes) : Bytes := fit 96 (Config.sign 0x0401 (le 2 2) priv (sha384 msg) s.rng)

/-- It verifies. -/
def verifyP384 (pub msg sig : Bytes) : Bool := Config.verify 0x0402 (le 2 2) pub (sha384 msg) sig

/-- The ECDSA key that SEAL_KEY_SET has named, while its slot holds it. -/
def namedSealKey (s : State) : Option KeySlot := if s.sealKeys.named then ownKey s s.sealKeys.ecdsa else none

/-- The seal ECDSA key: one whose SIGN has been cleared signs nothing (R289), notes/assumptions/29.md (DESIGN CHOICE). -/
def sealEcdsaKey (s : State) : Option KeySlot := if s.sealKeys.named then signKey s s.sealKeys.ecdsa else none

/-- A P-384 public key passes the checks of Table 7-5. -/
def p384Ok (s : State) (pub : Bytes) : Bool := pub.length == 97 && ecPublicOk s 2 pub

/-- ML-DSA-65, pure, with an empty context. -/
def signMldsa65 (s : State) (priv msg : Bytes) : Bytes := fit 3309 (Config.sign 0x040A (le 2 65) priv msg s.rng)

/-- It verifies. -/
def verifyMldsa65 (pub msg sig : Bytes) : Bool := Config.verify 0x040B (le 2 65) pub msg sig

end Sys2Proof.Machine
end

