-- ==== Sys2Proof/Machine/CardLine.lean ====
section
/-! DEFINITION. What goes over a tally-card slot's lines (R316, R317, R320): the answer to reset, the blocks of T=1 with their
retransmission and resynchronisation, the split of a block over two lines, and the exchange of one APDU. -/

namespace Sys2Proof.Machine

/-! ### Parts by number -/

/-- Slot TCn. -/
def cardSlotOf (s : State) (n : Nat) : CardSlot := tblGet s.cards n {}

/-- Change it. -/
def setCardSlot (s : State) (n : Nat) (v : CardSlot) : State := { s with cards := tblSet s.cards n v }

/-- The card in a slot that is ready. -/
def readyCard (s : State) (n : Nat) : Option Card :=
  if (cardSlotOf s n).status == .ready then (cardSlotOf s n).card else none

/-- Change the card in a slot. -/
def setCard (s : State) (n : Nat) (c : Card) : State := setCardSlot s n { cardSlotOf s n with card := some c }

/-! ### The answer to reset (ISO/IEC 7816-3), notes/assumptions/26.md (PRESUMED: the standard's layout) -/

/-- The XOR of all bytes: 0 over what a check byte ends. -/
def xorAll (b : Bytes) : Nat := b.foldl (fun v x => v ^^^ x.toNat) 0

/-- The interface bytes: group number, protocol that the group is for, letter (0 TA, 1 TB, 2 TC, 3 TD) and value. `y` says which
stand in group `i`, and a TD says it of the next. -/
def atrBytes : Nat → Nat → Nat → Nat → Bytes → List (Nat × Nat × Nat × Nat)
  | 0, _, _, _, _ => []
  | fuel + 1, i, t, y, b =>
    let letters := (List.range 4).filter (fun l => bit y l)
    let g := letters.zip (b.map (·.toNat))
    g.map (fun e => (i, t, e.1, e.2)) ++
      match g.find? (fun e => e.1 == 3) with
      | some e => atrBytes fuel (i + 1) (e.2 % 16) (e.2 / 16) (b.drop letters.length)
      | none => []

/-- What an ATR says; `none` where it is no usable one: TS is no convention of the standard, or the check byte is wrong. -/
def readAtr (b : Bytes) : Option Atr :=
  let xs := atrBytes 32 1 0 (rd b 1 1 / 16) (b.drop 2)
  let value := fun (p : Nat × Nat × Nat × Nat → Bool) => (xs.find? p).map (fun x => x.2.2.2)
  let tds := (xs.filter (fun x => x.2.2.1 == 3)).map (fun x => x.2.2.2 % 16)
  let checked := tds.any (fun t => t != 0)
  if b.length < 2 || 33 < b.length || (rd b 0 1 != 0x3B && rd b 0 1 != 0x3F) || (checked && xorAll (b.drop 1) != 0) then none
  else some {
    ta1 := (value (fun x => x.1 == 1 && x.2.2.1 == 0)).getD 0x11
    ta2 := value (fun x => x.1 == 2 && x.2.2.1 == 0)
    t1 := tds.contains 1
    crc := bit ((value (fun x => 3 ≤ x.1 && x.2.1 == 1 && x.2.2.1 == 2)).getD 0) 0
    ifsc := (value (fun x => 3 ≤ x.1 && x.2.1 == 1 && x.2.2.1 == 0)).getD 32
    classes := (value (fun x => 3 ≤ x.1 && x.2.1 == 15 && x.2.2.1 == 0)).map (· % 64) }

/-- The ATR's class indicator does not exclude a class: bit 1 is class B, bit 2 class C. -/
def allowsClass (a : Atr) (bitNo : Nat) : Bool :=
  match a.classes with | some v => bit v bitNo | none => true

/-- The class at which a card is activated, class C before class B, with its ATR; `none`: neither yields a usable one (R317). CLASS
is numbered as Table 11-5 does. -/
def activationOf (c : Card) : Option (Nat × Bytes × Atr) :=
  match (readAtr c.atrC).filter (allowsClass · 2) with
  | some a => some (3, c.atrC, a)
  | none => ((readAtr c.atrB).filter (allowsClass · 1)).map (fun a => (2, c.atrB, a))

/-- The ATR of the activation in force. -/
def slotAtr (w : CardSlot) : Atr := (readAtr w.atr).getD {}

/-- Fi of TA1, where the slots support it. -/
def fiOf (ta1 : Nat) : Option Nat := match ta1 / 16 with | 0 => some 372 | 1 => some 372 | 9 => some 512 | _ => none

/-- Di of TA1, where the slots support it. -/
def diOf (ta1 : Nat) : Option Nat :=
  match ta1 % 16 with | 1 => some 1 | 2 => some 2 | 3 => some 4 | 4 => some 8 | 5 => some 16 | _ => none

/-- PPS is sent: TA1 is supported and not the default (R317). -/
def sendsPps (ta1 : Nat) : Bool := (fiOf ta1).isSome && (diOf ta1).isSome && ta1 != 0x11 && ta1 != 0x01

/-- The card fails a step of Table 11-1: it offers only T=0, requires CRC, or its specific mode names another protocol or a Fi and Di
that the slots do not have. -/
def cardRefused (a : Atr) : Bool :=
  !a.t1 || a.crc ||
  (match a.ta2 with | some p => p % 16 != 1 || (fiOf a.ta1).isNone || (diOf a.ta1).isNone | none => false)

/-- Bits per second on one line: 4 MHz until PPS, 5 MHz after it (Table 11-1). -/
def baudOf (w : CardSlot) : Nat :=
  let ta1 := (slotAtr w).ta1
  let fi := if w.fast then (fiOf ta1).getD 372 else 372
  let di := if w.fast then (diOf ta1).getD 1 else 1
  ((if w.fast then 5000000 else 4000000) * di + fi / 2) / fi

/-! ### Blocks (R316, R320) -/

/-- A block of T=1 with its LRC, computed over the whole block. -/
def t1Block (pcb : Nat) (inf : Bytes) : Bytes :=
  let b := le 1 0 ++ le 1 pcb ++ le 1 inf.length ++ inf
  b ++ le 1 (xorAll b)

/-- S(IFS request) for the IFSD of Table 11-1. -/
def ifsRequest : Bytes := t1Block 0xC1 (le 1 254)

/-- S(RESYNCH request). -/
def resynchRequest : Bytes := t1Block 0xC0 []

/-- The I-blocks that carry an APDU, chained at the card's IFSC, from send number `ns` on. -/
def t1Chain (ifsc : Nat) : Nat → Nat → Bytes → List Bytes
  | 0, ns, b => [t1Block (0x40 * ns) b]
  | fuel + 1, ns, b =>
    if b.length ≤ ifsc then [t1Block (0x40 * ns) b]
    else t1Block (0x40 * ns + 0x20) (b.take ifsc) :: t1Chain ifsc fuel (1 - ns) (b.drop ifsc)

/-- The bytes at even places. -/
def evens : Bytes → Bytes
  | [] => []
  | [x] => [x]
  | x :: _ :: b => x :: evens b

/-- A block on the lines: in two-line mode its even bytes go on IO and its odd bytes on C4 (R320). -/
def onLines (two : Bool) (b : Bytes) : CardBlock := if two then { io := evens b, c4 := evens (b.drop 1) } else { io := b, c4 := [] }

/-- A block as it goes out where `t` of its transmissions fail: at most two retransmissions, then one S(RESYNCH) and the block again
(Table 11-1). -/
def sendings (t : Nat) (b : Bytes) : List Bytes :=
  List.replicate (min (t + 1) 3) b ++ (if 3 ≤ t then [resynchRequest, b] else [])

/-- How the blocks of an exchange end, by the number of transmissions of each that fail (R316, R320): in two-line mode a second
retransmission ends that mode; otherwise two retransmissions and one S(RESYNCH), and any further failure marks the card mute. -/
def lineEnd (two : Bool) : Bool → List Nat → LineEnd
  | _, [] => .good
  | resynched, t :: ts =>
    if two && 2 ≤ t then .relink
    else if t ≤ 2 then lineEnd two resynched ts
    else if t == 3 && !resynched then lineEnd two true ts
    else .mute

/-! ### Exchanges -/

/-- The slot's supply and lines go off in the order of R318, with this outcome. -/
def dropCard (s : State) (n : Nat) (status : SlotStatus) : State :=
  setCardSlot s n { cardSlotOf s n with status, verified := false, twoLine := false, fast := false, ns := 0, sent := [] }

/-- Two-line mode fails: the card is deactivated, to be activated again and kept in one-line mode until it is removed (R320). -/
def relink (s : State) (n : Nat) : State :=
  let s := dropCard s n .activating
  setCardSlot s n { cardSlotOf s n with oneLine := true }

/-- The blocks of an exchange go out; `apdu` is absent for S(IFS request). -/
def transmit (s : State) (n : Nat) (tries : List Nat) (apdu : Option Bytes) : State :=
  let w := cardSlotOf s n
  let blocks := match apdu with
    | some b => t1Chain (slotAtr w).ifsc b.length w.ns b
    | none => [ifsRequest]
  let out := (List.range blocks.length).flatMap (fun i => sendings (tries.getD i 0) (blocks.getD i []))
  setCardSlot s n { w with sent := out.map (onLines w.twoLine), ns := if apdu.isSome then (w.ns + blocks.length) % 2 else w.ns }

/-- One exchange with the card in slot `n` (R316, R318, R320, R321): the card's answer and itself after it are `f`'s. Without an
answer the card may have acted or not: it was removed, it is silent beyond its time, or its blocks fail. -/
def exchange (s : State) (n : Nat) (x : ApduLink) (apdu : Option Bytes) (f : Card → Nat × Card) : Option Nat × State :=
  match (cardSlotOf s n).card with
  | none => (none, s)
  | some c =>
    let two := (cardSlotOf s n).twoLine
    let s := transmit s n x.tries apdu
    let kept := if x.acted then setCard s n (f c).2 else s
    match x.cut, lineEnd two false x.tries with
    | some .removed, _ => (none, setCardSlot s n {})
    | some .silent, _ => (none, dropCard kept n .mute)
    | none, .mute => (none, dropCard kept n .mute)
    | none, .relink => (none, relink kept n)
    | none, .good => (some (f c).1, setCard s n (f c).2)

/-- How exchange `k` of a command goes; one of which nothing is said goes whole. -/
def linkAt (l : CardLink) (k : Nat) : ApduLink := l.getD k {}

/-- An APDU: CLA, INS, P1, P2 0, and the data behind its length; the Le of one that answers with data (Table 11-2),
notes/assumptions/26.md (PRESUMED: ISO/IEC 7816-4). -/
def apduOf (cla ins p1 : Nat) (data : Bytes) (answers : Bool) : Bytes :=
  le 1 cla ++ le 1 ins ++ le 1 p1 ++ le 1 0 ++ (if data.isEmpty then [] else le 1 data.length ++ data) ++
  (if answers then le 1 0 else [])

/-- READ_STATE. -/
def readStateApdu : Bytes := apduOf 0x80 0xC0 0 [] true
/-- MODE_SET with P1 0x01. -/
def modeSetApdu : Bytes := apduOf 0x80 0xC2 1 [] false
/-- VERIFY. -/
def verifyApdu (pin : Bytes) : Bytes := apduOf 0x00 0x20 0 pin false
/-- BIND or ERASE. -/
def writeApdu (op : Nat) (data : Bytes) : Bytes := apduOf 0x80 (if op == 1 then 0xC6 else 0xCA) 0 data false
/-- SIGN. -/
def signApdu (digest : Bytes) : Bytes := apduOf 0x80 0xC8 0 digest true

end Sys2Proof.Machine
end

