-- ==== Sys2Proof/Machine/CardOps.lean ====
section
/-! DEFINITION. Tally cards (chapter 11): a conforming card's answers (R321, R322), the slots, the custody journal and
its resolution (R323, R324), officer records and locks (R326, R328), approvals (R334). -/

namespace Sys2Proof.Machine

/-! ### Officers and approvals -/

/-- Change an officer record; `none` deletes it (R326). -/
def setOfficer (s : State) (n : Nat) (o : Option Officer) : State :=
  share { s with officers := match o with | some v => tblSet s.officers n v | none => tblDel s.officers n } (.officer n o)

/-- Usable officers (R326). -/
def usableOfficers (s : State) : Nat := (s.officers.filter (fun e => e.2.state == .active)).length

/-- The record naming a card. -/
def officerByCard (s : State) (id : Bytes) : Option (Nat × Officer) := s.officers.find? (fun e => e.2.cardId == fit 16 id)

/-- Every approval is deleted (R334). -/
def dropApprovals (s : State) : State := { s with approvals := [] }

/-! ### A conforming card (Table 11-2) -/

/-- 9000. -/
abbrev swOk : Nat := 0x9000
/-- 6983, PIN locked. -/
abbrev swLocked : Nat := 0x6983
/-- 6985, COMMIT_BEFORE differs. -/
abbrev swCommit : Nat := 0x6985
/-- The answer to an APDU that the card's state forbids: none that Table 11-2 names, and no other is given. FREE VALUE,
notes/assumptions/31.md. -/
def swForbidden : Nat :=
  let v := Config.free 0x6986 0 % 2 ^ 16
  if v == swOk || v == swLocked || v == swCommit || v == 0x6982 || v / 16 == 0x63C then 0x6986 else v

/-- VERIFY: the answer and the card after it (R321). -/
def cardVerify (c : Card) (pin : Bytes) : Nat × Card :=
  if c.state == 2 then (swLocked, c)
  else if c.state != 1 then (swForbidden, c)
  else if pin == c.pin && 6 ≤ pin.length && pin.length ≤ 12 && allDigits pin then (swOk, c)
  else
    let n := c.pinTries - 1
    (0x63C0 + n, { c with pinTries := n, state := if n == 0 then 2 else 1 })

/-- BIND or ERASE, which commits at once (R322). -/
def cardWrite (c : Card) (op : Nat) (verified : Bool) (apdu : Bytes) : Nat × Card :=
  if rd apdu 0 4 != c.commit then (swCommit, c)
  else
    let c' := { c with commit := c.commit + 1, lastDigest := sha3 apdu }
    if op == 1 then
      if 2 ≤ c.state then (swForbidden, c)
      else (swOk, { c' with state := 1, pinTries := 5, pin := slice apdu 14 (rd apdu 13 1) })
    else if c.state == 2 || verified then (swOk, { c' with state := 0, pin := [] })
    else (0x6982, c)

/-- SIGN: P-384 over the SHA-384 digest of `msg` (Table 11-2). -/
def cardSign (s : State) (c : Card) (msg : Bytes) : Bytes := signP384 s c.priv msg

/-! ### The custody journal (R323, R325) -/

/-- Journal states (Table 11-3). -/
abbrev jPending : Nat := 1
/-- DONE. -/
abbrev jDone : Nat := 2
/-- INDETERMINATE. -/
abbrev jIndeterminate : Nat := 3
/-- RESOLVED_DONE. -/
abbrev jResolvedDone : Nat := 4
/-- RESOLVED_REISSUED. -/
abbrev jReissued : Nat := 5
/-- CONFLICT. -/
abbrev jConflict : Nat := 6

/-- A journal entry's 64 bytes (Table 11-3). -/
def journalBytes (e : JournalEntry) : Bytes :=
  le 4 e.jno ++ le 1 e.state ++ le 1 e.op ++ le 1 e.slot ++ le 1 e.officer ++ le 4 e.commitBefore ++ le 2 e.sw ++
  zeros 2 ++ le 8 e.begun ++ fit 16 e.cardId ++ fit 16 e.digest ++ le 8 e.settled

/-- The APDU data is kept only while the entry is PENDING or INDETERMINATE (R323). -/
def settle (s : State) (e : JournalEntry) (state sw : Nat) : JournalEntry :=
  { e with state, sw, settled := s.now, apdu := if state == jIndeterminate || state == jPending then e.apdu else [] }

/-- Change an entry. -/
def setJournal (s : State) (e : JournalEntry) : State :=
  { s with journal := s.journal.map (fun x => if x.jno == e.jno then e else x) }

/-- A PENDING entry for a write about to be sent; the ring holds 1,024 (R323). -/
def beginJournal (s : State) (op slot officer : Nat) (c : Card) (apdu : Bytes) : JournalEntry × State :=
  let e : JournalEntry := { jno := s.journalNo, state := jPending, op, slot, officer, commitBefore := c.commit, sw := 0,
                            begun := s.now, cardId := c.cardId, digest := (sha3 apdu).take 16, settled := s.now, apdu }
  (e, { s with journal := (s.journal ++ [e]).drop (s.journal.length + 1 - 1024), journalNo := s.journalNo + 1 })

/-- A card has an entry in a state. -/
def hasEntry (s : State) (id : Bytes) (state : Nat) : Bool :=
  s.journal.any (fun e => e.cardId == fit 16 id && e.state == state)

/-- Send a write to the card in slot `n` under an entry (R322, R323): the entry as settled, and the state. -/
def sendWrite (s : State) (n : Nat) (e : JournalEntry) (x : ApduLink) : JournalEntry × State :=
  let verified := (cardSlotOf s n).verified
  match exchange s n x (some (writeApdu e.op e.apdu)) (fun c => cardWrite c e.op verified e.apdu) with
  | (some sw, s) =>
    let e := settle s { e with slot := n } (if sw == swCommit then jConflict else jDone) sw
    (e, setJournal s e)
  | (none, s) =>
    let e := settle s { e with slot := n } jIndeterminate 0
    (e, setJournal s e)

/-! ### Locks (R328) -/

/-- Officer state numbers, as the Ledger's OFFICER entries carry them. -/
def officerNo : OfficerState → Nat
  | .active => 0 | .locked => 1 | .pending => 2

/-- An officer whose card is locked is LOCKED; the Ledger records it (R328). -/
def lockOfficer (s : State) (id : Bytes) : State :=
  match officerByCard s id with
  | some (n, o) =>
    if o.state == .locked then s
    else note (setOfficer s n (some { o with state := .locked })) 0xF00F
      (le 1 n ++ fit 16 o.cardId ++ le 1 (officerNo o.state) ++ le 1 1)
  | none => s

/-! ### Completing the device's part (R327, R329) -/

/-- The device's part of a write that the card has made: the record that the card was enrolled for, still PENDING, becomes ACTIVE; an erase deletes the records
that name the card and closes its conflicts. -/
def completeWrite (s : State) (e : JournalEntry) : State :=
  if e.op == 1 then
    match tblFind s.officers e.officer with
    | some o => if o.state == .pending && o.cardId == e.cardId then setOfficer s e.officer (some { o with state := .active }) else s
    | none => s
  else
    let s := match officerByCard s e.cardId with
      | some (n, _) => setOfficer s n none
      | none => s
    { s with journal := s.journal.map (fun x => if x.cardId == e.cardId && x.state == jConflict then settle s x jDone x.sw else x) }

/-- A CUSTODY Ledger entry of a resolution (Table 10-8). -/
def noteCustody (s : State) (e : JournalEntry) (old : Nat) : State :=
  note s 0xF00E (le 4 e.jno ++ fit 16 e.cardId ++ le 1 e.slot ++ le 1 old ++ le 1 e.state)

/-- The identical write is sent again (R324); where it is interrupted the entry is INDETERMINATE again. -/
def reissueWrite (n : Nat) (x : ApduLink) (s : State) (e : JournalEntry) : State :=
  let verified := (cardSlotOf s n).verified
  match exchange s n x (some (writeApdu e.op e.apdu)) (fun c => cardWrite c e.op verified e.apdu) with
  | (none, s) => setJournal s (settle s { e with slot := n } jIndeterminate 0)
  | (some sw, s) =>
    let e' := settle s { e with slot := n } jReissued sw
    let s := setJournal s e'
    noteCustody (if sw == swOk then completeWrite s e' else s) e' jIndeterminate

/-- Resolve one INDETERMINATE entry by what the card in slot `n` reads (R324); the exchanges of the activation that are left go on. -/
def resolveEntry (n : Nat) (w : State × CardLink) (e : JournalEntry) : State × CardLink :=
  let s := w.1
  match readyCard s n with
  | none => w
  | some c =>
    if c.commit == e.commitBefore + 1 && c.lastDigest.take 16 == e.digest then
      let e' := settle s { e with slot := n } jResolvedDone e.sw
      (noteCustody (completeWrite (setJournal s e') e') e' jIndeterminate, w.2)
    else if c.commit == e.commitBefore then (reissueWrite n (linkAt w.2 0) s e, w.2.drop 1)
    else
      let e' := settle s { e with slot := n } jConflict e.sw
      (noteCustody (setJournal s e') e' jIndeterminate, w.2)

/-- Resolve the card's INDETERMINATE entries, oldest first (R324). -/
def resolveCard (s : State) (n : Nat) (id : Bytes) (l : CardLink) : State :=
  ((s.journal.filter (fun e => e.state == jIndeterminate && e.cardId == fit 16 id)).foldl (resolveEntry n) (s, l)).1

/-! ### Activation (R316, R317, R320) -/

/-- The slots have their supply: VAUX on a powered device (R490), outside End of life (R370). -/
def slotsPowered (s : State) : Bool :=
  (s.power.state == .active || s.power.state == .drowse) && s.power.vauxOk && s.life.lifecycle != lcEndOfLife

/-- The card has been read and the lines are set: the slot is ready, a lock that the card shows is taken over (R328), and its journal
entries are resolved (R324). -/
def cardReady (s : State) (n : Nat) (c : Card) : State :=
  let s := setCardSlot s n { cardSlotOf s n with status := .ready }
  let s := if c.state == 2 || c.pinTries == 0 then lockOfficer s c.cardId else s
  resolveCard s n c.cardId (c.links.drop 3)

/-- Step 5 of R317: S(IFS request), READ_STATE, and MODE_SET where the card has the two-line mode (R320). -/
def readCard (s : State) (n : Nat) (c : Card) : State :=
  match exchange s n (linkAt c.links 0) none (fun c => (swOk, c)) with
  | (none, s) => s
  | (some _, s) =>
    match exchange s n (linkAt c.links 1) (some readStateApdu) (fun c => (swOk, c)) with
    | (none, s) => s
    | (some _, s) =>
      if !bit c.caps 0 || (cardSlotOf s n).oneLine then cardReady s n c
      else
        match exchange s n (linkAt c.links 2) (some modeSetApdu) (fun c => (c.modeSw, c)) with
        | (none, s) => s
        | (some sw, s) => cardReady (setCardSlot s n { cardSlotOf s n with twoLine := sw == swOk }) n c

/-- Activate the card that lies in slot `n` (R317): at class C, else at class B; mute without a usable ATR, refused where it fails a step
of Table 11-1; a failed PPS exchange leaves it at Fi 372 and Di 1. -/
def activateCard (s : State) (n : Nat) (c : Card) : State :=
  let c := { c with cardId := fit 16 c.cardId }
  let w : CardSlot := { status := .activating, card := some c, oneLine := (cardSlotOf s n).oneLine }
  match activationOf c with
  | none => setCardSlot s n { w with status := .mute }
  | some (cls, atr, a) =>
    if cardRefused a then setCardSlot s n { w with status := .refused }
    else readCard (setCardSlot s n { w with cls, atr, fast := sendsPps a.ta1 && c.ppsOk }) n c

/-- A purge of level `lvl` deactivates every slot (R347): at level 4 they come back after the zero-fill (R349). -/
def deactivateSlots (s : State) (lvl : Nat) : State :=
  { s with cards := tblMap s.cards (fun _ w =>
      if w.status == .ready || w.status == .activating then
        { w with status := if lvl == 4 then .activating else .mute, verified := false, twoLine := false, fast := false, ns := 0, sent := [] }
      else w) }

/-- The slots that a level-4 purge or the loss of VAUX deactivated are activated again, where they have their supply (R349, R490). -/
def reactivateSlots (s : State) : State :=
  if !slotsPowered s then s
  else ((s.cards.filter (fun e => e.2.status == .activating)).map (·.1)).foldl (fun s n =>
    match (cardSlotOf s n).card with
    | some c => activateCard s n c
    | none => s) s

end Sys2Proof.Machine
end

