-- ==== Sys2Proof/Machine/CounterOps.lean ====
section
/-! DEFINITION. Counters by their ID (R299, R300) and the UTC scale (R304), as the other blocks use them. -/

namespace Sys2Proof.Machine

/-- The value at which a counter is frozen (R300). -/
abbrev counterTop : Nat := 2 ^ 64 - 2 ^ 32

/-- A device counter (R299). -/
def deviceCounter (id : Nat) : Bool := 0x7FF00 ≤ id

/-- The entry of a counter. -/
def counterOf (s : State) (id : Nat) : Counter := tblGet s.counters id { value := s.counterBase }

/-- The value of a counter; the Ledger SEQ and the SVN floor are kept with their owners (R299, R309, R433). -/
def counterValue (s : State) (id : Nat) : Nat :=
  if id == 0x7FF01 then s.ledger.seq else if id == 0x7FF02 then s.update.svnFloor else (counterOf s id).value

/-- COUNTER_READ STATE: 0 free, 1 allocated, 2 frozen, 3 damaged (Table 10-9). -/
def counterState (s : State) (id : Nat) : Nat :=
  let c := counterOf s id
  if c.damaged then 3 else if counterTop ≤ counterValue s id then 2
  else if c.allocated || deviceCounter id then 1 else 0

/-- The response of COUNTER_READ (Table 10-9). -/
def counterReply (s : State) (id : Nat) : Bytes :=
  le 8 (counterValue s id) ++ le 4 (counterOf s id).attr ++ le 1 (counterState s id) ++ zeros 3

/-- Change a counter. -/
def setCounter (s : State) (id : Nat) (c : Counter) : State :=
  share { s with counters := tblSet s.counters id c } (.counter id c)

/-- A counter after an advance: at or above the limit it freezes there (R300). -/
def advanced (v step : Nat) : Nat := if counterTop ≤ v + step then counterTop else v + step

/-- UTC at the current tick: tick + OFFSET − 10^6·LEAP_S (R304). -/
def utcAt (a : Almanac) (t : Nat) : Int := t + a.offset - 1000000 * a.leap

/-- NOW, unknown before a first TIME_SET and while TIME_LOST is set (R303, R304). -/
def nowUtc (s : State) : Option Nat :=
  if s.almanac.offsetSet && !s.almanac.timeLost then some (utcAt s.almanac s.now).toNat else none

/-! ### Calendar dates and the windows of certificates (R239, R308) -/

/-- A leap year. -/
def leapYear (y : Nat) : Bool := y % 4 == 0 && (y % 100 != 0 || y % 400 == 0)

/-- Days of a month. -/
def monthDays (y m : Nat) : Nat :=
  match m with
  | 2 => if leapYear y then 29 else 28
  | 4 => 30 | 6 => 30 | 9 => 30 | 11 => 30
  | _ => 31

/-- A day counted from 1 January 1970. -/
def dayNumber (y m d : Nat) : Nat :=
  let before := y - 1
  365 * before + before / 4 - before / 100 + before / 400 +
    ((List.range (m - 1)).map (fun k => monthDays y (k + 1))).sum + (d - 1) - 719162

/-- A date of the calendar. -/
def validDate (y m d : Nat) : Bool := 1 ≤ m && m ≤ 12 && 1 ≤ d && d ≤ monthDays y m

/-- The number that two digits from place `k` on make. -/
def twoDigits (l : List Nat) (k : Nat) : Nat := 10 * l.getD k 0 + l.getD (k + 1) 0

/-- The day that the digits YYMMDD name; YY is read as 20YY (R239). -/
def dayOf (l : List Nat) : Option Nat :=
  let y := 2000 + twoDigits l 0
  if l.length == 6 && l.all (· ≤ 9) && validDate y (twoDigits l 2) (twoDigits l 4) then
    some (dayNumber y (twoDigits l 2) (twoDigits l 4))
  else none

/-- 00:00:00 UTC of a day, in µs. -/
def dayStart (day : Nat) : Nat := day * 86400000000

/-- The digits of ASCII bytes. -/
def digitsOf (b : Bytes) : List Nat := b.map (fun x => x.toNat - 48)

/-- An X.509 time (R308): UTCTime YYMMDDHHMMSSZ, with YY from 50 on read as 19YY, or GeneralizedTime YYYYMMDDHHMMSSZ; none where it is
malformed. -/
def x509Time (b : Bytes) : Option Nat :=
  let l := digitsOf b.dropLast
  let (y, r) := if l.length == 12 then ((if 50 ≤ twoDigits l 0 then 1900 else 2000) + twoDigits l 0, l.drop 2)
                else (100 * twoDigits l 0 + twoDigits l 2, l.drop 4)
  if b.getLast? == some 0x5A && allDigits b.dropLast && r.length == 10 && validDate y (twoDigits r 0) (twoDigits r 2) &&
      twoDigits r 4 < 24 && twoDigits r 6 < 60 && twoDigits r 8 < 60 then
    some (dayStart (dayNumber y (twoDigits r 0) (twoDigits r 2)) +
      1000000 * (3600 * twoDigits r 4 + 60 * twoDigits r 6 + twoDigits r 8))
  else none

/-- An X.509 certificate with its window read (R308). -/
def readCert (der : Bytes) : Option CertInfo :=
  (Config.parseCert der).bind fun c =>
    match x509Time c.notBeforeText, x509Time c.notAfterText with
    | some a, some b => some { c with notBefore := a, notAfter := b }
    | _, _ => none

/-- A CRL with its times read (R308). -/
def readCrl (der : Bytes) : Option CrlInfo :=
  (Config.parseCrl der).bind fun c =>
    match x509Time c.thisText, x509Time c.nextText with
    | some a, some b => some { c with thisUpdate := a, nextUpdate := b }
    | _, _ => none

/-- The next VERDICT_NO, from the verdict counter (R253, R299). A damaged counter is frozen (R285), and an advance to the top
freezes it (R300): no number is given, with the status that COUNTER_ADVANCE would return, notes/assumptions/52.md (DESIGN
CHOICE). -/
def takeVerdictNo (s : State) : Except (Nat × Nat) Nat × State :=
  let c := counterOf s 0x7FF00
  let v := advanced c.value 1
  if c.damaged then (.error (eParity, 0), s)
  else
    let s := setCounter (rememberAcked s 0x7FF00 c.value) 0x7FF00 { c with value := v }
    (if v == counterTop then .error (eLimit, 0x7FF00) else .ok v, s)

/-! ### Reads that fail (R285) -/

/-- A DAMAGED read: the Ledger entry, and GRANARY is notified with the handle or ID. -/
def damaged (s : State) (off region id : Nat) : State := report (damagedNote s off region id) 0x18 id

/-- The Granary offset of a key slot (Table 10-1). -/
def slotOffset (i : Nat) : Nat := if i < 0x10000 then 64 * i else 0x400000 + 4096 * (i - 0x10000)

/-- A place inside a region of Table 10-1 whose layout the spec leaves open: FREE VALUE, notes/assumptions/52.md. -/
def freeOffset (s : State) (base size : Nat) : Nat := base + Config.free 0xF006 s.rng % size

/-- A settings line fails in both copies: the DAMAGED entry and GRANARY (R285); a start that cannot read it is held (R447). -/
def settingsDamage (s : State) : State := damaged (draw s) (freeOffset s 0x3400000 0x80000) 5 0

/-- The read of key slot `i` fails: it is damaged, whether or not it held a key (R285). -/
def damageSlot (s : State) (i : Nat) : State :=
  let region := if i < 0x10000 then 0 else 1
  let k := tblGet s.keys i { type := 0, set := 0 }
  damaged { s with keys := tblSet s.keys i { k with damaged := true } } (slotOffset i) region
    (if k.type == 0 then i else handle k.cls (genOf s i) i)

end Sys2Proof.Machine
end

