-- ==== Sys2Proof/Machine/Gleaner.lean ====
section
/-! DEFINITION. The Gleaner (R275): elements of DER, BER-TLV, CBOR and fixed-layout records, and the match of a format's
nodes against them. -/

namespace Sys2Proof.Machine

/-- Gleaner statuses: 0 OK. -/
abbrev gOk : Nat := 0
/-- Malformed, or a value does not convert. -/
abbrev gMalformed : Nat := 1
/-- A required node is absent, or a tag, a MATCH or a length bound fails. -/
abbrev gMismatch : Nat := 2
/-- More than 65,536 elements. -/
abbrev gTooMany : Nat := 3

/-- An element: its tag as a node names it, its content, and the bytes it takes with header and trailer. -/
structure Element where
  tag : Nat
  content : Bytes
  size : Nat

/-! ### Values -/

/-- A decimal string's value; `none` where a byte is no digit. -/
def decimal (base : Nat) (b : Bytes) : Option Nat :=
  b.foldl (fun acc x =>
    match acc with
    | some v => if base ≤ x.toNat && x.toNat ≤ base + 9 then some (10 * v + (x.toNat - base)) else none
    | none => none) (some 0)

/-- The integer a field's bytes stand for by its encoding; raw bytes are little-endian (R6), text does not convert,
notes/assumptions/32.md (DESIGN CHOICE). -/
def fieldValue (enc : Nat) (b : Bytes) : Option Nat :=
  if 16 < b.length then none
  else match enc with
    | 0 => some (ofLe b)
    | 1 => some (ofBe b)
    | 2 => some (ofLe b)
    | 3 => decimal 0x30 b
    | 4 => decimal 0xF0 b
    | _ => none

/-- The content converts under its encoding: decimals hold digits only. -/
def converts (enc : Nat) (b : Bytes) : Bool :=
  match enc with
  | 3 => (decimal 0x30 b).isSome
  | 4 => (decimal 0xF0 b).isSome
  | _ => true

/-! ### DER and BER-TLV -/

/-- Bytes of a tag: one, or with low bits all set the bytes up to one with bit 7 clear. -/
def tagSize (b : Bytes) : Option Nat :=
  match b with
  | [] => none
  | t :: r =>
    if t.toNat % 32 != 31 then some 1
    else (r.findIdx? (fun x => x.toNat < 128)).map (· + 2)

/-- Length octets after the tag: the value and how many octets; DER takes the shortest form only. -/
def lengthOctets (der : Bool) (b : Bytes) : Option (Nat × Nat) :=
  match b with
  | [] => none
  | x :: r =>
    let n := x.toNat - 128
    if x.toNat < 128 then some (x.toNat, 1)
    else if n == 0 || 4 < n || r.length < n then none
    else
      let v := ofBe (r.take n)
      if der && (v < 128 || v < 256 ^ (n - 1)) then none else some (v, n + 1)

/-- The first element of a DER or BER-TLV string. -/
def tlvElement (der : Bool) (b : Bytes) : Option Element :=
  (tagSize b).bind fun n =>
    (lengthOctets der (b.drop n)).bind fun l =>
      let head := n + l.2
      if b.length < head + l.1 then none
      else some { tag := ofLe (b.take n), content := slice b head l.1, size := head + l.1 }

/-! ### CBOR -/

/-- The head of a CBOR item: major type, argument (`none` for the indefinite form), bytes of the head. -/
def cborHead (b : Bytes) : Option (Nat × Option Nat × Nat) :=
  match b with
  | [] => none
  | x :: r =>
    let major := x.toNat / 32
    let ai := x.toNat % 32
    let long := fun n => if r.length < n then none else some (major, some (ofBe (r.take n)), n + 1)
    if ai < 24 then some (major, some ai, 1)
    else if ai == 24 then long 1
    else if ai == 25 then long 2
    else if ai == 26 then long 4
    else if ai == 27 then long 8
    else if ai == 31 && 2 ≤ major && major ≤ 5 then some (major, none, 1)
    else none

/-- Skip items by a stack of how many remain at each level, `none` for a level that ends with a break: the bytes skipped. -/
def cborSkip : Nat → List (Option Nat) → Nat → Bytes → Option Nat
  | 0, _, _, _ => none
  | _, [], n, _ => some n
  | f + 1, some 0 :: r, n, b => cborSkip f r n b
  | f + 1, top :: r, n, b =>
    if top == none && b.head? == some 0xFF then cborSkip f r (n + 1) (b.drop 1)
    else
      let below := top.map (· - 1) :: r
      match cborHead b with
      | none => none
      | some (major, arg, h) =>
        let stack : List (Option Nat) :=
          match major, arg with
          | 4, some k => some k :: below
          | 5, some k => some (2 * k) :: below
          | 6, _ => some 1 :: below
          | _, none => none :: below
          | _, _ => below
        let body := if major == 2 || major == 3 then arg.getD 0 else 0
        if b.length < h + body then none else cborSkip f stack (n + h + body) (b.drop (h + body))

/-- The content of an item of `size` bytes with a head of `h`: what follows the head, without the break of an indefinite
form; the argument for an item that is all head. -/
def cborContent (b : Bytes) (major : Nat) (arg : Option Nat) (h size : Nat) : Bytes :=
  if major == 0 || major == 1 || major == 7 then
    if h == 1 then [byte (arg.getD 0)] else slice b 1 (h - 1)
  else slice b h (size - h - (if arg == none then 1 else 0))

/-- The first item of a CBOR string; its tag is the major type in bits [7:5]. -/
def cborElement (b : Bytes) : Option Element :=
  (cborHead b).bind fun (major, arg, h) =>
    (cborSkip (3 * b.length + 3) [some 1] 0 b).map fun size =>
      { tag := 32 * major, content := cborContent b major arg h size, size }

/-! ### Matching (R275) -/

/-- The fields set so far and the elements examined. -/
structure Gleaned where
  fields : Tbl FieldRef := []
  count : Nat := 0

/-- The first element under a syntax. -/
def elementOf (syn : Nat) (b : Bytes) : Option Element :=
  match syn with
  | 1 => tlvElement true b
  | 2 => tlvElement false b
  | _ => cborElement b

/-- A node takes an element's content: its bounds, then its encoding, then its field. -/
def takeContent (n : GNode) (first : Bool) (c : Bytes) (g : Gleaned) : Nat × Gleaned :=
  let g := { g with count := g.count + 1 }
  if c.length < n.minLen || (n.maxLen != 0 && n.maxLen < c.length) then (gMismatch, g)
  else if !converts n.enc c then (gMalformed, g)
  else if n.field < 60 && first then (gOk, { g with fields := tblSet g.fields n.field { enc := n.enc, bytes := c } })
  else (gOk, g)

/-- The nodes below the first, and the nodes after those. -/
def below (d : Nat) (ns : List GNode) : List GNode × List GNode :=
  (ns.takeWhile (fun n => d < n.depth), ns.dropWhile (fun n => d < n.depth))

/-- Go on while the status is OK. -/
def andThen (r : Nat × Gleaned) (k : Gleaned → Nat × Gleaned) : Nat × Gleaned := if r.1 == gOk then k r.2 else r

/-- Match the nodes of one level, in order, against the elements of `b`; `rep` counts the occurrences already taken by
the first node. `fuel` bounds the work. -/
def gleanSeq (syn : Nat) : Nat → List GNode → Bytes → Nat → Gleaned → Nat × Gleaned
  | 0, _, _, _, g => (gTooMany, g)
  | _, [], _, _, g => (gOk, g)
  | fuel + 1, n :: rest, b, rep, g =>
    let (sub, after) := below n.depth rest
    let skip := fun (_ : Unit) => if bit n.flags 0 || rep != 0 then gleanSeq syn fuel after b 0 g else (gMismatch, g)
    if b.isEmpty || 255 ≤ rep then skip ()
    else match elementOf syn b with
      | none => (gMalformed, g)
      | some e =>
        if 65536 ≤ g.count then (gTooMany, g)
        else if !(bit n.flags 2 || e.tag == n.tag) then skip ()
        else
          andThen (takeContent n (rep == 0) e.content g) fun g =>
            andThen (if bit n.flags 3 then gleanSeq syn fuel sub e.content 0 g else (gOk, g)) fun g =>
              if bit n.flags 1 then gleanSeq syn fuel (n :: rest) (b.drop e.size) (rep + 1) g
              else gleanSeq syn fuel after (b.drop e.size) 0 g

/-- Match fixed-layout nodes of one level inside their parent `b`. -/
def gleanFixed : Nat → List GNode → Bytes → Gleaned → Nat × Gleaned
  | 0, _, _, g => (gTooMany, g)
  | _, [], _, g => (gOk, g)
  | fuel + 1, n :: rest, b, g =>
    let (sub, after) := below n.depth rest
    let c := slice b n.offset n.len
    if b.length < n.offset + n.len || (bit n.flags 4 && c != le 2 n.tag) then
      if bit n.flags 0 then gleanFixed fuel after b g else (gMismatch, g)
    else
      andThen (takeContent n true c g) fun g =>
        andThen (if bit n.flags 3 then gleanFixed fuel sub c g else (gOk, g)) fun g => gleanFixed fuel after b g

/-- Parse a source with a format: the status and the fields that its matching nodes have set. -/
def glean (f : GFormat) (b : Bytes) : Nat × Tbl FieldRef :=
  let r := if f.syntaxKind == 4 then gleanFixed (2 * f.nodes.length + 2) f.nodes b {}
    else gleanSeq f.syntaxKind (300000 + f.nodes.length) f.nodes b 0 {}
  (r.1, r.2.fields)

end Sys2Proof.Machine
end

