-- ==== Sys2Proof/Machine/JobChecks.lean ====
section
/-! DEFINITION. The checks a job passes before it starts: R52 for all, R166 for the Thresher, R191 for the Flail, R212
for the Mill and R251 for VERIFY_OFFLINE, each in its order, and the lengths and field rules they rest on. -/

namespace Sys2Proof.Machine

/-! ### Descriptors (Table 2-10) -/

/-- FIRST. -/
def dFirst (d : Desc) : Bool := bit d.flags 0
/-- FINAL. -/
def dFinal (d : Desc) : Bool := bit d.flags 1
/-- FENCE. -/
def dFence (d : Desc) : Bool := bit d.flags 2

/-- The 16 PARAM bytes. -/
def dParam (d : Desc) : Bytes := fit 16 d.param

/-- SET of a Mill job (Table 7-3). -/
def pSet (p : Bytes) : Nat := rd p 0 2
/-- HASH. -/
def pHash (p : Bytes) : Nat := rd p 2 1
/-- MODE. -/
def pMode (p : Bytes) : Nat := rd p 3 1
/-- ARG. -/
def pArg (p : Bytes) : Nat := rd p 4 4

/-- The source bytes of a job. -/
def srcData (r : JobReq) : Bytes := fit r.desc.totalLen r.data

/-- Bytes of a fragment list. -/
def fragSum (fs : List Frag) : Nat := (fs.map (·.len)).sum

/-! ### Failed checks -/

/-- STATUS and DETAIL of a failed check, and whether the open message stays as it was (R163). -/
abbrev Fail := Nat × Nat × Bool

/-- A check of a list: it fails when the condition holds; the message ends with the status. -/
def ends (c : Bool) (status detail : Nat) : Bool × Fail := (c, status, detail, false)

/-- A check that leaves the open message as it was. -/
def keeps (c : Bool) (status detail : Nat) : Bool × Fail := (c, status, detail, true)

/-- E_FORMAT at an offset, if there is one. -/
def formatAt (o : Option Nat) : Bool × Fail := ends o.isSome eFormat (o.getD 0)

/-- The first check that fails. -/
def firstFail (l : List (Bool × Fail)) : Option Fail := (l.find? (·.1)).map (·.2)

/-- The offset, from `base`, of the first byte that is not zero outside the ranges (offset, length) of `used`. -/
def strayByte (base : Nat) (b : Bytes) (used : List (Nat × Nat)) : Option Nat :=
  ((List.range b.length).find? (fun i => b.getD i 0 != 0 && !used.any (fun u => u.1 ≤ i && i < u.1 + u.2))).map (· + base)

/-- The first step of every order of checks: reserved bits and indices, with what an engine adds to FLAGS, KEY_HANDLE, CONTEXT,
AAD_LEN and PARAM, in the order of the fields, so that DETAIL is the first offending one (R512). -/
def formChecks (d : Desc) (flags key context aad : Bool) (param : Option Nat) : List (Bool × Fail) :=
  [ends (8 ≤ d.flags || flags) eFormat 2,
   ends (badIndex (hIndex d.key) || key) eFormat 8,
   ends ((16384 ≤ d.context && d.context != 0xFFFFFFFF) || context) eFormat 12,
   ends (d.srcList % 16 != 0) eFormat 16,
   ends (d.dstList % 16 != 0) eFormat 24,
   ends aad eFormat 40,
   formatAt param,
   formatAt (strayByte 61 d.rsv [])]

/-- The first fault of a fragment list whose offsets count from `base`: LENGTH 0 or reserved FLAGS (R52, R8). -/
def fragFault (base : Nat) (fs : List Frag) : Option Nat :=
  (fs.zipIdx.findSome? (fun e =>
    if e.1.len == 0 then some (base + 16 * e.2 + 8)
    else if 4 ≤ e.1.flags then some (base + 16 * e.2 + 12) else none))

/-- The length checks of R52, for an operation that produces `out` bytes. -/
def lengthChecks (r : JobReq) (out : Nat) : List (Bool × Fail) :=
  let d := r.desc
  [ends (4096 < d.srcCount) eLength 32,
   ends (4096 < d.dstCount) eLength 34,
   formatAt (fragFault 0x40000000 r.src),
   formatAt (fragFault 0x60000000 r.dst),
   ends (2 ^ 32 ≤ fragSum r.src) eLength 32,
   ends (2 ^ 32 ≤ fragSum r.dst) eLength 34,
   ends (fragSum r.src != d.totalLen) eLengthMismatch (sat32 (fragSum r.src)),
   ends (d.totalLen < d.aadLen) eLengthMismatch (sat32 (fragSum r.src)),
   ends (fragSum r.dst < out) eLengthMismatch (sat32 (fragSum r.dst))]

/-! ### Keys of jobs (R144, R211, R289, R290) -/

/-- The client number of jobs that sheaf actions submit: no function has it. -/
abbrev sheafClient : Nat := 64

/-- A client may name the key; a sheaf action where its SHEAF bit is set, or the instance's own session slot (R274). -/
def keyOpenTo (k : KeySlot) (c : Nat) : Bool := if c == sheafClient then bit k.attr aSheaf || k.session else mayUse k c

/-- A job of client `c` may name handle `h`: its class and index are ones the operation takes, and the key the slot
holds, if any, satisfies `ok` and is the client's or shared. -/
def keyPermitted (s : State) (c h : Nat) (classes : List Nat) (range : Nat → Bool) (ok : KeySlot → Bool) : Bool :=
  classes.contains (hClass h) && range (hIndex h) &&
  match tblFind s.keys (hIndex h) with
  | some k => ok k && keyOpenTo k c
  | none => true

/-- Why the handle's key cannot be used: absent, of another generation, or damaged. -/
def keyFault (s : State) (h : Nat) : Option (Nat × Nat) :=
  match keyAt s h with
  | .error e => some e
  | .ok k => if k.damaged then some (eParity, 0) else none

/-- The key absence check. -/
def keyCheck (s : State) (h : Nat) : Bool × Fail :=
  ends (keyFault s h).isSome ((keyFault s h).getD (0, 0)).1 ((keyFault s h).getD (0, 0)).2

/-! ### Contexts -/

/-- The context a job names. -/
def jobContext (s : State) (d : Desc) : Option Context :=
  if d.context == 0xFFFFFFFF then none else tblFind s.contexts d.context

/-- Its open message. -/
def openMessage (s : State) (d : Desc) : Option Message := (jobContext s d).bind (·.msg)

/-- The message a later job belongs to has ended: every job up to FINAL takes its status (R163). -/
def endedCheck (s : State) (r : JobReq) : Bool × Fail :=
  match jobContext s r.desc with
  | some x =>
    match x.ended with
    | some (st, dt) => ends (x.holder == r.fn && !dFirst r.desc) st dt
    | none => ends false 0 0
  | none => ends false 0 0

/-- The context is claimed by the client (R169). -/
def contextChecks (s : State) (r : JobReq) : List (Bool × Fail) :=
  let h := ((jobContext s r.desc).map (·.holder)).getD 0
  [ends (r.desc.context != 0xFFFFFFFF && (jobContext s r.desc).isNone) eDenied 0,
   ends ((jobContext s r.desc).isSome && h != r.fn) eHeld h]

/-- Recovery mode (R448), Purged, Freeze, then R393 for work the passive roles refuse. `k` says whether Freeze keeps the message (R195). -/
def modeChecks (s : State) (k refused : Bool) : List (Bool × Fail) :=
  [ends s.update.recovery eState (deviceStatus s), ends (purged s) ePurged 0, (frozen s, eFrozen, alarmLevel s, k), ends (passiveRole s && refused) eState (deviceStatus s)]

/-! ### Thresher (R160–R166) -/

/-- GCM encryption and GMAC generation, which take an invocation value (R155). -/
def takesIv (op : Nat) : Bool := op == 0x0201 || op == 0x0203
/-- The GCM and GMAC operations. -/
def gcmFamily (op : Nat) : Bool := 0x0201 ≤ op && op ≤ 0x0204
/-- The operations whose last source bytes are a tag. -/
def verifiesTag (op : Nat) : Bool := op == 0x0202 || op == 0x0204 || op == 0x0209
/-- The TDEA operations. -/
def tdeaOp (op : Nat) : Bool := 0x0210 ≤ op && op ≤ 0x0212
/-- Operations always in whole blocks (R162). -/
def wholeBlocks (op : Nat) : Bool := [0x0206, 0x0207, 0x020A, 0x020B, 0x0210, 0x0211].contains op
/-- ECB wrapping. -/
def ecbOp (op : Nat) : Bool := op == 0x020A || op == 0x020B
/-- The block of an operation (R162). -/
def blockOf (op : Nat) : Nat := if tdeaOp op then 8 else 16

/-- Key classes (Table 5-1). -/
def thClasses (op : Nat) : List Nat :=
  match op with
  | 0x0205 => [0]
  | 0x0206 => [0, 2]
  | 0x0207 => [0, 2]
  | 0x020A => [2]
  | 0x020B => [2]
  | 0x0210 => [0]
  | 0x0211 => [0]
  | 0x0212 => [0]
  | _ => [0, 1, 2]

/-- The use bit of Table 10-3. -/
def thAttr (op : Nat) : Nat :=
  match op with
  | 0x0202 => aDecrypt
  | 0x0204 => aDecrypt
  | 0x0207 => aDecrypt
  | 0x0209 => aDecrypt
  | 0x020A => aWrap
  | 0x020B => aUnwrap
  | 0x0211 => aDecrypt
  | _ => aEncrypt

/-- The key of a Thresher job is permitted (R144, R289, R290). -/
def thKeyOk (s : State) (r : JobReq) (op : Nat) : Bool :=
  keyPermitted s r.fn r.desc.key (thClasses op) (fun i => symIndex i && !strandIndex i)
    (fun k => k.type == (if tdeaOp op then 2 else 1) && bit k.attr (thAttr op))

/-- PARAM of the message: the FIRST job's, or the open message's (R160). -/
def thParam (s : State) (d : Desc) : Bytes :=
  if dFirst d then dParam d else ((openMessage s d).map (·.param)).getD (zeros 16)

/-- TAG_LEN. -/
def tagLen (p : Bytes) : Nat := rd p 0 1

/-- Tag bytes at the end of the job's source (R161). -/
def tagBytes (s : State) (op : Nat) (d : Desc) : Nat := if verifiesTag op && dFinal d then tagLen (thParam s d) else 0

/-- Output bytes of a Thresher job (R161). -/
def thOut (s : State) (op : Nat) (d : Desc) : Nat :=
  match op with
  | 0x0203 => 0
  | 0x0204 => 0
  | 0x0208 => 0
  | 0x0209 => 0
  | 0x0212 => 0
  | _ => d.totalLen - d.aadLen - tagBytes s op d

/-- The PARAM bytes of an operation (Table 5-2). -/
def thUsed (op : Nat) : List (Nat × Nat) :=
  match op with
  | 0x0201 => [(0, 1)]
  | 0x0203 => [(0, 1)]
  | 0x0202 => [(0, 1), (4, 12)]
  | 0x0204 => [(0, 1), (4, 12)]
  | 0x0208 => [(0, 1)]
  | 0x0209 => [(0, 1)]
  | 0x020A => []
  | 0x020B => []
  | 0x0210 => [(0, 8)]
  | 0x0211 => [(0, 8)]
  | 0x0212 => [(0, 1), (8, 8)]
  | _ => [(0, 16)]

/-- PARAM byte 0 is out of its range: TAG_LEN or PAD (Table 5-2). -/
def badParam0 (op v : Nat) : Bool :=
  if gcmFamily op then v < 12 || 16 < v
  else if op == 0x0208 || op == 0x0209 then v < 8 || 16 < v
  else if op == 0x0212 then v != 1 && v != 2
  else false

/-- The offset of the first PARAM fault of a job (R160): all of PARAM is zero but in the FIRST job. -/
def paramFault (op : Nat) (d : Desc) : Option Nat :=
  if dFirst d then (if badParam0 op (tagLen (dParam d)) then some 44 else strayByte 44 (dParam d) (thUsed op))
  else strayByte 44 (dParam d) []

/-- AAD_LEN breaks R161 or R162; every job of an AES_GMAC_GENERATE message has it equal to TOTAL_LEN, and a later job has it 0. -/
def badAad (s : State) (op : Nat) (d : Desc) : Bool :=
  if op == 0x0204 then d.aadLen != d.totalLen - tagBytes s op d
  else if op == 0x0203 then d.aadLen != d.totalLen || (!dFirst d && d.aadLen != 0)
  else if gcmFamily op && dFirst d then false
  else d.aadLen != 0

/-- Data bytes of the job, without AAD and tag. -/
def dataLen (s : State) (op : Nat) (d : Desc) : Nat := d.totalLen - d.aadLen - tagBytes s op d

/-- Data bytes of earlier jobs of the message. -/
def priorData (s : State) (d : Desc) : Nat := if dFirst d then 0 else ((openMessage s d).map (·.data.length)).getD 0
/-- AAD bytes of earlier jobs. -/
def priorAad (s : State) (d : Desc) : Nat := if dFirst d then 0 else ((openMessage s d).map (·.aad.length)).getD 0

/-- Step 9 of R166: FIRST and FINAL against the context, then R160 and R162. A FIRST job on an open message leaves the message open,
as R189 says of the Flail, notes/assumptions/12.md (DEDUCED). -/
def thAgreement (s : State) (op : Nat) (d : Desc) : List (Bool × Fail) :=
  let m := openMessage s d
  let one := d.context == 0xFFFFFFFF
  [ends (!dFirst d && m.isSome && (m.map (·.opcode)) != some op) eFormat 0,
   ends (one && !(dFirst d && dFinal d)) eFormat 2,
   ends (!one && (dFirst d == m.isSome)) eFormat 2,
   ends (!dFirst d && (m.map (·.key)) != some d.key) eFormat 8,
   ends (d.totalLen < d.aadLen + tagBytes s op d && op != 0x0204 || d.totalLen < tagBytes s op d) eFormat 36,
   ends ((wholeBlocks op || !dFinal d) && dataLen s op d % blockOf op != 0) eFormat 36,
   ends (badAad s op d) eFormat 40,
   formatAt (paramFault op d)]

/-- Step 10 of R166: the limits of R165, over the message as a whole. -/
def thLimits (s : State) (op : Nat) (d : Desc) : List (Bool × Fail) :=
  let n := priorData s d + dataLen s op d
  [keeps ((op == 0x0201 || op == 0x0202) && 2 ^ 36 - 32 < n) eLength 36,
   keeps (gcmFamily op && 2 ^ 32 ≤ priorAad s d + d.aadLen) eLength 40,
   keeps (op == 0x0205 && 2 ^ 64 < ofBe (slice (thParam s d) 8 8) + ceilDiv n 16) eLength 36,
   keeps (ecbOp op && (4096 < n || (dFinal d && n < 16))) eLength 36]

/-- Step 11 of R166. -/
def retiredCheck (s : State) (op : Nat) (d : Desc) : Bool × Fail :=
  ends (takesIv op && dFirst d &&
    (match tblFind s.keys (hIndex d.key) with | some k => retired k | none => false)) eKeyRetired 0

/-- The checks of R166. -/
def thresherChecks (s : State) (op : Nat) (r : JobReq) : List (Bool × Fail) :=
  let d := r.desc
  [endedCheck s r] ++ formChecks d false false false false none ++ lengthChecks r (thOut s op d) ++ modeChecks s false (takesIv op) ++
  [ends (!thKeyOk s r op) eDenied 0, keyCheck s d.key] ++ contextChecks s r ++ thAgreement s op d ++ thLimits s op d ++
  [retiredCheck s op d]

/-! ### Flail (R184–R192) -/

/-- Output bytes of an ALG (Table 6-1); XOF has none of its own. -/
def digestLen (alg : Nat) : Nat :=
  match alg with
  | 0x01 => 20 | 0x02 => 28 | 0x03 => 32 | 0x04 => 48 | 0x05 => 64
  | 0x11 => 28 | 0x12 => 32 | 0x13 => 48 | 0x14 => 64 | _ => 0

/-- ALG belongs to the opcode (Table 6-1). -/
def algFits (op alg : Nat) : Bool := if op == 0x0301 then digestLen alg != 0 else alg == 0x21 || alg == 0x22

/-- The parameters the context remembers for this opcode, which start a new message (R187, R188). -/
def rememberedFor (s : State) (op : Nat) (d : Desc) : Option Bytes :=
  match jobContext s d with
  | some x =>
    match x.remembered with
    | some (o, p) => if x.msg.isNone && o == op && !dFirst d then some p else none
    | none => none
  | none => none

/-- PARAM of the digest message. -/
def flParam (s : State) (op : Nat) (d : Desc) : Bytes :=
  match rememberedFor s op d with
  | some p => p
  | none => thParam s d

/-- VERIFY (Table 6-2). -/
def pVerify (op : Nat) (p : Bytes) : Bool := op == 0x0301 && bit (rd p 1 1) 0

/-- Output bytes of a Flail job (R185). -/
def flOut (s : State) (op : Nat) (d : Desc) : Nat :=
  let p := flParam s op d
  if !dFinal d || pVerify op p then 0 else if op == 0x0301 then digestLen (rd p 0 1) else rd p 4 4

/-- The PARAM fault of a Flail job (R184): reserved bytes and bits. -/
def flParamFault (op : Nat) (d : Desc) : Option Nat :=
  if !dFirst d then strayByte 44 (dParam d) []
  else if op == 0x0301 then
    if 2 ≤ rd (dParam d) 1 1 then some 45 else strayByte 44 (dParam d) [(0, 2)]
  else strayByte 44 (dParam d) [(0, 1), (4, 4)]

/-- Bytes of the whole message with this job. -/
def flTotal (s : State) (op : Nat) (d : Desc) : Nat :=
  (if (rememberedFor s op d).isSome then 0 else priorData s d) + d.totalLen

/-- Step 8 of R191. -/
def flAgreement (s : State) (op : Nat) (d : Desc) : List (Bool × Fail) :=
  let m := openMessage s d
  let one := d.context == 0xFFFFFFFF
  let p := flParam s op d
  let noOut := !dFinal d || pVerify op p
  [ends (!one && !dFirst d && m.isNone && (rememberedFor s op d).isNone &&
     ((jobContext s d).bind (·.remembered)).isSome) eFormat 0,
   ends (!dFirst d && m.isSome && (m.map (·.opcode)) != some op) eFormat 0,
   ends (one && !(dFirst d && dFinal d)) eFormat 2,
   ends (!one && dFirst d && m.isSome) eFormat 2,
   ends (!one && !dFirst d && m.isNone && (rememberedFor s op d).isNone) eFormat 2,
   ends (noOut && d.dstList != 0) eFormat 24,
   ends (noOut && d.dstCount != 0) eFormat 34,
   ends (!algFits op (rd p 0 1)) eFormat 44,
   ends (op == 0x0302 && rd p 4 4 == 0) eFormat 48]

/-- The checks of R191, then the length of a VERIFY message (R185). -/
def flailChecks (s : State) (op : Nat) (r : JobReq) : List (Bool × Fail) :=
  let d := r.desc
  let p := flParam s op d
  [endedCheck s r] ++ formChecks d false (d.key != 0) false (d.aadLen != 0) (flParamFault op d) ++
  lengthChecks r (flOut s op d) ++ modeChecks s true false ++
  [ends (op == 0x0301 && rd p 0 1 == 1 && !pVerify op p) eDenied 0] ++ contextChecks s r ++ flAgreement s op d ++
  [keeps (2 ^ 61 ≤ flTotal s op d) eLength 36,
   ends (dFinal d && pVerify op p && flTotal s op d < digestLen (rd p 0 1)) eLengthMismatch (sat32 (flTotal s op d))]

/-! ### Mill (R207–R212) -/

/-- The lattice opcodes (R5). -/
def latticeOp (op : Nat) : Bool := 0x040A ≤ op && op ≤ 0x040D

/-- The public-key operations (R211). -/
def publicOp (op : Nat) : Bool := [0x0402, 0x0404, 0x0407, 0x0409, 0x040B, 0x040C].contains op

/-- The keyless operations. -/
def keylessOp (op : Nat) : Bool := op == 0x0410 || op == 0x0411

/-- MODE bits by name. -/
def mMessage (p : Bytes) : Bool := bit (pMode p) 0
/-- INLINE_KEY. -/
def mInline (p : Bytes) : Bool := bit (pMode p) 1
/-- EPHEMERAL. -/
def mEphemeral (p : Bytes) : Bool := bit (pMode p) 2
/-- PSS. -/
def mPss (p : Bytes) : Bool := bit (pMode p) 3
/-- DETERMINISTIC. -/
def mDeterministic (p : Bytes) : Bool := bit (pMode p) 4

/-- MODE bits allowed (Table 7-4). -/
def modeMask (op : Nat) : Nat :=
  match op with
  | 0x0401 => 1 | 0x0402 => 3 | 0x0404 => 2 | 0x0405 => 4 | 0x0406 => 9 | 0x0407 => 11 | 0x0409 => 2
  | 0x040A => 16 | 0x040B => 2 | 0x040C => 2 | _ => 0

/-- The curve supports the operation with OPS bit `k`. -/
def curveDoes (s : State) (set k : Nat) : Bool :=
  match curveOf s set with
  | some c => bit c.ops k
  | none => false

/-- A modulus size from `lo` bits up, in whole bytes. -/
def sizeOk (lo set : Nat) : Bool := lo ≤ set && set ≤ 8192 && set % 8 == 0

/-- SET is allowed (Table 7-4). -/
def setOk (s : State) (op set : Nat) : Bool :=
  match op with
  | 0x0401 => curveDoes s set 0
  | 0x0402 => curveDoes s set 0
  | 0x0403 => set == 0x22 || set == 0x24
  | 0x0404 => set == 0x22 || set == 0x24
  | 0x0405 => curveDoes s set 2
  | 0x0406 => sizeOk 2048 set
  | 0x0407 => sizeOk 1024 set
  | 0x0408 => sizeOk 2048 set
  | 0x0409 => sizeOk 2048 set
  | 0x040A => set == 44 || set == 65 || set == 87
  | 0x040B => set == 44 || set == 65 || set == 87
  | 0x040C => set == 512 || set == 768 || set == 1024
  | 0x040D => set == 512 || set == 768 || set == 1024
  | _ => sizeOk 16 set

/-- HASH is allowed, or is 0x01, which step 8 judges (Table 7-4, R212). -/
def hashOk (op h : Nat) : Bool :=
  h == 1 ||
  match op with
  | 0x0401 => [2, 3, 4, 5, 0x11, 0x12, 0x13, 0x14].contains h
  | 0x0402 => [2, 3, 4, 5, 0x11, 0x12, 0x13, 0x14].contains h
  | 0x0406 => [3, 4, 5, 0x12, 0x13, 0x14].contains h
  | 0x0407 => [3, 4, 5, 0x12, 0x13, 0x14].contains h
  | 0x0408 => [3, 4, 5].contains h
  | 0x0409 => [3, 4, 5].contains h
  | _ => h == 0

/-- The largest message or salt that OAEP or PSS leaves: k − 2·hLen − 2 and k − hLen − 2. -/
def oaepMax (set hash : Nat) : Nat := set / 8 - 2 * digestLen hash - 2
/-- The largest PSS salt. -/
def saltMax (set hash : Nat) : Nat := set / 8 - digestLen hash - 2

/-- ARG is allowed (Table 7-4). -/
def argOk (op : Nat) (p : Bytes) : Bool :=
  let a := pArg p
  match op with
  | 0x0403 => a == 0 || (pSet p == 0x24 && a ≤ 255)
  | 0x0404 => a == 0 || (pSet p == 0x24 && a ≤ 255)
  | 0x0406 => if mPss p then a ≤ saltMax (pSet p) (pHash p) else a == 0
  | 0x0407 => if mPss p then a ≤ saltMax (pSet p) (pHash p) || a == 0xFFFFFFFF else a == 0
  | 0x0408 => a ≤ 256
  | 0x0409 => a ≤ 256
  | 0x040A => a ≤ 255
  | 0x040B => a ≤ 255
  | 0x0410 => 1 ≤ a && a ≤ 8192
  | _ => a == 0

/-- The job takes no key from a slot (R211). -/
def noSlotKey (op : Nat) (p : Bytes) : Bool :=
  keylessOp op || (publicOp op && mInline p) || (op == 0x0405 && mEphemeral p)

/-- The private key type of an operation; the public type is one more. -/
def millType (op : Nat) : Nat :=
  if op ≤ 0x0405 then 0x10 else if op ≤ 0x0409 then 0x12 else if op ≤ 0x040B then 0x14 else 0x16

/-- Key classes (R211). -/
def millClasses (op : Nat) : List Nat :=
  if publicOp op then [0, 1, 2, 3] else if [0x0401, 0x0403, 0x0406, 0x040A].contains op then [0, 1, 2] else [0]

/-- The use bit of Table 10-3. -/
def millAttr (op : Nat) : Nat :=
  match op with
  | 0x0402 => aVerify
  | 0x0404 => aVerify
  | 0x0407 => aVerify
  | 0x040B => aVerify
  | 0x0405 => aDerive
  | 0x040D => aDerive
  | 0x0408 => aDecrypt
  | 0x0409 => aEncrypt
  | 0x040C => aEncrypt
  | _ => aSign

/-- The key of a Mill job is permitted (R211, R289, R290). -/
def millKeyOk (s : State) (r : JobReq) (op : Nat) (p : Bytes) : Bool :=
  noSlotKey op p ||
  keyPermitted s r.fn r.desc.key (millClasses op) asymIndex
    (fun k => (k.type == millType op || (publicOp op && k.type == millType op + 1)) && k.set == pSet p &&
      bit k.attr (millAttr op))

/-- Length of a public key in the source. -/
def pubLen (s : State) (op set : Nat) : Nat := (keyLen s (millType op + 1) set).getD 0

/-- Length of a signature (Table 7-4). -/
def signatureLen (s : State) (op set : Nat) : Nat :=
  if op ≤ 0x0402 then 2 * ((curveOf s set).map scalarLen).getD 0
  else if op ≤ 0x0404 then (if set == 0x24 then 114 else 64)
  else if op ≤ 0x0407 then set / 8
  else match set with | 44 => 2420 | 65 => 3309 | _ => 4627

/-- Length of a shared secret of ECDH. -/
def secretLen (s : State) (set : Nat) : Nat := ((curveOf s set).map fieldLen).getD 0

/-- The source's fixed bytes and whether a variable message follows (Table 7-4). -/
def millSource (s : State) (op : Nat) (p : Bytes) : Nat × Bool :=
  let set := pSet p
  let k := if mInline p then pubLen s op set else 0
  let d := if mMessage p then 0 else digestLen (pHash p)
  match op with
  | 0x0401 => (d, mMessage p)
  | 0x0402 => (k + signatureLen s op set + d, mMessage p)
  | 0x0403 => (pArg p, true)
  | 0x0404 => (k + signatureLen s op set + pArg p, true)
  | 0x0405 => (pubLen s op set, false)
  | 0x0406 => (d, mMessage p)
  | 0x0407 => (k + set / 8 + d, mMessage p)
  | 0x0408 => (pArg p + set / 8, false)
  | 0x0409 => (k + pArg p, true)
  | 0x040A => (pArg p, true)
  | 0x040B => (k + signatureLen s op set + pArg p, true)
  | 0x040C => (k, false)
  | 0x040D => (kemCtLength set, false)
  | 0x0410 => (2 * (set / 8) + ceilDiv (pArg p) 8, false)
  | _ => (3 * (set / 8), false)
where
  /-- Ciphertext bytes of ML-KEM. -/
  kemCtLength (set : Nat) : Nat := match set with | 512 => 768 | 768 => 1088 | _ => 1568

/-- Output bytes of a Mill job, the most for RSA_DECRYPT (Table 7-4). -/
def millOut (s : State) (op : Nat) (p : Bytes) : Nat :=
  let set := pSet p
  match op with
  | 0x0405 => (if mEphemeral p then pubLen s op set else 0) + secretLen s set
  | 0x0408 => oaepMax set (pHash p)
  | 0x0409 => set / 8
  | 0x040C => millSource.kemCtLength set + 32
  | 0x040D => 32
  | 0x0410 => set / 8
  | 0x0411 => set / 8
  | _ => if publicOp op then 0 else signatureLen s op set

/-- Bytes of the OAEP message of an RSA_ENCRYPT. -/
def oaepLen (s : State) (p : Bytes) (total : Nat) : Nat := total - (millSource s 0x0409 p).1

/-- Step 1 of R212 and R251: reserved fields and R207. -/
def millForm (d : Desc) (key : Bool) (param : Option Nat) : List (Bool × Fail) :=
  formChecks d (!(dFirst d && dFinal d)) key (d.context != 0xFFFFFFFF) (d.aadLen != 0) param

/-- Reserved PARAM bits of a Mill job: MODE [7:5] and bytes 8–15 (Table 7-3). -/
def millParamFault (p : Bytes) : Option Nat := if 32 ≤ pMode p then some 47 else strayByte 44 p [(0, 8)]

/-- SET, HASH, MODE and ARG are values that Table 7-4 allows. -/
def millParamOk (s : State) (op : Nat) (p : Bytes) : Bool :=
  setOk s op (pSet p) && hashOk op (pHash p) && pMode p &&& modeMask op == pMode p && argOk op p

/-- The checks of R212. Step 3 judges the destination against the output (R52) where PARAM names one. -/
def millChecks (s : State) (op : Nat) (r : JobReq) : List (Bool × Fail) :=
  let d := r.desc
  let p := dParam d
  let src := millSource s op p
  millForm d false (millParamFault p) ++
  lengthChecks r (if millParamOk s op p then millOut s op p else 0) ++ modeChecks s false false ++
  [ends (s.ident.optionN && latticeOp op) eState (deviceStatus s),
   ends (noSlotKey op p == (d.key != 0)) eFormat 8,
   ends (!setOk s op (pSet p)) eFormat 44,
   ends (!hashOk op (pHash p)) eFormat 46,
   ends (pMode p &&& modeMask op != pMode p) eFormat 47,
   ends (!argOk op p) eFormat 48,
   ends (!millKeyOk s r op p || (pHash p == 1 && op != 0x0402 && op != 0x0407)) eDenied 0] ++
  (if noSlotKey op p then [] else [keyCheck s d.key]) ++
  [ends (if src.2 then d.totalLen < src.1 else d.totalLen != src.1) eLengthMismatch d.totalLen,
   ends (op == 0x0409 && oaepMax (pSet p) (pHash p) < oaepLen s p d.totalLen) eLength 36]

/-! ### VERIFY_OFFLINE (R251) -/

/-- The slots that the verdict keys name hold keys (R236). -/
def verdictKeysHeld (s : State) : Bool :=
  s.verdictKeys.named && (ownKey s s.verdictKeys.ecdsa).isSome &&
  (s.verdictKeys.alg != 2 || (ownKey s s.verdictKeys.mldsa).isSome)

/-- The verdict keys are set, and have the bit SIGN (R236, R289). -/
def verdictKeysSet (s : State) : Bool :=
  s.verdictKeys.named && (signKey s s.verdictKeys.ecdsa).isSome &&
  (s.verdictKeys.alg != 2 || (signKey s s.verdictKeys.mldsa).isSome)

/-- Bytes of a verdict with its signature. -/
def verdictLen (s : State) : Nat := if s.verdictKeys.alg == 2 then 3917 else 608

/-- The data groups DG_MASK names, in order. -/
def dgsOf (mask : Nat) : List Nat := (List.range 16).filter (bit mask)

/-- The data groups of a source from `off` on: number, offset of its DG_LEN, bytes; and the offset after them. -/
def splitDgs (b : Bytes) : List Nat → Nat → List (Nat × Nat × Bytes) × Nat
  | [], off => ([], off)
  | n :: r, off =>
    let len := rd b off 4
    let rest := splitDgs b r (off + 4 + len)
    ((n, off, slice b (off + 4) len) :: rest.1, rest.2)

/-- The source's own fields at fault: E_FORMAT offsets of Table 8-8a. -/
def offlineForm (b : Bytes) : Option Nat :=
  if rd b 0 1 != 1 then some 0x80000000
  else if 2 ≤ rd b 1 1 then some 0x80000001
  else if 16 ≤ rd b 2 2 then some 0x80000002
  else if bit (rd b 8 2) 0 then some 0x80000008
  else strayByte 0x8000000C (slice b 12 20) []

/-- The lengths in the source at fault: E_LENGTH offsets. -/
def offlineLimits (b : Bytes) : Option Nat :=
  let sod := rd b 4 4
  if sod == 0 || 65536 < sod then some 0x80000004
  else if (if bit (rd b 1 1) 0 then rd b 10 2 == 0 || 512 < rd b 10 2 else rd b 10 2 != 0) then some 0x8000000A
  else (splitDgs b (dgsOf (rd b 8 2)) (32 + sod)).1.findSome? (fun g =>
    if (g.2.1 + 4 ≤ b.length && rd b g.2.1 4 == 0) || 1048576 < rd b g.2.1 4 then some (0x80000000 + g.2.1) else none)

/-- Bytes the source's fields add up to. -/
def offlineTotal (b : Bytes) : Nat :=
  (splitDgs b (dgsOf (rd b 8 2)) (32 + rd b 4 4)).2 + (if bit (rd b 1 1) 0 then 8 + rd b 10 2 else 0)

/-- The checks of R251. -/
def offlineChecks (s : State) (r : JobReq) : List (Bool × Fail) :=
  let d := r.desc
  let b := srcData r
  millForm d (d.key != 0) (strayByte 44 (dParam d) []) ++
  lengthChecks r (verdictLen s) ++ modeChecks s false true ++
  [formatAt (offlineForm b),
   ends (4194304 < d.totalLen) eLength 36,
   ends (offlineLimits b).isSome eLength ((offlineLimits b).getD 0),
   ends (offlineTotal b != d.totalLen) eLengthMismatch d.totalLen,
   ends (!verdictKeysHeld s) eKeyAbsent 0,
   ends (!verdictKeysSet s) eDenied 0]

/-! ### All of them -/

/-- The engine of a job opcode (Table 2-17); `none` for a code that is not a J code. -/
def engineOf (op : Nat) : Option Engine :=
  if (0x0201 ≤ op && op ≤ 0x020B) || (0x0210 ≤ op && op ≤ 0x0212) then some .thresher
  else if op == 0x0301 || op == 0x0302 then some .flail
  else if (0x0401 ≤ op && op ≤ 0x040D) || op == 0x0410 || op == 0x0411 then some .mill
  else if op == 0x0601 then some .hand
  else none

/-- The checks of a descriptor whose OPCODE is no J code: the first step of the order that its group of codes has, where one
has, then E_CODE (R67, R166, R191, R212); the Thresher's and the Flail's groups have messages (R163). -/
def unknownChecks (s : State) (op : Nat) (r : JobReq) : List (Bool × Fail) :=
  let d := r.desc
  (match op / 256 with
   | 2 => endedCheck s r :: formChecks d false false false false none
   | 3 => endedCheck s r :: formChecks d false (d.key != 0) false (d.aadLen != 0)
       (strayByte 44 (dParam d) (if dFirst d then [(0, 2), (4, 4)] else []))
   | 4 => millForm d false (millParamFault (dParam d))
   | _ => formChecks d false false false false none) ++ [ends true eCode 0]

/-- The engine whose group of codes an OPCODE that is no J code lies in. -/
def unknownEngine (op : Nat) : Engine := match op / 256 with | 2 => .thresher | 3 => .flail | 4 => .mill | _ => .hand

/-- The checks of a job by its engine. -/
def jobChecks (s : State) (b : Job) : List (Bool × Fail) :=
  if (engineOf b.opcode).isNone then unknownChecks s b.opcode b.req
  else match b.engine with
  | .thresher => thresherChecks s b.opcode b.req
  | .flail => flailChecks s b.opcode b.req
  | .mill => millChecks s b.opcode b.req
  | .hand => offlineChecks s b.req

end Sys2Proof.Machine
end

