-- ==== Sys2Proof/Machine/PortOps.lean ====
section
/-! DEFINITION. Capture ports (chapter 03): how slots map to lanes, floors and clocks, the port registers of
Table 3-10 and counters of Table 3-11, and the transmit direction (R89, R92, R94, R95). A port is known by its slot
of R99: 0 to 119 for CP000 to CP119, 120 + k for HWk. -/

namespace Sys2Proof.Machine

/-! ### Slots (R68–R70, R99) -/

/-- The slot a port selector names (R68). -/
def slotOf (sel : Nat) : Option Nat :=
  if sel < 0x78 then some sel else if 0x80 ≤ sel && sel < 0x88 then some (sel - 0x80 + 120) else none

/-- The selector of a slot. -/
def selectorOf (p : Nat) : Nat := if p < 120 then p else p - 120 + 0x80

/-- The slot is that of a Hawser port. -/
def hawserPort (p : Nat) : Bool := 120 ≤ p

/-- The floor of a port (Table 3-1). -/
def portFloor (p : Nat) : Nat := if p < 120 then p / 20 else [0, 1, 2, 3, 4, 5, 0, 1].getD (p - 120) 0

/-- The quad of a port (Table 3-1). -/
def portQuad (p : Nat) : Nat := if p < 120 then 6 + p / 4 else if p < 124 then 4 else 5

/-- The reference clock of a port (Table 3-2). -/
def portRef (p : Nat) : Nat :=
  if portQuad p < 12 then 0 else if portQuad p < 20 then 1 else if portQuad p < 28 then 2 else 3

/-- The quad's reference is present (R70). -/
def refOk (s : State) (p : Nat) : Bool := bit s.power.ethRef (portRef p)

/-- Hawser ports serve only in Solo (R72). -/
def portAvailable (s : State) (p : Nat) : Bool := p < 120 || s.pair.role == .solo

/-- The default address (R82). -/
def defaultMac (s : State) (p : Nat) : Bytes := [2] ++ be 3 (s.ident.serial % 2 ^ 24) ++ [0, byte (selectorOf p)]

/-- The address a port uses (R80, R82). -/
def macOf (s : State) (p : Nat) : Bytes :=
  if allZero (portOf s p).cfg.mac then defaultMac s p else (portOf s p).cfg.mac

/-- STRAND_HOLD_KIB in bytes; 0 selects 512 KiB (Table 3-4). -/
def holdBytes (s : State) (p : Nat) : Nat :=
  let k := (portOf s p).cfg.holdKib
  (if k == 0 then 512 else k) * 1024

/-- The stored Table 3-4 payload (R82). -/
def portCfgBytes (s : State) (p : Nat) : Bytes :=
  let c := (portOf s p).cfg
  le 1 (selectorOf p) ++ le 1 c.admin ++ le 1 c.lanes ++ le 1 c.an ++ le 1 c.medium ++ le 1 c.fecAllow ++
  le 2 c.modeAllow ++ le 1 c.forcedMode ++ le 1 c.forcedFec ++ le 1 c.pauseRx ++ le 1 c.pauseTx ++
  le 2 c.vlan ++ le 2 c.holdKib ++ fit 6 c.mac ++ zeros 2

/-! ### Table 3-10 -/

/-- A forced configuration in whose mode no link training runs (R77, R78). -/
def untrained (c : PortCfg) : Bool := c.an == 0 && c.forcedMode == 1

/-- A forced configuration without FEC. -/
def fecNone (c : PortCfg) : Bool := c.an == 0 && c.forcedFec == 0

/-- PORT_LINK. -/
def portLink (s : State) (p : Nat) : Nat :=
  let w := portOf s p
  pack [(ofBool w.up, 0, 1), (ofBool (w.anDone || w.cfg.an == 0), 1, 1), (ofBool (w.ltDone || untrained w.cfg), 2, 1),
    (ofBool w.pcsLock, 3, 1), (ofBool (w.fecLock || fecNone w.cfg), 4, 1), (ofBool w.hiBer, 5, 1), (ofBool (refOk s p), 6, 1),
    (ofBool w.absorbed, 7, 1), (ofBool (w.cfg.admin == 1 && !w.absorbed), 8, 1), (ofBool (portAvailable s p), 9, 1),
    (w.changes, 16, 16)]

/-- PORT_MODE. The lead is the port itself unless it is absorbed (R75). -/
def portMode (s : State) (p : Nat) : Nat :=
  let w := portOf s p
  pack [(if w.up then w.mode else 0, 0, 4), (if w.up then w.fec else 0, 4, 2), (w.cfg.medium, 6, 1),
    (w.cfg.lanes, 8, 3), (selectorOf (if w.absorbed then w.lead else p), 16, 8), (ofBool w.symPause, 24, 1),
    (ofBool w.asymPause, 25, 1)]

/-- Strands whose ingress port is `p` and which are under strand PAUSE. -/
def strandsPaused (s : State) (p : Nat) : Nat :=
  (s.strands.filter (fun e => slotOf e.2.cfg.ingress == some p && e.2.state != .unused && e.2.pausing)).length

/-- PORT_FLOW. METER_WAIT reads 0: the model has no rate for the meter of R16 to bound. -/
def portFlow (s : State) (p : Nat) : Nat :=
  let w := portOf s p
  pack [(ofBool w.txPausing, 0, 1), (ofBool w.rxPaused, 1, 1), (strandsPaused s p, 16, 16)]

/-! ### Counters (Table 3-11) -/

/-- Counters by their order in Table 3-11. -/
abbrev cRxOk : Nat := 0
abbrev cRxBytes : Nat := 1
abbrev cFcs : Nat := 2
abbrev cRunt : Nat := 3
abbrev cOversize : Nat := 4
abbrev cAddr : Nat := 5
abbrev cVlan : Nat := 6
abbrev cEtherType : Nat := 7
abbrev cLength : Nat := 8
abbrev cHeader : Nat := 9
abbrev cNoStrand : Nat := 10
abbrev cTagFail : Nat := 11
abbrev cBinsDrop : Nat := 12
abbrev cRxPause : Nat := 13
abbrev cTxFrames : Nat := 14
abbrev cTxBytes : Nat := 15
abbrev cTxData : Nat := 16
abbrev cTxAck : Nat := 17
abbrev cTxNak : Nat := 18
abbrev cTxStrandPause : Nat := 19
abbrev cTxPause : Nat := 20
abbrev cFecOk : Nat := 21
abbrev cFecBad : Nat := 22
abbrev cUnkeyed : Nat := 23

/-- Counter `k`. -/
def counterOfPort (s : State) (p k : Nat) : Nat := tblGet (portOf s p).counters k 0

/-- Count `n`, saturating at 2^64 − 1 (R100). -/
def countPort (s : State) (p k n : Nat) : State :=
  let w := portOf s p
  setPort s p { w with counters := tblSet w.counters k (sat (2 ^ 64 - 1) (tblGet w.counters k 0 + n)) }

/-! ### Frames to send -/

/-- The VLAN tag of frames the port sends (R85). -/
def vlanTag (c : PortCfg) : Bytes :=
  if c.vlan % 4096 == 0 then [] else [0x81, 0x00] ++ be 2 (bits c.vlan 14 12 * 2 ^ 13 + c.vlan % 4096)

/-- Destination to EtherType of a frame sent on port `p`, with the address and VLAN that the port has as the frame starts
(R80); a link PAUSE is untagged (R85). -/
def ethHeader (s : State) (p : Nat) (x : TxFrame) : Bytes :=
  if x.kind == 0x100 then fit 6 x.dst ++ macOf s p ++ [0x88, 0x08]
  else fit 6 x.dst ++ macOf s p ++ vlanTag (portOf s p).cfg ++ [0x88, 0xB5]

/-- Length from destination address through FCS. -/
def wireLen (x : TxFrame) : Nat := x.eth.length + x.bytes.length + 4

/-- The counter of a frame's own type, if it has one (Table 3-11). -/
def txCounter (kind : Nat) : Option Nat :=
  match kind with
  | 1 => some cTxData
  | 3 => some cTxAck
  | 4 => some cTxNak
  | 5 => some cTxStrandPause
  | 0x100 => some cTxPause
  | _ => none

/-- The frame that may start now: a link PAUSE at any time, others only while no received PAUSE holds the port;
control frames before DATA (R94, R95). The rest of the queues comes with it. Among control frames a link PAUSE goes first, the
others in the order in which they came, notes/assumptions/19.md (DESIGN CHOICE). -/
def nextFrame (w : Port) : Option (TxFrame × Port) :=
  match w.ctrlQ.find? (fun x => x.kind == 0x100) with
  | some x => some (x, { w with ctrlQ := w.ctrlQ.erase x })
  | none =>
    if w.rxPaused then none
    else match w.ctrlQ with
      | x :: r => some (x, { w with ctrlQ := r })
      | [] =>
        match w.dataQ with
        | x :: r => some (x, { w with dataQ := r })
        | [] => none

/-- Start to transmit if the port may: its link is up, nothing is being sent, and the unit acts (R393) with a watchdog that
has not fired (R403). The frame is
counted as its first byte goes out. -/
def startTx (s : State) (p : Nat) : State :=
  let w := portOf s p
  if !w.up || w.sending.isSome || !acting s || txOff s || s.scarecrow.wdogFired then s
  else match nextFrame w with
    | none => s
    | some (x, w) =>
      let x := { x with eth := ethHeader s p x }
      let s := setPort s p { w with sending := some x }
      let s := countPort (countPort s p cTxFrames 1) p cTxBytes (wireLen x)
      match txCounter x.kind with
      | some k => countPort s p k 1
      | none => s

/-- Queue a control frame on a port's transmit direction. -/
def sendCtrl (s : State) (p : Nat) (x : TxFrame) : State :=
  let w := portOf s p
  startTx (setPort s p { w with ctrlQ := w.ctrlQ ++ [x] }) p

/-- Queue an egress DATA frame in its turn of arrival at the egress gate (R95). -/
def sendData (s : State) (p : Nat) (x : TxFrame) : State :=
  let w := portOf s p
  let q := w.dataQ.takeWhile (fun y => y.turn ≤ x.turn) ++ x :: w.dataQ.dropWhile (fun y => y.turn ≤ x.turn)
  startTx (setPort s p { w with dataQ := q }) p

/-- The frame as it is sent again after a cut: a DATA frame sets RETRANSMIT (R89, R128). -/
def cutFrame (x : TxFrame) : TxFrame :=
  if x.kind == 1 then
    { x with bytes := x.bytes.take 2 ++ ((x.bytes.drop 2).take 1).map (fun y => y ||| 2) ++ x.bytes.drop 3 }
  else x

/-- Cut the frame being sent: it goes back to its place (R89). -/
def cutTx (w : Port) : Port :=
  match w.sending with
  | none => w
  | some x =>
    if x.kind == 1 then { w with sending := none, dataQ := cutFrame x :: w.dataQ }
    else if x.kind == 0x100 then { w with sending := none }
    else { w with sending := none, ctrlQ := x :: w.ctrlQ }

/-! ### Link state (R77, R89) -/

/-- Change UP, counting the change (Table 3-10). -/
def setUp (w : Port) (v : Bool) : Port :=
  if w.up == v then w else { w with up := v, changes := sat 0xFFFF (w.changes + 1) }

/-- The link of port `p` goes down: locks, mode and pauses clear, and a frame being sent is cut (R89). -/
def takeDown (s : State) (p : Nat) : State :=
  let w := cutTx (portOf s p)
  let w := { w with ctrlQ := w.ctrlQ.filter (fun x => x.kind != 0x100) }
  let w := { setUp w false with anDone := false, ltDone := false, pcsLock := false, fecLock := false, hiBer := false }
  setPort s p { w with mode := 0, fec := 0, rxPaused := false, txPausing := false }

/-- The fields whose change restarts the link of an enabled port (R80). -/
def linkFields (c : PortCfg) : List Nat :=
  [c.admin, c.an, c.medium, c.modeAllow, c.fecAllow, c.forcedMode, c.forcedFec, c.lanes, c.pauseRx, c.pauseTx]

/-- The first port of the quad of `p`, which lies on lane 0. -/
def quadBase (p : Nat) : Nat := p - p % 4

/-- The port of the quad that leads the group which takes the lane of `p`, if `p` is absorbed (R74, R75): a group of 4
takes the whole quad, so a group of 2 forms under it again only when it is gone. -/
def laneLead (s : State) (p : Nat) : Option Nat :=
  let b := quadBase p
  if hawserPort p || p == b then none
  else if (portOf s b).cfg.lanes == 4 then some b
  else if p % 2 == 1 && (portOf s (p - 1)).cfg.lanes == 2 then some (p - 1)
  else none

/-- One port of a quad follows its groups (R75): newly absorbed, its link goes down; freed, it returns disabled, with its
earlier settings. -/
def regroupPort (s : State) (p : Nat) : State :=
  let w := portOf s p
  match laneLead s p with
  | some l =>
    let s := if w.absorbed then s else takeDown s p
    setPort s p { portOf s p with absorbed := true, lead := l }
  | none =>
    if w.absorbed then setPort s p { w with absorbed := false, lead := 0, cfg := { w.cfg with admin := 0 } } else s

/-- The ports of the quad of `p` follow their lane groups. -/
def regroup (s : State) (p : Nat) : State := ((List.range 4).map (· + quadBase p)).foldl regroupPort s

/-- Store a port's configuration: a change of the link fields takes the link down (R80), and the lane groups follow
LANES (R75). -/
def storePort (s : State) (p : Nat) (c : PortCfg) : State :=
  let s := if linkFields (portOf s p).cfg == linkFields c then s else takeDown s p
  regroup (share (setPort s p { portOf s p with cfg := c }) (.port p c)) p

/-! ### Bins and link PAUSE (R92) -/

/-- Bins bytes of the sheaf instances kept on a floor (chapter 09). -/
def instanceBytes (s : State) (f : Nat) : Nat :=
  512 * (s.instances.filter (fun e =>
    match slotOf (strandOf s (e.1 / 1024)).cfg.ingress with
    | some p => portFloor p == f
    | none => false)).length

/-- The release blocks' share of a floor's Bins (R249). -/
def binsReserve : Nat := 2097152

/-- Free Bins of a floor: 16 MiB less the release blocks' 2 MiB, the instances and the frames held (R92, R249). -/
def freeBins (s : State) (f : Nat) : Nat := 16777216 - binsReserve - instanceBytes s f - (floorOf s f).used

/-- The ports of a floor. -/
def floorPorts (f : Nat) : List Nat := (List.range 128).filter (fun p => portFloor p == f)

/-- A link PAUSE frame (IEEE 802.3 Annex 31B). -/
def pauseFrame (quanta : Nat) : TxFrame :=
  { kind := 0x100, dst := [0x01, 0x80, 0xC2, 0, 0, 0x01], bytes := be 2 1 ++ be 2 quanta ++ zeros 42 }

/-- Send a link PAUSE on a port whose PAUSE_TX is 1 and whose link is up (R79, R92). -/
def pausePort (s : State) (p quanta : Nat) : State :=
  let w := portOf s p
  if w.up && w.cfg.pauseTx == 1 then sendCtrl (setPort s p { w with txPausing := quanta != 0 }) p (pauseFrame quanta) else s

/-- Send a link PAUSE on each of the floor's ports that may (R92). -/
def linkPause (s : State) (f quanta : Nat) : State :=
  (floorPorts f).foldl (fun s p => pausePort s p quanta) (setFloor s f { floorOf s f with lastPause := s.now })

/-- The AES cores of a floor in service. -/
def servingCores (s : State) (f : Nat) : List Nat :=
  (List.range 16).filter (fun c => !(floorOf s f).withdrawn.contains c && !(floorOf s f).retired.contains c)

/-- AES cores of a floor in service. -/
def coresInService (s : State) (f : Nat) : Nat := (servingCores s f).length

/-- Twin computation is on and the floor has fewer than 2 cores in service: it admits no capture frame (R477). -/
def starved (s : State) (f : Nat) : Bool := s.twin && coresInService s f < 2

/-- The floor's free Bins crossed a threshold (R92), or the floor began or ceased to admit no frame (R477). -/
def linkPauseCheck (s : State) (f : Nat) : State :=
  let w := floorOf s f
  if (freeBins s f < 2097152 || starved s f) && !w.pausing then linkPause (setFloor s f { w with pausing := true }) f 0xFFFF
  else if 4194304 < freeBins s f && !starved s f && w.pausing then linkPause (setFloor s f { w with pausing := false }) f 0
  else s

/-- R92 on every floor. -/
def watchBins (s : State) : State := (List.range 6).foldl linkPauseCheck s

/-! ### Floors (R25) -/

/-- The floor has a reason to be awake: a capture port with a link, a host context, or a job that needs it (R25). -/
def floorNeeded (s : State) (f : Nat) : Bool :=
  (floorPorts f).any (fun p => (portOf s p).up) || s.contexts.any (fun e => e.2.floor == f) ||
  s.jobs.any (fun b => b.engine == .thresher && b.floor == f)

/-- Gate the floor when nothing needs it (R25). -/
def settleFloor (s : State) (f : Nat) : State :=
  if !(floorOf s f).awake || floorNeeded s f then s else setFloor s f { floorOf s f with awake := false }

/-- Gate every floor that nothing needs. -/
def settleFloors (s : State) : State := (List.range 6).foldl settleFloor s

end Sys2Proof.Machine
end

