-- ==== Sys2Proof/Machine/StrandOps.lean ====
section
/-! DEFINITION. Strands (chapter 04): headers, tags and knots, hub frames (R117), held bytes and strand PAUSE (R90),
the ordering window (R118), the knot builder and the braid (R122, R123), seals (R132–R136), the egress gate (R17,
R18, R121, R129), and the state changes of Table 4-2. -/

namespace Sys2Proof.Machine

/-! ### Layouts -/

/-- A strand header (Table 3-6). -/
def strandHeader (type flags strand len seq capture epoch kind info : Nat) (aux : Bytes) : Bytes :=
  le 1 1 ++ le 1 type ++ le 2 flags ++ le 2 strand ++ le 2 len ++ le 8 seq ++ le 8 capture ++ le 4 epoch ++
  le 2 kind ++ le 2 info ++ fit 12 aux ++ zeros 4

/-- TYPE of a header. -/
def hType (h : Bytes) : Nat := rd h 1 1
/-- FLAGS. -/
def hFlags (h : Bytes) : Nat := rd h 2 2
/-- Strand ID. -/
def hStrand (h : Bytes) : Nat := rd h 4 2 % 4096
/-- PAYLOAD_LEN. -/
def hLen (h : Bytes) : Nat := rd h 6 2
/-- SEQ. -/
def hSeq (h : Bytes) : Nat := rd h 8 8
/-- CAPTURE_TIME. -/
def hCapture (h : Bytes) : Nat := rd h 16 8
/-- KEY_EPOCH. -/
def hEpoch (h : Bytes) : Nat := rd h 24 4
/-- UNIT_KIND. -/
def hKind (h : Bytes) : Nat := rd h 28 2
/-- UNIT_INFO. -/
def hInfo (h : Bytes) : Nat := rd h 30 2

/-- The header with RETRANSMIT taken as 0 (R115). -/
def withoutRetransmit (h : Bytes) : Bytes :=
  h.take 2 ++ ((h.drop 2).take 1).map (fun b => b &&& 0xFD) ++ h.drop 3

/-- MSG of a CTRL payload (R106). -/
def msgOf (p : Bytes) : Nat := rd p 0 2

/-- AES-256-GMAC, 16 bytes. -/
def gmac (key iv data : Bytes) : Bytes := fit 16 (Config.gcmTag key iv data [])

/-- The source tag of a frame (R115). -/
def sourceTag (key fixed : Bytes) (seq : Nat) (header payload : Bytes) : Bytes :=
  gmac key (makeIv fixed seq) (withoutRetransmit header ++ payload)

/-- The 128 bytes of a knot (Table 4-6). -/
def knotBytes (k : Knot) : Bytes :=
  le 1 1 ++ le 1 k.kind ++ le 2 k.flags ++ le 2 k.strand ++ le 2 k.payloadLen ++ le 8 k.seq ++ le 8 k.captureTime ++
  le 8 k.arrival ++ le 4 k.archiveKey ++ le 4 k.epoch ++ le 2 k.unitKind ++ le 2 k.unitInfo ++ le 4 k.aux ++
  fit 16 k.sourceTag ++ fit 32 k.contentDigest ++ fit 32 k.prev

/-- Knot kinds (Table 4-7). -/
abbrev kData : Nat := 1
abbrev kGap : Nat := 2
abbrev kOpen : Nat := 3
abbrev kRekey : Nat := 4
abbrev kCtrl : Nat := 5
abbrev kClose : Nat := 6
abbrev kResume : Nat := 7
abbrev kWithheld : Nat := 8

/-- The highest SEQ a knot covers (R121, Table 4-10). -/
def knotCover (k : Knot) : Nat := if k.kind == kGap then k.seq + k.aux % 65536 - 1 else k.seq

/-- The signed portion of a seal record (Table 4-10). -/
def sealPortion (x : Seal) : Bytes :=
  le 1 1 ++ le 1 x.kind ++ le 2 x.flags ++ le 2 x.strand ++ zeros 2 ++ le 8 x.sealNo ++ le 8 x.serial ++ le 8 x.tick ++
  le 8 x.segStart ++ le 8 x.firstSeq ++ le 8 x.lastSeq ++ le 4 x.knots ++ le 4 x.epoch ++ fit 32 x.head ++
  fit 32 x.prevSeal ++ fit 8 x.ecdsaKid ++ fit 8 x.mldsaKid ++ zeros 16

/-- Strand states by number (Table 4-1). -/
def strandNo : StrandState → Nat
  | .unused => 0 | .armed => 1 | .keying => 2 | .opened => 3 | .held => 4 | .closing => 5

/-- OPEN or HELD. -/
def isOpen (st : Strand) : Bool := st.state == .opened || st.state == .held

/-- The ingress port's slot. -/
def ingressOf (st : Strand) : Nat := (slotOf st.cfg.ingress).getD 0

/-- The egress port's slot. -/
def egressOf (st : Strand) : Nat := (slotOf st.cfg.egress).getD 0

/-- The strand asks for content digests (R126). -/
def wantsDigest (c : StrandCfg) : Bool := bit c.flags 0

/-- REQUIRE_PQ. -/
def requiresPq (c : StrandCfg) : Bool := bit c.flags 1

/-! ### AES cores (R146, R150, R172) -/

/-- The cores of a floor that capture works on: source tags being verified, a frame being encrypted (R17). -/
def captureCores (s : State) (f : Nat) : List Nat :=
  s.strands.flatMap (fun e =>
    if portFloor (ingressOf e.2) == f then
      (e.2.window.filter (fun w => w.state == .verifying)).flatMap (·.cores) ++
      (match e.2.building with
       | some r => if r.enc == .pending || r.enc == .retry then r.cores else []
       | none => [])
    else [])

/-- The cores of a floor that slices of host work run on. -/
def sliceCores (s : State) (f : Nat) : List Nat :=
  (s.jobs.filter (fun b => b.engine == .thresher && b.onCore && b.floor == f)).flatMap (·.cores)

/-- The cores of a floor that nothing runs on: capture, served first, and the slices under way leave them free (R172). -/
def idleCores (s : State) (f : Nat) : List Nat :=
  (servingCores s f).filter (fun c => !(captureCores s f ++ sliceCores s f).contains c)

/-- Take `n` cores of those idle, a lead and a check core chosen at random (R146): the key, with whether it is of custody class, goes
into their key registers (R150). Where too few are idle none is taken. -/
def takeCores (s : State) (f : Nat) (idle : List Nat) (n : Nat) (key : Bytes × Bool) : List Nat × State :=
  if idle.length < n then ([], s)
  else
    let rest := idle.drop 1
    let cores := idle.take 1 ++ (if n == 2 then (rest[ofLe (randomBytes s 1) % rest.length]?).toList else [])
    let w := floorOf s f
    (cores, setFloor (if n == 2 then draw s else s) f { w with keyRegs := cores.foldl (fun t c => tblSet t c key) w.keyRegs })

/-- A capture task of strand `i` takes its cores: a pair while twin computation is on, else one (R146, R148). A task that finds
none idle is not held up, notes/assumptions/29.md (DESIGN CHOICE). -/
def captureTask (s : State) (i : Nat) (key : Bytes) : List Nat × State :=
  let f := portFloor (ingressOf (strandOf s i))
  takeCores s f (idleCores s f) (if s.twin then 2 else 1) (key, false)

/-! ### Strand keys (R102) -/

/-- The slot of strand `i`'s key for an epoch: `d` 0 the strand key, 1 the reverse key. -/
def strandSlot (i epoch d : Nat) : Nat := 0xC000 + 4 * i + 2 * (epoch % 2) + d

/-- A key the slot holds, unless its read is damaged. -/
def slotKey (s : State) (idx : Nat) : Option KeySlot :=
  match tblFind s.keys idx with
  | some k => if k.damaged then none else some k
  | none => none

/-- Write both keys of an epoch (R102, R110). -/
def installKeys (s : State) (i epoch : Nat) (okm : Bytes) : State :=
  let key := fun b : Bytes => ({ cls := clsEvidence, type := 1, set := 256, material := b } : KeySlot)
  storeKey (storeKey s (strandSlot i epoch 0) (key (slice okm 0 32))) (strandSlot i epoch 1) (key (slice okm 32 32))

/-- Erase a slot that holds a key. -/
def eraseIfHeld (s : State) (idx : Nat) : State := if tblHas s.keys idx then eraseKey s idx else s

/-- Erase the bank of an epoch. -/
def eraseBank (s : State) (i epoch : Nat) : State :=
  eraseIfHeld (eraseIfHeld s (strandSlot i epoch 0)) (strandSlot i epoch 1)

/-- Erase both banks. -/
def eraseBanks (s : State) (i : Nat) : State := eraseBank (eraseBank s i 0) i 1

/-! ### Events (R143) -/

/-- An event of strand `i` to every subscription that covers it and its kind (0 KNOT, 1 SEAL, 2 STRAND_STATE). -/
def postStrand (s : State) (i kind : Nat) (v : Event) : State :=
  (s.subs.filter (fun u => u.first ≤ i && i ≤ u.last && bit u.kinds kind)).foldl
    (fun s u => postEvent s u.client u.ring v) s

/-- A STRAND_STATE event (Table 4-14). -/
def stateEvent (s : State) (i old new reason : Nat) : State :=
  let st := strandOf s i
  let b := le 2 i ++ le 1 old ++ le 1 new ++ le 2 reason ++ zeros 2 ++ le 4 st.epoch ++ le 8 st.next
  postStrand s i 2 { type := 0x0012, inline := b }

/-- Strand `i` changes state (Table 4-2): the event is posted, and instances of bound tables get it (Table 9-5). -/
def changeState (s : State) (i : Nat) (v : StrandState) (reason : Nat) : State :=
  let st := strandOf s i
  let old := strandNo st.state
  let ev := if tblHas s.bindings i then [CtrlEvent.strandChange old (strandNo v) reason] else []
  stateEvent (setStrand s i { st with state := v, ctrl := st.ctrl ++ ev }) i old (strandNo v) reason

/-- Add to a counter of STRAND_STATUS (R141). -/
def countStrand (s : State) (i : Nat) (f : StrandCounts → StrandCounts) : State :=
  let st := strandOf s i
  setStrand s i { st with counts := f st.counts }

/-! ### Hub frames (R117) -/

/-- Where a strand's hub frames go: SCANNER_MAC, else the address the scanner used. -/
def scannerAddr (st : Strand) : Bytes := if allZero st.cfg.scannerMac then st.peerMac else st.cfg.scannerMac

/-- 2^48 − 2^32 (R117, Table 4-12). -/
abbrev nearRetire : Nat := 2 ^ 48 - 2 ^ 32

/-- Send a keyed hub frame under the reverse key of its epoch: nothing is sent where no usable key serves (R117). -/
def emitHub (s : State) (i : Nat) (m : HubMsg) : State :=
  let idx := strandSlot i m.epoch 1
  match slotKey s idx with
  | none => s
  | some k =>
    if retired k then s
    else
      let (v, s) := takeInvocation s idx
      let st := strandOf s i
      let p := ingressOf st
      let h := strandHeader m.kind 0 i m.payload.length v 0 m.epoch 0 0 m.aux
      let tag := sourceTag k.material st.hubFixed v h m.payload
      sendCtrl s p { kind := m.kind, strand := i, seq := v, dst := scannerAddr st, bytes := h ++ m.payload ++ tag }

/-- The value the next hub frame would release runs too far ahead of the acknowledged copy (R405). -/
def hubMustWait (s : State) (i epoch : Nat) : Bool :=
  let idx := strandSlot i epoch 1
  match slotKey s idx with
  | some k => beyondAcked s (0x100000 + idx) k.invocation
  | none => false

/-- Send a keyed hub frame of an epoch, or let it wait in order (R117, R405). -/
def hubFrame (s : State) (i : Nat) (m : HubMsg) : State :=
  let st := strandOf s i
  if !st.hubWait.isEmpty || hubMustWait s i m.epoch then setStrand s i { st with hubWait := st.hubWait ++ [m] }
  else emitHub s i m

/-- Send a keyed hub frame under the current reverse key. -/
def sendHub (s : State) (i kind : Nat) (payload aux : Bytes) : State :=
  hubFrame s i { kind, epoch := (strandOf s i).epoch, payload, aux }

/-- A CTRL payload (R106). -/
def ctrlPayload (msg : Nat) (body : Bytes) : Bytes := le 2 msg ++ zeros 2 ++ body

/-- Send a keyed CTRL message. -/
def sendMsg (s : State) (i msg : Nat) (body : Bytes) : State := sendHub s i 2 (ctrlPayload msg body) (zeros 12)

/-- An UNKEYED CTRL frame (R117, R129). -/
def unkeyedCtrl (i seq epoch : Nat) (payload : Bytes) : Bytes :=
  strandHeader 2 1 i payload.length seq 0 epoch 0 0 (zeros 12) ++ payload ++ zeros 16

/-- Send an UNKEYED CTRL frame with SEQ 0 on a port. -/
def sendUnkeyed (s : State) (p : Nat) (dst : Bytes) (i epoch msg : Nat) (body : Bytes) : State :=
  let x : TxFrame := { kind := 2, strand := i, dst, bytes := unkeyedCtrl i 0 epoch (ctrlPayload msg body) }
  sendCtrl s p x

/-- A strand PAUSE with HOLD_US (Table 3-7). -/
def sendPause (s : State) (i hold : Nat) : State :=
  let st := strandOf s i
  sendHub (setStrand s i { st with lastPause := s.now }) i 5 (le 4 hold ++ zeros 4) (zeros 12)

/-- An ACK carrying a knot (R121). -/
def sendAck (s : State) (i : Nat) (k : Knot) : State :=
  sendHub s i 3 (knotBytes k) (le 8 (knotCover k) ++ zeros 4)

/-! ### Held bytes (R90) -/

/-- The Bins bytes of a frame: header, payload and tag ("Threshing floors"). -/
def frameBins (payload : Bytes) : Nat := 64 + payload.length

/-- Held bytes exceed the limit of the ingress port. -/
def overLimit (s : State) (i : Nat) : Bool := holdBytes s (ingressOf (strandOf s i)) < (strandOf s i).heldBytes

/-- The strand has keys to send hub frames with: KEYING, OPEN, HELD or CLOSING. -/
def isKeyed (st : Strand) : Bool := isOpen st || st.state == .keying || st.state == .closing

/-- Start or end strand PAUSE as held bytes cross the thresholds (R90); Freeze keeps it in force (Table 4-12). -/
def pauseCheck (s : State) (i : Nat) : State :=
  let st := strandOf s i
  if frozen s || !isKeyed st then s
  else if overLimit s i && !st.pausing then sendPause (setStrand s i { st with pausing := true }) i 1000
  else if st.pausing && 2 * st.heldBytes < holdBytes s (ingressOf st) then
    sendPause (setStrand s i { st with pausing := false }) i 0
  else s

/-- Held bytes of strand `i`, and the Bins used on its ingress floor, change. -/
def setHeld (s : State) (i : Nat) (f : Nat → Nat) : State :=
  let st := strandOf s i
  let fl := portFloor (ingressOf st)
  let w := floorOf s fl
  let s := setFloor (setStrand s i { st with heldBytes := f st.heldBytes }) fl { w with used := f w.used }
  linkPauseCheck (pauseCheck s i) fl

/-- `n` Bins bytes are held. -/
def addHeld (s : State) (i n : Nat) : State := setHeld s i (· + n)

/-- `n` Bins bytes are free again. -/
def freeHeld (s : State) (i n : Nat) : State := if n == 0 then s else setHeld s i (· - n)

/-! ### Seals (R132–R136, R142) -/

/-- Seals carry no ML-DSA signature: N parts, and ALG 2 (R134). -/
def classicalSeals (s : State) : Bool := s.ident.optionN || s.sealKeys.alg == 2

/-- The seal ML-DSA key, while it is named and held and may sign. -/
def sealMldsaKey (s : State) : Option KeySlot :=
  if s.sealKeys.named then signKey s s.sealKeys.mldsa else none

/-- The seal keys are set (R142). -/
def sealKeysSet (s : State) : Bool :=
  (sealEcdsaKey s).isSome && (classicalSeals s || (s.sealKeys.mldsa != 0 && (sealMldsaKey s).isSome))

/-- A key identifier: the first 8 bytes of SHA3-256 of the public half (Table 4-10). -/
def kidOf (s : State) (k : Option KeySlot) : Bytes :=
  match k with
  | some k => ((publicOf s k).map (fun b => (sha3 b).take 8)).getD (zeros 8)
  | none => zeros 8

/-- The seal of the head as it stands, of a kind and tick (Table 4-10). -/
def sealAtHead (s : State) (i kind tick : Nat) : Seal :=
  let st := strandOf s i
  let cl := classicalSeals s
  { kind, flags := ofBool cl + 2 * ofBool st.singleCore, strand := i, sealNo := st.sealNo + 1, serial := s.ident.serial,
    tick, segStart := st.boundary, firstSeq := if st.sinceSeal == 0 then st.headSeq else st.firstSince,
    lastSeq := st.headSeq, knots := sat32 st.sinceSeal, epoch := st.headEpoch, head := st.head,
    prevSeal := if st.sealNo == 0 then zeros 32 else st.prevSeal, ecdsaKid := kidOf s (sealEcdsaKey s),
    mldsaKid := if cl then zeros 8 else kidOf s (sealMldsaKey s), boundary := st.boundary
    ecdsaKey := s.sealKeys.ecdsa, mldsaKey := if cl then 0 else s.sealKeys.mldsa }

/-- After a level-4 purge no seal is made before thaw, whether or not the seal keys are set again (Table 4-12). -/
def sealsBarred (s : State) : Bool := frozen s && 4 ≤ s.scarecrow.latched

/-- A seal falls due: it is queued for signing, or waits while the seal keys are not set or a level-4 purge bars it, a CLOSE
seal before any other (R132, R142, Table 4-12). -/
def makeSeal (s : State) (i kind tick : Nat) : State :=
  let st := strandOf s i
  if !sealKeysSet s || sealsBarred s then
    let w := match st.sealWait with
      | some (2, t) => some (2, t)
      | _ => some (kind, tick)
    countStrand (setStrand s i { st with sealWait := w, sealAt := s.now }) i
      (fun c => { c with sealLate := sat32 (c.sealLate + 1) })
  else
    let x := { sealAtHead s i kind tick with waited := st.sealWait.isSome }
    setStrand s i { st with
      sealNo := x.sealNo, prevSeal := sha3 (sealPortion x), sinceSeal := 0, singleCore := false, sealAt := s.now,
      sealWait := none, sealQ := st.sealQ ++ [x] }

/-- Seals that are not signed are lost with the seal keys: the knots they covered stay unsealed until the next seal
covers them; a CLOSE seal waits (Table 4-12, R140). -/
def unsealQueue (st : Strand) : Strand :=
  match st.sealQ with
  | [] => st
  | x :: _ =>
    let last := st.sealQ.find? (fun y => y.kind == 2)
    { st with
      sealQ := [], sealNo := x.sealNo - 1, prevSeal := x.prevSeal, firstSince := x.firstSeq
      sinceSeal := st.sinceSeal + (st.sealQ.map (·.knots)).sum
      singleCore := st.singleCore || st.sealQ.any (fun y => bit y.flags 1)
      sealWait := match last with | some y => some (2, y.tick) | none => st.sealWait }

/-- The stone that was to sign strand `i`'s oldest seal has found its key gone (R202): the seals wait until the seal keys are set
(R142). -/
def sealKeyGone (s : State) (i : Nat) : State :=
  match (strandOf s i).sealQ with
  | [] => s
  | x :: _ =>
    let s := setStrand s i (unsealQueue (strandOf s i))
    let st := strandOf s i
    countStrand (setStrand s i { st with sealWait := st.sealWait.orElse (fun _ => some (x.kind, x.tick)) }) i
      (fun c => { c with sealLate := sat32 (c.sealLate + 1) })

/-- A seal that waited is made, when the keys are set and nothing bars it (R142, Table 4-12). -/
def releaseWaiting (s : State) (i : Nat) : State :=
  match (strandOf s i).sealWait with
  | some (kind, tick) => if sealKeysSet s && !sealsBarred s then makeSeal s i kind tick else s
  | none => s

/-! ### The braid (R122, R123) -/

/-- Give the next knot to the Flail: its PREV_DIGEST is the braid head, zero for OPEN (R123), and SINGLE_CORE says
whether twin computation was off (R19). -/
def startBuild (s : State) (i : Nat) : State :=
  let st := strandOf s i
  match st.building, st.todo with
  | none, r :: rest =>
    let k := { r.knot with
      prev := if r.knot.kind == kOpen then zeros 32 else st.head
      flags := r.knot.flags + (if s.twin then 0 else 1) }
    let (cores, s) := if r.enc == .pending then captureTask s i r.key else ([], s)
    setStrand s i { strandOf s i with todo := rest, building := some { r with knot := k, twinned := s.twin, cores } }
  | _, _ => s

/-- Queue a knot to be built. -/
def pushKnot (s : State) (i : Nat) (r : Release) : State :=
  let st := strandOf s i
  startBuild (setStrand s i { st with todo := st.todo ++ [r] }) i

/-- FLAGS.CLASSICAL of a knot of an epoch (R111). -/
def classicalFlag (st : Strand) (epoch : Nat) : Nat :=
  if (if epoch == st.epoch then st.classical else st.prevClassical) then 16 else 0

/-- A knot without a frame (Table 4-6). -/
def bareKnot (s : State) (i kind seq aux : Nat) : Knot :=
  let st := strandOf s i
  { kind, strand := i, seq, arrival := s.now, epoch := st.epoch, aux, flags := classicalFlag st st.epoch }

/-- The KNOT_ONLY or SEAL frame an item leaves in (R129). -/
def archiveCtrl (s : State) (i seq epoch msg : Nat) (body : Bytes) : TxFrame :=
  let st := strandOf s i
  { kind := 2, strand := i, seq, dst := st.cfg.archiveMac
    bytes := unkeyedCtrl i seq epoch (ctrlPayload msg body) }

/-- The egress header of a DATA frame (R127, Table 4-9). -/
def egressHeader (k : Knot) (iv : Bytes) : Bytes :=
  strandHeader 1 (if bit k.flags 3 then 4 else 0) k.strand k.payloadLen k.seq 0 k.epoch k.unitKind k.unitInfo iv

/-- The egress DATA frame (Table 4-9). -/
def egressFrame (s : State) (i : Nat) (r : Release) (cipher tag : Bytes) : TxFrame :=
  let st := strandOf s i
  let b := egressHeader r.knot r.iv ++ cipher ++ tag ++ knotBytes r.knot ++ fit 16 r.knot.sourceTag
  { kind := 1, strand := i, seq := r.knot.seq, turn := r.turn, dst := st.cfg.archiveMac, bytes := b, held := r.held }

/-- DATA frames of strand `i` are still on their way out of port `p`: a control frame of the strand waits for them,
because the port would send it ahead (R18, R95, R129). -/
def dataInFlight (s : State) (i p : Nat) : Bool :=
  let w := portOf s p
  w.dataQ.any (fun x => x.strand == i) ||
    (match w.sending with | some x => x.kind == 1 && x.strand == i | none => false)

/-- The close ends (Table 4-2): CLOSE_ACK is sent, both banks are erased and the strand returns to ARMED. -/
def finishClose (s : State) (i : Nat) : State :=
  let s := if (strandOf s i).reason == 19 then s else sendMsg s i 0x0009 []
  let s := eraseBanks s i
  let st := strandOf s i
  let s := setStrand s i { st with rekeySeq := none, closeEnd := none, pausing := false, hubWait := [] }
  changeState s i .armed st.reason

/-- One item leaves the gate for the egress port. -/
def releaseItem (s : State) (i : Nat) (g : GateItem) : State :=
  let p := egressOf (strandOf s i)
  match g with
  | .sealed x rec =>
    let s := sendCtrl s p (archiveCtrl s i x.lastSeq x.epoch 0x0021 rec)
    if x.kind == 2 && (strandOf s i).state == .closing && x.head == (strandOf s i).head then finishClose s i else s
  | .knot r =>
    let s := match r.enc with
      | .sealed c t => sendData s p (egressFrame s i r c t)
      | _ => sendCtrl s p (archiveCtrl s i r.knot.seq r.knot.epoch 0x0020 (knotBytes r.knot))
    let st := strandOf s i
    let s := setStrand s i { st with
      gapKnots := if r.knot.kind == kGap then st.gapKnots ++ [r.knot] else st.gapKnots
      acked := if r.ack then some r.knot else st.acked }
    if r.ack then sendAck s i r.knot else s

/-- The gate holds the item `g`: the unit does not act, the egress port's link is down, or a control frame waits for the
strand's DATA frames (R17, R89, R121). -/
def gateHolds (s : State) (i : Nat) (g : GateItem) : Bool :=
  let p := egressOf (strandOf s i)
  let ctrl := match g with
    | .sealed _ _ => true
    | .knot r => r.knot.kind != kData
  !(portOf s p).up || !acting s || (ctrl && dataInFlight s i p)

/-- The gate releases what it may, in order (R17). -/
def drainGate : Nat → State → Nat → State
  | 0, s, _ => s
  | fuel + 1, s, i =>
    let st := strandOf s i
    match st.gate with
    | [] => s
    | g :: rest =>
      if gateHolds s i g then s
      else drainGate fuel (releaseItem (setStrand s i { st with gate := rest }) i g) i

/-- Release what strand `i`'s gate may. -/
def drain (s : State) (i : Nat) : State := drainGate ((strandOf s i).gate.length) s i

/-- The turn at which an item came to the egress gate; a seal follows the knots before it. -/
def gateTurn (g : GateItem) : Nat :=
  match g with
  | .knot r => r.turn
  | .sealed _ _ => 0

/-- The strand with egress port `p` whose gate's first item may leave and came first (R95). -/
def firstAtGate (s : State) (p : Nat) : Option Nat :=
  let turns := s.strands.filterMap (fun e =>
    match e.2.gate with
    | g :: _ => if slotOf e.2.cfg.egress == some p && !gateHolds s e.1 g then some (gateTurn g, e.1) else none
    | [] => none)
  (turns.foldl (fun (b : Option (Nat × Nat)) t =>
    match b with
    | some m => if t.1 < m.1 then some t else some m
    | none => some t) none).map (·.2)

/-- Release what the gates of strands with egress port `p` may, in order of arrival at the gate (R95). -/
def drainPortN : Nat → State → Nat → State
  | 0, s, _ => s
  | fuel + 1, s, p =>
    match firstAtGate s p with
    | some i => drainPortN fuel (drainGate 1 s i) p
    | none => s

/-- Release what the gates of strands with egress port `p` may. -/
def drainPort (s : State) (p : Nat) : State := drainPortN ((s.strands.map (fun e => e.2.gate.length)).sum) s p

/-- The knot being built is chained: its digest is the braid head (R123), KNOT subscribers get it, and it goes to the
egress gate in its turn (R95); CLOSE and RESUME knots are sealed (R132). The head's SEQ is the last that the knot covers,
notes/assumptions/18.md (DEDUCED). -/
def chain (s : State) (i : Nat) (r : Release) : State :=
  let st := strandOf s i
  let k := r.knot
  let st := { st with
    building := none, head := sha3 (knotBytes k), headSeq := knotCover k, headEpoch := k.epoch
    sinceSeal := st.sinceSeal + 1, firstSince := if st.sinceSeal == 0 then k.seq else st.firstSince
    singleCore := st.singleCore || bit k.flags 0, gate := st.gate ++ [GateItem.knot { r with turn := s.turnNo }] }
  let st := if k.kind == kOpen then
      { st with sealNo := 0, prevSeal := [], sinceSeal := 1, firstSince := k.seq, singleCore := bit k.flags 0 } else st
  let st := { st with counts := { st.counts with knots := sat (2 ^ 64 - 1) (st.counts.knots + 1) } }
  let s := setStrand { s with turnNo := s.turnNo + 1 } i st
  let s := postStrand s i 0 { type := 0x0010, record := knotBytes k, inline := le 2 i ++ le 1 k.kind ++ zeros 1 ++ le 8 k.seq }
  let s := if k.kind == kClose then makeSeal s i 2 s.now else if k.kind == kResume then makeSeal s i 4 s.now else s
  drain (startBuild s i) i

/-- The knot builder goes on when the digest is back and the archive encryption is done (R17). -/
def tryChain (s : State) (i : Nat) : State :=
  match (strandOf s i).building with
  | some r => if r.digested && r.enc != .pending && r.enc != .retry then chain s i r else s
  | none => s

/-! ### Ending a chip session (R245, R248, Table 8-10) -/

/-- The chip session of a strand is over; its session slots are erased (R274). -/
def dropChip (s : State) (i : Nat) : State :=
  let st := strandOf s i
  match st.chip with
  | none => s
  | some c => setStrand (c.slots.foldl eraseIfHeld s) i { st with chip := none }

/-- The chip session of a strand, if there is one, ends with CHIP_ERROR; a verdict of it that is being signed is not sent. -/
def endChip (s : State) (i reason : Nat) : State :=
  match (strandOf s i).chip with
  | some c => sendMsg (dropChip s i) i 0x0015 (le 2 c.session ++ le 2 reason)
  | none =>
    match s.verdicts.find? (fun v => v.job.isNone && v.strand == i) with
    | some v =>
      sendMsg { s with verdicts := s.verdicts.filter (fun x => x.no != v.no) } i 0x0015 (le 2 v.session ++ le 2 reason)
    | none => s

/-! ### Closing (R114) -/

/-- Frames not yet knotted are discarded and their Bins zeroised (R114). -/
def discardWindow (s : State) (i : Nat) : State :=
  let st := strandOf s i
  let n := (st.window.map (fun w => frameBins w.payload)).sum
  freeHeld (setStrand s i { st with window := [], missing := [], empty := [] }) i n

/-- Close strand `i` at once with a CLOSE knot (R114 MODE 1, R112, R113, R117): `k` is the knot. -/
def closeWith (s : State) (i : Nat) (k : Knot) (ack : Bool) (reason : Nat) : State :=
  let s := discardWindow (endChip s i 10) i
  let s := changeState s i .closing reason
  let st := strandOf s i
  let s := setStrand s i { st with reason, closeEnd := none, heldFor := 0 }
  pushKnot s i { knot := k, ack }

/-- The hub closes: the CLOSE knot takes NEXT − 1 and the reason (Table 4-7). -/
def closeNow (s : State) (i reason : Nat) : State :=
  if isOpen (strandOf s i) then
    closeWith s i (bareKnot s i kClose ((strandOf s i).next - 1) reason) false reason
  else s

/-- The reverse key nears its end or has reached it (R117): REKEY_ASK once, then a close with reason 19. -/
def reverseLimits (s : State) (i : Nat) : State :=
  let st := strandOf s i
  if !isOpen st || !acting s then s
  else match slotKey s (strandSlot i st.epoch 1) with
  | none => s
  | some k =>
    let s := if nearRetire ≤ k.invocation && !st.nearAsked then
      sendMsg (setStrand s i { st with nearAsked := true }) i 0x0007 [] else s
    if 2 ^ 48 ≤ k.invocation then closeNow s i 19 else s

/-! ### Holding (Table 4-12) -/

/-- An OPEN strand goes HELD. -/
def hold (s : State) (i reason : Nat) : State :=
  let s := endChip s i (if reason == 9 then 5 else 10)
  let st := strandOf s i
  if st.state == .opened then
    changeState (setStrand s i { st with heldFor := reason }) i .held reason
  else s

/-! ### Knots of DATA frames (R104, R118, R126) -/

/-- The header of a DATA frame rebuilt from its knot (R125). -/
def rebuiltHeader (h : Bytes) : Bytes :=
  strandHeader 1 (if bit (hFlags h) 2 then 4 else 0) (hStrand h) (hLen h) (hSeq h) (hCapture h) (hEpoch h) (hKind h) (hInfo h) (zeros 12)

/-- The archive key for the next frame, or the reason to hold: absent 7, not permitted 18, retired 8 (Table 4-12). -/
def archiveKey (s : State) (st : Strand) : Except Nat KeySlot :=
  match keyAt s st.cfg.archiveKey with
  | .error _ => .error 7
  | .ok k =>
    if k.damaged || k.type != 1 || k.set != 256 || k.cls != clsEvidence then .error 7
    else if !bit k.attr aEncrypt || !mayUse k 0 then .error 18
    else if retired k then .error 8
    else .ok k

/-- Take an archive IV (R104, R127). -/
def archiveIv (s : State) (idx : Nat) : Bytes × State :=
  let (v, s) := takeInvocation s idx
  (makeIv s.ident.fixedField v, s)

/-- The invocation counter of the archive key that strand `st` names. -/
def archiveCount (s : State) (st : Strand) : Option Nat :=
  match keyAt s st.cfg.archiveKey with
  | .ok k => some k.invocation
  | .error _ => none

/-- The archive key of a configured strand has come to 2^48 − 2^32, through whatever took its values: a STRAND_STATE event
with reason 16 is posted (Table 4-12). `s₀` is the state before. -/
def nearArchive (s₀ s : State) (i : Nat) : State :=
  let st := strandOf s i
  let n := strandNo st.state
  match archiveCount s₀ st, archiveCount s st with
  | some a, some b => if st.state != .unused && a < nearRetire && nearRetire ≤ b then stateEvent s i n n 16 else s
  | _, _ => s

/-- The knot of a frame (Tables 4-6, 4-7): RETRANSMITTED, UNIT_END and CLASSICAL flags from the frame and epoch.
PAYLOAD_LEN and CAPTURE_TIME are the frame's for every knot that a scanner's frame gives rise to, whichever kind,
notes/assumptions/18.md (DEDUCED). -/
def frameKnot (st : Strand) (i kind aux : Nat) (w : WSlot) (content : Bytes) : Knot :=
  let h := w.header
  { kind, strand := i, payloadLen := hLen h, seq := w.seq, captureTime := hCapture h, arrival := w.arrival,
    epoch := hEpoch h, unitKind := hKind h, unitInfo := hInfo h, aux, sourceTag := w.tag, contentDigest := content,
    flags := (if bit (hFlags h) 1 then 4 else 0) + (if bit (hFlags h) 2 then 8 else 0) + classicalFlag st (hEpoch h) }

/-- The frame in the window's slot NEXT, when it is ready to be knotted. -/
def nextReady (st : Strand) : Option WSlot := st.window.find? (fun w => w.seq == st.next && w.state == .ready)

/-- The window without the frame at NEXT, NEXT moved on. -/
def passNext (st : Strand) : Strand :=
  { st with window := st.window.filter (fun w => w.seq != st.next), next := st.next + 1 }

/-- The slots from NEXT to below the highest verified SEQ that hold no frame. -/
def emptySlots (st : Strand) : List Nat :=
  ((List.range (min 64 (st.highest - st.next))).map (· + st.next)).filter (fun q => !st.window.any (fun w => w.seq == q))

/-- Keep since when each slot below the highest verified SEQ has been empty (R119). -/
def watchSlots (now : Nat) (st : Strand) : Strand :=
  { st with empty := (emptySlots st).map (fun q => (q, ((st.empty.find? (fun e => e.1 == q)).map (·.2)).getD now)) }

/-- Keep it for strand `i`. -/
def watchStrand (s : State) (i : Nat) : State := setStrand s i (watchSlots s.now (strandOf s i))

/-- Knot the DATA frame at NEXT (R104): the key is loaded and its counter advanced before the knot is built. -/
def knotData (s : State) (i : Nat) (w : WSlot) (k : KeySlot) : State :=
  let idx := hIndex (strandOf s i).cfg.archiveKey
  let (iv, s) := archiveIv s idx
  let st := strandOf s i
  let dig := wantsDigest st.cfg
  let kn := frameKnot st i kData 0 w (if dig then w.digest else zeros 32)
  let kn := { kn with archiveKey := st.cfg.archiveKey, flags := kn.flags + (if dig then 2 else 0) }
  let r : Release := { knot := kn, payload := w.payload, keyIndex := idx, key := k.material, iv, enc := .pending,
                       held := frameBins w.payload }
  pushKnot (setStrand s i (passNext st)) i r

/-- Knot verified DATA frames in SEQ order from NEXT (R118), until a frame is missing, a CTRL frame waits for its
Hand, the archive slot is being written (R152), the floor's key-bus port is fenced (R151), its counter runs too far ahead (R405), or the strand goes HELD. -/
def advanceN : Nat → State → Nat → State
  | 0, s, _ => s
  | fuel + 1, s, i =>
    let st := strandOf s i
    let idx := hIndex st.cfg.archiveKey
    if st.state != .opened || switching s then s
    else match nextReady st with
      | none => s
      | some w =>
        if hType w.header != 1 || fenced s idx || (floorOf s (portFloor (ingressOf st))).fenced then s
        else match archiveKey s st with
          | .error r => hold s i r
          | .ok k => if beyondAcked s (0x100000 + idx) k.invocation then s else advanceN fuel (knotData s i w k) i

/-- Knot what can be knotted. -/
def advance (s : State) (i : Nat) : State := advanceN 64 s i

/-- Knot what waited for the slot `idx` (R152). -/
def advanceOn (s : State) (idx : Nat) : State :=
  ((s.strands.filter (fun e => e.2.state == .opened && hIndex e.2.cfg.archiveKey == idx)).map (·.1)).foldl advance s

/-- A HELD strand returns to OPEN (Table 4-2): timers restart from zero. -/
def unhold (s : State) (i : Nat) : State :=
  let st := strandOf s i
  if st.state == .held then
    let st := { st with
      heldFor := 0, missing := [], empty := [], epochStart := s.now
      rekeyEnd := s.now + 100000, closeEnd := st.closeEnd.map (fun _ => s.now + 100000) }
    let s := advance (changeState (setStrand s i (watchSlots s.now st)) i .opened 10) i
    releaseWaiting s i
  else s

/-! ### Freeze and thaw (Table 4-12) -/

/-- Freeze: an OPEN strand goes HELD with reason 9, NAK and gap timers stop, a FREEZE seal is made at level 3, and
strand PAUSE begins. -/
def freezeStrand (s : State) (lvl : Nat) (i : Nat) : State :=
  if !isOpen (strandOf s i) then s
  else
    let was := (strandOf s i).state
    let s := hold s i 9
    let s := if lvl == 3 && was == .opened then makeSeal s i 3 s.now else s
    let st := strandOf s i
    sendPause (setStrand s i { st with missing := [], empty := [], pausing := true }) i 1000

/-- A strand that was open when its unit started is closed with reason 17 (R140): the CLOSE knot carries the SEQ of
the recorded head, the banks are erased and the strand is ARMED; knot and seal leave when they can. -/
def closeAtStart (s : State) (i : Nat) : State :=
  let st := strandOf s i
  let s := setStrand s i { st with closeAtThaw := false, reason := 17, heldFor := 0 }
  let s := pushKnot s i { knot := bareKnot s i kClose st.headSeq 17, ack := false }
  changeState (eraseBanks s i) i .armed 17

/-- Thaw: strands held with reason 9 return to OPEN, and PAUSE with HOLD_US 0 where held bytes allow. -/
def thawStrand (s : State) (i : Nat) : State :=
  let st := strandOf s i
  if !isOpen st then s
  else if st.closeAtThaw then closeAtStart s i
  else
    let s := if overLimit s i then s else sendPause (setStrand s i { st with pausing := false }) i 0
    if st.heldFor == 9 then unhold s i else s

/-- Every strand's ID. -/
def strandIds (s : State) : List Nat := s.strands.map (·.1)

/-- R117's limits on every strand. -/
def watchReverse (s : State) : State := (strandIds s).foldl reverseLimits s

end Sys2Proof.Machine
end

