-- ==== Sys2Proof/Machine/JobOps.lean ====
section
/-! DEFINITION. Jobs: what each operation computes (R161, R185, R209–R219), how a job starts, on a floor or on stones,
how it ends (R53, R163), and what Freeze, a purge and a reset do to jobs (R63, R153, R167, R226). -/

namespace Sys2Proof.Machine

/-! ### Jobs by number -/

/-- The job with a number. -/
def jobOf (s : State) (id : Nat) : Option Job := s.jobs.find? (fun b => b.id == id)

/-- Change a job. -/
def setJob (s : State) (b : Job) : State := { s with jobs := s.jobs.map (fun c => if c.id == b.id then b else c) }

/-- Take a job away. -/
def dropJob (s : State) (b : Job) : State := { s with jobs := s.jobs.filter (fun c => c.id != b.id) }

/-- Change a context. -/
def setContext (s : State) (c : Nat) (x : Context) : State := { s with contexts := tblSet s.contexts c x }

/-! ### Thresher results (R161) -/

/-- The message padded for MAC algorithm 3 by PAD (Table 5-2). -/
def macPad (pad : Nat) (m : Bytes) : Bytes :=
  let m := if pad == 2 then m ++ [0x80] else m
  let n := max 8 (ceilDiv m.length 8 * 8)
  fit n m

/-- The message with this job's bytes added, without a tag to verify. -/
def addToMessage (m : Message) (op : Nat) (d : Desc) (data : Bytes) : Message :=
  let n := data.length - (if verifiesTag op && dFinal d then tagLen m.param else 0)
  if op == 0x0204 then { m with aad := m.aad ++ data.take n }
  else { m with aad := m.aad ++ data.take d.aadLen, data := m.data ++ (data.take n).drop d.aadLen }

/-- AES-CTR: the counter block's low 64 bits count up as a big-endian integer, its high 64 bits stay (R165). -/
def ctrTransform (key iv data : Bytes) : Bytes :=
  let block := fun k => iv.take 8 ++ be 8 ((ofBe (slice iv 8 8) + k) % 2 ^ 64)
  let stream := (List.range (ceilDiv data.length 16)).flatMap (fun k => fit 16 (Config.ecb true key (block k)))
  xorBytes data stream

/-- The transform of a whole message's data, for the operations that write output. -/
def thTransform (op : Nat) (key iv : Bytes) (m : Message) : Bytes :=
  fit m.data.length
    (match op with
     | 0x0201 => Config.gcmCipher key iv m.data
     | 0x0202 => Config.gcmPlain key iv m.data
     | 0x0205 => ctrTransform key iv m.data
     | 0x0206 => Config.cbc 1 true key iv m.data
     | 0x0207 => Config.cbc 1 false key iv m.data
     | 0x020A => Config.ecb true key m.data
     | 0x020B => Config.ecb false key m.data
     | 0x0210 => Config.cbc 2 true key iv m.data
     | _ => Config.cbc 2 false key iv m.data)

/-- The authentication value of a whole message. -/
def thTag (op : Nat) (key iv : Bytes) (m : Message) : Bytes :=
  match op with
  | 0x0201 => fit 16 (Config.gcmTag key iv m.aad (thTransform op key iv m))
  | 0x0202 => fit 16 (Config.gcmTag key iv m.aad m.data)
  | 0x0203 => gmac key iv m.aad
  | 0x0204 => gmac key iv m.aad
  | 0x0212 => fit 8 (Config.mac3 key iv (macPad (tagLen m.param) m.data))
  | _ => fit 16 (Config.cmac key m.data)

/-- What a job computes: STATUS, output, INLINE. -/
abbrev Result := Nat × Bytes × Bytes

/-- The result of a Thresher job over the message `m` with its bytes added; `prior` are the data bytes before it. -/
def thResult (op : Nat) (d : Desc) (key iv : Bytes) (m : Message) (prior : Nat) (tag : Bytes) : Result :=
  let mac := (thTag op key iv m).take (tagLen m.param)
  if verifiesTag op && dFinal d && mac != tag then (eAuth, [], [])
  else if op == 0x0201 || op == 0x0203 then
    (sOk, if op == 0x0201 then (thTransform op key iv m).drop prior else [],
      fit 28 (fit 12 iv ++ (if dFinal d then mac else [])))
  else if op == 0x0208 then (sOk, [], fit 28 (if dFinal d then mac else []))
  else if op == 0x0212 then (sOk, [], fit 28 (if dFinal d then thTag op key iv m else []))
  else if op == 0x0204 || op == 0x0209 then (sOk, [], zeros 28)
  else (sOk, (thTransform op key iv m).drop prior, zeros 28)

/-! ### Flail results (R183, R185) -/

/-- The result of a Flail job over the whole message; nothing before FINAL. -/
def flResult (op : Nat) (d : Desc) (m : Message) : Result :=
  let alg := rd m.param 0 1
  if !dFinal d then (sOk, [], zeros 28)
  else if op == 0x0302 then
    let n := rd m.param 4 4
    let out := fit n (Config.xof alg n m.data)
    (sOk, out, fit 28 (out.take 28))
  else
    let n := digestLen alg
    if pVerify op m.param then
      let k := m.data.length - n
      (if fit n (Config.digest alg (m.data.take k)) == m.data.drop k then sOk else eAuth, [], zeros 28)
    else
      let out := fit n (Config.digest alg m.data)
      (sOk, out, fit 28 (out.take 28))

/-! ### Mill results (R209–R214) -/

/-- b^e mod m over the bits of `e` from the highest, given as a list. -/
def powBits (b m : Nat) : List Bool → Nat → Nat
  | [], acc => acc
  | x :: r, acc => powBits b m r (if x then acc * acc % m * b % m else acc * acc % m)

/-- b^e mod m for an exponent of `n` bits. -/
def modPow (b e m n : Nat) : Nat := powBits b m ((List.range n).reverse.map (bit e)) (1 % m)

/-- The digest of D: the message hashed with HASH, or the digest itself (R208). -/
def digestOf (p d : Bytes) : Bytes :=
  if mMessage p then fit (digestLen (pHash p)) (Config.digest (pHash p) d) else d

/-- Parameters of an elliptic-curve operation. -/
def ecParams (s : State) (set : Nat) : Bytes := le 2 set ++ curveBytes s set

/-- Parameters of an RSA operation: SET, HASH, PSS and ARG. -/
def rsaParams (p : Bytes) : Bytes := le 2 (pSet p) ++ [byte (pHash p), byte (ofBool (mPss p))] ++ le 4 (pArg p)

/-- An inline public key passes Table 7-5. -/
def inlineKeyOk (s : State) (op set : Nat) (k : Bytes) : Bool :=
  if op ≤ 0x0404 then ecPublicOk s set k
  else if op ≤ 0x0409 then rsaPublicOk set k
  else if op == 0x040B then true
  else kemKeyOk set k

/-- r and s lie between 1 and n − 1 (Table 7-5). -/
def ecdsaPairOk (s : State) (set : Nat) (sig : Bytes) : Bool :=
  let l := ((curveOf s set).map scalarLen).getD 0
  let r := ofBe (sig.take l)
  let t := ofBe (sig.drop l)
  0 < r && r < orderOf s set && 0 < t && t < orderOf s set

/-- An RSA representative lies between 1 and n − 1 (Table 7-5). -/
def rsaValueOk (set : Nat) (key v : Bytes) : Bool := 0 < ofBe v && ofBe v < ofBe (key.take (set / 8))

/-- A modulus of MODEXP and MODMUL passes Table 7-5. -/
def modulusOk (set m : Nat) : Bool := m % 2 == 1 && 3 ≤ m && 2 ^ (set - 1) ≤ m && m < 2 ^ set

/-- A verify operation's outcome: the inputs first, then the equation (R213, R214). -/
def judged (inputs equation : Bool) : Result := (if !inputs then ePkReject else if equation then sOk else eAuth, [], [])

/-- An operation's output where its inputs pass. -/
def produced (inputs : Bool) (out : Bytes) : Result := if inputs then (sOk, out, []) else (ePkReject, [], [])

/-- The key bytes and the rest of the source. -/
def splitKey (s : State) (op : Nat) (p key data : Bytes) : Bytes × Bytes :=
  if mInline p then
    let n := pubLen s op (pSet p)
    (data.take n, data.drop n)
  else (key, data)

/-- The shared secret of ECDH with a private key, and the public key before it under EPHEMERAL. -/
def ecdhResult (s : State) (p key peer : Bytes) : Result :=
  let set := pSet p
  let priv := if mEphemeral p then fit ((keyLen s 0x10 set).getD 0) (Config.keyGen 0x10 set s.rng) else key
  let own := if mEphemeral p then
      fit (pubLen s 0x0405 set) (Config.publicHalf 0x10 set (priv ++ curveBytes s set)) else []
  let wei := match curveOf s set with | some c => c.form == 1 | none => false
  match Config.agree 0x0405 (ecParams s set) priv peer with
  | none => (ePkReject, [], [])
  | some z =>
    let z := fit (secretLen s set) z
    produced (if wei then ecPublicOk s set peer else !allZero z) (own ++ z)

/-- The result of a Mill job: `key` is the loaded key, public half or private. -/
def millResult (s : State) (op : Nat) (p key data : Bytes) : Result :=
  let set := pSet p
  let a := pArg p
  let k := set / 8
  let (pub, src) := splitKey s op p key data
  let inputs := !mInline p || inlineKeyOk s op set pub
  let n := signatureLen s op set
  let sig := src.take n
  let rest := src.drop n
  let f := fun off => ofBe (slice data off k)
  match op with
  | 0x0401 => produced true (fit n (Config.sign op (ecParams s set) key (digestOf p data) s.rng))
  | 0x0402 =>
    judged (inputs && ecdsaPairOk s set sig) (Config.verify op (ecParams s set) pub (digestOf p rest) sig)
  | 0x0403 => produced true (fit n (Config.sign op (le 2 set ++ data.take a) key (data.drop a) 0))
  | 0x0404 =>
    judged (inputs && eddsaSigOk set sig)
      (Config.verify op (le 2 set ++ rest.take a) pub (rest.drop a) sig)
  | 0x0405 => ecdhResult s p key data
  | 0x0406 => produced true (fit n (Config.sign op (rsaParams p) key (digestOf p data) (if mPss p then s.rng else 0)))
  | 0x0407 =>
    judged (inputs && rsaValueOk set pub sig) (Config.verify op (rsaParams p) pub (digestOf p rest) sig)
  | 0x0408 =>
    match Config.rsaDecrypt (rsaParams p ++ data.take a) key (data.drop a) with
    | none => (ePkReject, [], [])
    | some m => produced (rsaValueOk set key (data.drop a)) (m.take (oaepMax set (pHash p)))
  | 0x0409 => produced inputs (fit k (Config.rsaEncrypt (rsaParams p ++ src.take a) pub (src.drop a) s.rng))
  | 0x040A =>
    let c := le 2 set ++ data.take a
    produced true (fit n (if mDeterministic p then Config.sign 0x140A c key (data.drop a) 0
      else Config.sign op c key (data.drop a) s.rng))
  | 0x040B =>
    judged (Config.signatureOk op (le 2 set) sig) (Config.verify op (le 2 set ++ rest.take a) pub (rest.drop a) sig)
  | 0x040C =>
    let c := Config.encaps (le 2 set) pub s.rng
    produced inputs (fit (millSource.kemCtLength set) c.1 ++ fit 32 c.2)
  | 0x040D => produced true (fit 32 (Config.decaps (le 2 set) key data))
  | 0x0410 =>
    let e := ofBe (data.drop (2 * k)) % 2 ^ a
    produced (modulusOk set (f 0) && f k < f 0) (be k (modPow (f k) e (f 0) a))
  | _ => produced (modulusOk set (f 0) && f k < f 0 && f (2 * k) < f 0) (be k (f k * f (2 * k) % f 0))

/-- A second stone checks the result before release (Table 7-6). -/
def secondStone (op : Nat) : Bool := [0x0401, 0x0403, 0x0406, 0x0408, 0x040A].contains op

/-- The operation leaves secrets in its stone (R223). -/
def secretOp (op : Nat) : Bool := !publicOp op

/-- The full-operation time in ns (Table 7-7, R215), for the RSA exponents that the table's times hold for. -/
def fullTime (op : Nat) (p : Bytes) : Nat :=
  let sign := op == 0x0401 || op == 0x0403
  match op, pSet p with
  | 0x0405, 0x0001 => 45000
  | 0x0405, 0x0002 => 100000
  | 0x0405, 0x0021 => if mEphemeral p then 42000 else 30000
  | 0x0406, 2048 => 420000
  | 0x0408, 2048 => 420000
  | 0x0407, 2048 => 10000
  | 0x0406, 3072 => 1300000
  | 0x0407, 3072 => 22000
  | 0x0406, 4096 => 3160000
  | 0x0407, 4096 => 40000
  | 0x0406, 8192 => 25200000
  | 0x0407, 8192 => 160000
  | 0x040B, 44 => 13000
  | 0x040B, 65 => 20000
  | 0x040B, 87 => 32000
  | 0x040C, 512 => 6000
  | 0x040C, 768 => 8000
  | 0x040C, 1024 => 11000
  | 0x040D, 512 => 7500
  | 0x040D, 768 => 10000
  | 0x040D, 1024 => 13500
  | 0x0410, 2048 => if pArg p == 2048 then 1700000 else Config.millTime op (p.take 8)
  | 0x0411, 2048 => 900
  | _, set =>
    if 0x0401 ≤ op && op ≤ 0x0404 then
      match set with
      | 0x0001 => if sign then 22000 else 50000
      | 0x0002 => if sign then 99000 else 114300
      | 0x0003 => if sign then 210000 else 260000
      | 0x0011 => if sign then 27000 else 56000
      | 0x0012 => if sign then 108000 else 123100
      | 0x0013 => if sign then 190000 else 230000
      | 0x0022 => if sign then 15000 else 40000
      | 0x0024 => if sign then 45000 else 120000
      | _ => Config.millTime op (p.take 8)
    else Config.millTime op (p.take 8)

/-- The public exponent of an RSA job's key: after the modulus in a pair and in a public key (Table 10-2). -/
def rsaExponent (s : State) (b : Job) : Nat :=
  let p := dParam b.req.desc
  ofBe (slice (splitKey s b.opcode p b.key (srcData b.req)).1 (pSet p / 8) 32)

/-- The times of Table 7-7 hold for the job: an RSA sign time for the exponent 65537, an RSA verify time for exponents of up to
17 bits (R227). -/
def tableExponent (s : State) (b : Job) : Bool :=
  if b.opcode == 0x0406 || b.opcode == 0x0408 then rsaExponent s b == 65537
  else if b.opcode == 0x0407 || b.opcode == 0x0409 then rsaExponent s b < 2 ^ 17
  else true

/-- The full-operation time of a job's kind, in ns: another RSA exponent is a kind of its own (R215, R227). -/
def kindTime (s : State) (b : Job) : Nat :=
  let p := dParam b.req.desc
  if tableExponent s b then fullTime b.opcode p else Config.millTime b.opcode (p.take 8 ++ be 32 (rsaExponent s b))

/-! ### The end of a job (R53, R58, R163, R187) -/

/-- Write output over destination fragments, each with its No Snoop attribute (R51). -/
def scatter : List Frag → Bytes → State → State
  | [], _, s => s
  | f :: r, b, s => if b.isEmpty then s else scatter r (b.drop f.len) (snoopWrite s f.addr (b.take f.len) (bit f.flags 0))

/-- The context when a job of client `fn` ends with a status other than OK (R163). A job that has started, and a job without
FIRST, belong to the message that is open or has ended: later jobs take the status up to FINAL. A FIRST job that a check
refuses is the first of a message of its own: it leaves an open message as it is (R189), and else opens nothing, so that only
its status stays. What the context remembers stays too (R187, R191). With `keep`, an open message stays (R195).
notes/assumptions/12.md (DEDUCED). -/
def endFailed (x : Context) (b : Job) (status detail : Nat) (keep : Bool) : Context :=
  let ended := if dFinal b.req.desc then none else some (status, detail)
  let endedDigest := b.engine == .flail
  if x.msg.isSome then
    (if keep || (b.stage == .queued && dFirst b.req.desc) then x else { x with msg := none, remembered := none, ended, endedDigest })
  else if b.stage == .queued && !dFirst b.req.desc then
    (if x.ended.isSome && dFinal b.req.desc then { x with ended := none } else x)
  else if b.stage != .queued && x.ended.isNone then x
  else { x with ended, endedDigest }

/-- The context after a job of its message ends: OK and FINAL close it, a digest remembered (R187); another status ends
the message unless the check keeps it (R163). A Mill or Hand job has none. -/
def endMessage (s : State) (b : Job) (status detail : Nat) (keep : Bool) : State :=
  match b.context with
  | none => s
  | some c =>
    match tblFind s.contexts c with
    | none => s
    | some x =>
      if x.holder != b.req.fn || (keep && status == eLength) || b.engine == .mill || b.engine == .hand then s
      else if status == sOk then
        if dFinal b.req.desc then
          let rem := if b.engine == .flail then x.msg.map (fun m => (m.opcode, m.param)) else none
          setContext s c { x with msg := none, ended := none, endedDigest := false, remembered := rem }
        else s
      else setContext s c (endFailed x b status detail keep)

/-- What a sheaf action's DONE event carries of its job: the output, and after it the IV and tag that a host job gets in
INLINE, notes/assumptions/34.md (DESIGN CHOICE). -/
def asyncOut (b : Job) (out inline : Bytes) : Bytes :=
  let n := tagLen (dParam b.req.desc)
  if takesIv b.opcode then out ++ inline.take (12 + n)
  else if b.opcode == 0x0208 then inline.take n
  else if b.opcode == 0x0212 then inline.take 8
  else out

/-- A context with jobs ready is one entry of its queue (R172, R193): where one of its jobs has ended, its next job is the entry. It
takes the tail of its own priority's queue after a job that has run, and the place of a job that was refused. -/
def passEntry (s : State) (b : Job) : State :=
  match b.context, s.jobs.find? (fun c => b.context.isSome && c.context == b.context && c.req.fn == b.req.fn && c.engine == b.engine) with
  | some _, some c =>
    if b.stage == .queued then setJob s { c with queue := b.queue, since := b.since, turn := b.turn }
    else setJob { s with turnNo := s.turnNo + 1 } { c with queue := c.priority, since := s.now, turn := s.turnNo }
  | _, _ => s

/-- The job of an asynchronous action has ended: its result waits for the DONE event (R273). -/
def finishAsync (s : State) (key id status : Nat) (out : Bytes) : State :=
  match tblFind s.instances key with
  | none => s
  | some x =>
    let f := fun (a : Async) => if a.job == some id then { a with job := none, done := some (status, out) } else a
    { s with instances := tblSet s.instances key { x with asyncs := x.asyncs.map f } }

/-- A host job has output to write while its function may not write memory: it waits (R54). -/
def heldByMaster (s : State) (b : Job) (status : Nat) (out : Bytes) : Bool :=
  b.sheaf.isNone && status == sOk && !out.isEmpty && !(fnOf s b.req.fn).busMaster

/-- Post a job's completion (R53, R59): output writes, then the event; nothing is released but on OK. Output that cannot be
written yet stays with the job (R54). -/
def endJob (s : State) (b : Job) (status detail : Nat) (keep : Bool) (out inline : Bytes) : State :=
  if heldByMaster s b status out then setJob s { b with stage := .delivering, onCore := false, core := none, cores := [], status, detail, out, inline }
  else
  let s := passEntry (endMessage (dropJob s b) b status detail keep) b
  let s := if b.engine == .thresher then settleFloor s b.floor else s
  match b.sheaf with
  | some (key, _) => finishAsync s key b.id status (if status == sOk then asyncOut b out inline else [])
  | none =>
  let s := if status == sOk then scatter b.req.dst out s else s
  let ev : Event := { type := 0x0001, status, tag := b.req.desc.tag, flags := ofBool b.restarted,
                      detail := if status == sOk then out.length else detail,
                      inline := if status == sOk then inline else [], job := some (b.req.ring, b.id) }
  postCompletion s b.req.fn b.req.desc.eventRing ev

/-- Jobs of a function whose output waited for Bus Master Enable complete (R54). -/
def deliverJobs (s : State) (f : Nat) : State :=
  (s.jobs.filter (fun b => b.stage == .delivering && b.req.fn == f)).foldl
    (fun s b => endJob s b b.status b.detail false b.out b.inline) s

/-- A job ends without a result. -/
def failJob (s : State) (b : Job) (status detail : Nat) : State := endJob s b status detail false [] []

/-! ### What a running job gives -/

/-- The message a job belongs to, as it stands without the job's bytes. A digest job has taken it along at its start, so that it
goes on where a purge takes the context away (Table 6-3). -/
def messageOf (s : State) (b : Job) : Message :=
  let fresh : Message := { opcode := b.opcode, key := b.req.desc.key, param := dParam b.req.desc, iv := b.iv }
  match b.carried, b.context with
  | some m, _ => m
  | none, none => fresh
  | none, some c => ((tblFind s.contexts c).bind (·.msg)).getD fresh

/-- The message with the job's bytes. -/
def extended (s : State) (b : Job) : Message := addToMessage (messageOf s b) b.opcode b.req.desc (srcData b.req)

/-- The result of a running job. -/
def computed (s : State) (b : Job) : Result :=
  match b.engine with
  | .thresher =>
    let m := messageOf s b
    let n := tagLen m.param
    let mac := if verifiesTag b.opcode && dFinal b.req.desc then (srcData b.req).drop (b.req.desc.totalLen - n) else []
    thResult b.opcode b.req.desc b.key b.iv (extended s b) m.data.length mac
  | .flail => flResult b.opcode b.req.desc (extended s b)
  | .mill => millResult s b.opcode (dParam b.req.desc) b.key (srcData b.req)
  | .hand => (sOk, [], [])

/-- A context keeps the message with the bytes of a job that has ended OK. -/
def keepMessage (s : State) (b : Job) : State :=
  match b.context with
  | none => s
  | some c =>
    match tblFind s.contexts c with
    | none => s
    | some x => if x.msg.isSome then setContext s c { x with msg := some (extended s b) } else s

/-- A running job ends with what it computed. -/
def completeJob (s : State) (b : Job) : State :=
  let r := computed s b
  let s := if r.1 == sOk then keepMessage s b else s
  let s := if b.engine == .mill then draw s else s
  endJob s b r.1 0 false r.2.1 r.2.2

/-! ### Stones (R222–R224, R26) -/

/-- Wipe a stone: its operand RAM, multiplier and key registers are zero and read as zeros from here on; afterwards it is idle
or withdrawn (R222). -/
def wipeStone (s : State) (n : Nat) (after : StoneState) : State :=
  setStone s n { state := .wiping, afterWipe := after, since := s.now }

/-- A stone's job is done: wiped where it held a secret, else free (R223). -/
def freeStone (s : State) (n : Nat) (secret : Bool) : State :=
  if secret then wipeStone s n .idle
  else setStone s n { stoneOf s n with state := .idle, job := none, custody := false, since := s.now }

/-- The stones a job holds or has been assigned. -/
def stonesOf (b : Job) : List Nat := b.stone.toList ++ b.check.toList

/-- Let go a stone that a job has been assigned and has not used. -/
def unassign (s : State) (n : Nat) : State := setStone s n { stoneOf s n with job := none }

/-- Free the stones of a job that ran. -/
def freeStones (s : State) (b : Job) : State :=
  (stonesOf b).foldl (fun s n =>
    let t := stoneOf s n
    if t.job == some b.id && t.state == .busy then freeStone s n (secretOp b.opcode)
    else if t.job == some b.id then unassign s n else s) s

/-- Abort the stones of a job: each is wiped (R222). -/
def abortStones (s : State) (b : Job) : State :=
  (stonesOf b).foldl (fun s n =>
    let t := stoneOf s n
    if t.job == some b.id && t.state == .busy then wipeStone s n .idle
    else if t.job == some b.id then unassign s n else s) s

/-- Work of the device's own goes back to its queue without stones. -/
def requeue (s : State) (b : Job) : State :=
  setJob s { b with stage := .queued, stone := none, check := none, onCore := false, core := none, loadedAt := none }

/-- Work of the device's own that an engine does not do is done again (R220); but the request or the chip session for which a Hand
asked it ends with the fault, notes/assumptions/21.md (DESIGN CHOICE). -/
def workFails (s : State) (b : Job) (status : Nat) : State :=
  let s := requeue s b
  match b.own with
  | some (.document id _) => match jobOf s id with | some p => failJob s p status 0 | none => s
  | some (.chip i _) => endChip s i 10
  | _ => s

/-- A job ends early: its stones are aborted. -/
def cutJob (s : State) (b : Job) (status detail : Nat) : State :=
  let s := abortStones s b
  if b.own.isSome then workFails s b status else failJob s b status detail

/-- The group of a stone. -/
def groupOf (n : Nat) : Nat := n / 8

/-- A stone with the lattice extension in use: group 7 of an H part (R4, R5). -/
def latticeStone (s : State) (n : Nat) : Bool := !s.ident.optionN && 56 ≤ n

/-- The job is in the Mill and has not started. -/
def millQueued (b : Job) : Bool := b.engine == .mill && b.stage == .queued

/-- A stone checks the job's result (R219). -/
def checkRuns (s : State) (b : Job) : Bool :=
  b.stage == .checking && b.check.any (fun m => (stoneOf s m).job == some b.id && (stoneOf s m).state == .busy)

/-- The job waits for a stone: to start, or to have its result checked. -/
def wantsStone (s : State) (b : Job) : Bool := millQueued b || (b.engine == .mill && b.stage == .checking && !checkRuns s b)

/-! ### The key a job loads (R150, R202, R211) -/

/-- The key bytes an operation takes from its slot: the public half for a public-key operation. -/
def loadedKey (s : State) (op : Nat) (k : KeySlot) : Bytes :=
  if publicOp op && op ≥ 0x0400 then (publicOf s k).getD [] else k.material

/-- The signing operations, with which the device itself signs. -/
def signOp (op : Nat) : Bool := op == 0x0401 || op == 0x0406 || op == 0x040A

/-- The job's handle names a slot. -/
def usesSlot (b : Job) : Bool :=
  if b.own.isSome then signOp b.opcode
  else match b.engine with
  | .thresher => (engineOf b.opcode).isSome
  | .mill => (engineOf b.opcode).isSome && !noSlotKey b.opcode (dParam b.req.desc)
  | _ => false

/-- The work is the key pair of a KEY_GENERATE. -/
def keyPairWork (b : Job) : Bool := match b.own with | some (.keyPair _ _) => true | _ => false

/-- The job takes a key over a key-bus port, or, of a KEY_GENERATE, gives one (R151, R201). -/
def usesPort (b : Job) : Bool := keyPairWork b || usesSlot b

/-- Why work of the device's own cannot load its key: absent, damaged (R202), or without the bit SIGN (R289). -/
def ownKeyFault (s : State) (b : Job) : Option Nat :=
  if b.own.isNone || !usesSlot b then none
  else match keyAt s b.req.desc.key with
  | .error e => some e.1
  | .ok k => if k.damaged then some eParity else if !bit k.attr aSign then some eDenied else none

/-- The job with its key loaded, as it starts (R150, R202). -/
def withKey (s : State) (b : Job) : Job :=
  match keyAt s b.req.desc.key with
  | .ok k =>
    if usesSlot b then
      { b with keyIndex := some (hIndex b.req.desc.key), custody := k.cls == clsCustody, key := loadedKey s b.opcode k
               loadedAt := some s.now }
    else b
  | .error _ => b

/-! ### Waiting (R54, R55, R152, R405, Table 15-5) -/

/-- A changed part holds the job during an activation pause (Table 15-5): 4 MILL, 1 HANDS. -/
def heldByPause (s : State) (b : Job) : Bool :=
  match s.update.activation with
  | .pause _ _ _ =>
    (b.engine == .mill && s.update.changed.contains 4) || (b.engine == .hand && s.update.changed.contains 1)
  | _ => false

/-- FENCE: a job fetched earlier from the same ring has not posted its completion (R55). -/
def heldByFence (s : State) (b : Job) : Bool :=
  dFence b.req.desc &&
  (s.jobs.any (fun c => c.id < b.id && c.req.fn == b.req.fn && c.req.ring == b.req.ring) ||
   unposted (fnOf s b.req.fn) b.req.ring (fun n => n < b.id))

/-- An earlier job of the same client names the job's context (R55). A job of a client that does not hold the context neither
waits for the holder's jobs nor holds them up (Table 5-4). -/
def heldByContext (s : State) (b : Job) : Bool :=
  b.context.isSome && s.jobs.any (fun c => c.id < b.id && c.context == b.context && c.req.fn == b.req.fn)

/-- The job waits for its turn: FENCE (R55), an earlier job of its context (R55), Bus Master Enable (R54), its slot's
write (R152), its slot's acknowledged counter (R405), or the pause. -/
def mustWait (s : State) (b : Job) : Bool :=
  let i := hIndex b.req.desc.key
  let inv := match tblFind s.keys i with | some k => k.invocation | none => 0
  heldByFence s b || heldByContext s b ||
  (!(fnOf s b.req.fn).busMaster && (!b.req.src.isEmpty || !b.req.dst.isEmpty)) ||
  (usesSlot b && fenced s i) ||
  (takesIv b.opcode && dFirst b.req.desc && beyondAcked s (0x100000 + i) inv) || heldByPause s b

/-! ### Which stones (R219, R224) -/

/-- A lattice job is ready for a lattice stone. -/
def latticeReady (s : State) : Bool := s.jobs.any (fun c => millQueued c && latticeOp c.opcode && !mustWait s c)

/-- A stone can run the job (R224): lattice work on lattice stones; classical work elsewhere, and on a lattice stone
only while no lattice job is ready and the job has not been displaced. A fenced group port serves no slot key (R201). -/
def canRun (s : State) (b : Job) (n : Nat) : Bool :=
  let port := !usesPort b || !s.groupFences.contains (groupOf n)
  let t := (stoneOf s n).state
  port && t != .withdrawn && t != .retired &&
  (if latticeOp b.opcode then latticeStone s n else !latticeStone s n || (!b.displaced && !latticeReady s))

/-- The stone is idle and free for the job. -/
def stoneFree (s : State) (b : Job) (n : Nat) : Bool :=
  let t := stoneOf s n
  t.state == .idle && (t.job.isNone || t.job == some b.id)

/-- The stones, all 64. -/
def stoneNumbers : List Nat := List.range 64

/-- Assign a stone to the job: a gated one wakes (R26). -/
def assignStone (s : State) (b : Job) (n : Nat) : State :=
  let t := stoneOf s n
  setStone s n { t with state := if t.state == .gated then .waking else t.state, job := some b.id
                        since := if t.state == .gated then s.now else t.since }

/-- The stone for the job's work: the one assigned, while it can still run the job, else the first free one, else a gated one,
which wakes. The stone stays assigned while the job waits for its check stone, so that the head of a queue is not overtaken
(R224, R225). -/
def pickStone (s : State) (b : Job) : Option Nat × State :=
  match b.stone.filter (canRun s b) with
  | some n => (if stoneFree s b n then some n else none, s)
  | none =>
    let s := b.stone.toList.foldl unassign s
    match stoneNumbers.find? (fun n => canRun s b n && stoneFree s b n) with
    | some n => (some n, setJob (assignStone s b n) { b with stone := some n })
    | none =>
      match stoneNumbers.find? (fun n => canRun s b n && (stoneOf s n).state == .gated && (stoneOf s n).job.isNone) with
      | some n => (none, setJob (assignStone s b n) { b with stone := some n })
      | none => (none, setJob s { b with stone := none })

/-- Stones that may check the work of stone `n`: in another group, or for lattice work another lattice stone (R219). -/
def mayCheck (s : State) (b : Job) (n m : Nat) : Bool :=
  canRun s b m && m != n && (latticeOp b.opcode || groupOf m != groupOf n)

/-- The check stone: the one assigned, else one chosen at random among the awake ones that qualify; else a gated one is woken
(R219). -/
def pickCheck (s : State) (b : Job) (n : Nat) : Option Nat × State :=
  match b.check.filter (mayCheck s b n) with
  | some m => (if stoneFree s b m then some m else none, s)
  | none =>
    let s := b.check.toList.foldl unassign s
    let free := stoneNumbers.filter (fun m => mayCheck s b n m && stoneFree s b m)
    if !free.isEmpty then (free[(randomBytes s 1 |> ofLe) % free.length]?, draw s)
    else
      match stoneNumbers.find? (fun m => mayCheck s b n m && (stoneOf s m).state == .gated && (stoneOf s m).job.isNone) with
      | some m => (none, setJob (assignStone s b m) { b with check := some m })
      | none => (none, setJob s { b with check := none })

/-! ### Floors (R25, R171, R477) -/

/-- The floor can take host work (R151, R477). -/
def floorServes (s : State) (f : Nat) : Bool :=
  !(floorOf s f).fenced && !starved s f && 1 ≤ coresInService s f

/-- Host work on a floor: its contexts and the one-shot jobs placed there. -/
def floorLoad (s : State) (f : Nat) : Nat :=
  (s.contexts.filter (fun e => e.2.floor == f)).length +
  (s.jobs.filter (fun b => b.engine == .thresher && b.context.isNone && b.floor == f)).length

/-- The floor the central Winnow chooses: the awake one with the least host work, else a gated one (R171). DESIGN
CHOICE, notes/assumptions/29.md: the manual gives no measure of residual capacity. -/
def chooseFloor (s : State) : Nat :=
  let awake := (List.range 6).filter (fun f => floorServes s f && (floorOf s f).awake)
  let pick := fun (l : List Nat) => l.foldl (fun best f => if floorLoad s f < floorLoad s best then f else best) (l.headD 0)
  if !awake.isEmpty then pick awake else pick ((List.range 6).filter (floorServes s))

/-! ### Cores (R146, R172, R193) -/

/-- The cores a Thresher job takes: a twin pair, or one core for a custody-class job and while twin computation is off (R146,
R147, R172). A job that has started keeps the form in which it started (R148). -/
def jobCores (s : State) (b : Job) : Nat :=
  if hClass b.req.desc.key == clsCustody then 1
  else if (if b.stage == .queued then s.twin else b.twinned) then 2 else 1

/-- How many cores of a floor nothing runs on (R172). -/
def freeCores (s : State) (f : Nat) : Nat := (idleCores s f).length

/-- A Flail job runs on a SHA-2 core, else on a Keccak core (Table 6-1). -/
def onSha2 (alg : Nat) : Bool := alg < 0x10

/-- The Flail cores of a kind, by the model's number: 0–15 Keccak, 16–31 SHA-2. -/
def flailKind (sha2 : Bool) : List Nat := (List.range 16).map (· + (if sha2 then 16 else 0))

/-- The unit is withdrawn or retired (R476). -/
def outOfService (s : State) (u : EngineUnit) : Bool := s.withdrawals.any (fun w => w.unit == u && w.out)

/-- Knot and content digests of strands under way, which take precedence on the Keccak cores (R193). -/
def strandDigests (s : State) : Nat :=
  (s.strands.map (fun e =>
    (e.2.window.filter (fun w => w.state == .digesting)).length +
    (match e.2.building with | some r => ofBool (!r.digested) | none => 0))).sum

/-- The cores of a kind in service that no digest runs on. -/
def idleFlail (s : State) (sha2 : Bool) : List Nat :=
  (flailKind sha2).filter (fun c =>
    !outOfService s (.flail c) && !s.jobs.any (fun b => b.core == some c) && s.flail.core != some c)

/-- The cores that host work may take: those that the digests of strands leave (R193). -/
def freeFlail (s : State) (sha2 : Bool) : List Nat := (idleFlail s sha2).drop (if sha2 then 0 else strandDigests s)

/-- A word or the end of a fall-back digest takes a core of its kind, as an entry of priority 3 (R197). -/
def startFallback (s : State) : State :=
  let f := s.flail
  if (f.inWord || f.finishing) && f.core.isNone then
    { s with flail := { f with core := (freeFlail s (onSha2 f.runAlg)).head? } }
  else s

/-! ### Hands (R21) -/

/-- A Hand serves: it is neither withdrawn (R478) nor halted through the Lanyard, whose target 1 + n it is (R384), nor gated, as Hands
4 to 7 are in Drowse (Table 16-3). -/
def handServes (s : State) (h : Nat) : Bool :=
  !outOfService s (.hand h) && !s.lanyard.halted.contains (h + 1) && (s.power.state != .drowse || h < 4)

/-- The Hand is halted through the Lanyard: its work stops until it is resumed (R386). -/
def handHalted (s : State) (h : Nat) : Bool := s.lanyard.halted.contains (h + 1)

/-- The verification requests a Hand has. -/
def handLoad (s : State) (h : Nat) : Nat := (s.jobs.filter (fun b => b.hand == some h)).length

/-- The Hand that the Steward, while it runs, assigns a request to: the one with the least load, the lowest number first (R21). DESIGN CHOICE of the
order among equals, notes/assumptions/29.md. -/
def chooseHand (s : State) : Option Nat :=
  ((List.range 8).filter (fun h => stewardServes s && handServes s h)).foldl (fun best h =>
    match best with
    | none => some h
    | some g => if handLoad s h < handLoad s g then some h else some g) none

/-! ### Starting (R55, R150, R152, R166, R167) -/

/-- The job restarts a remembered digest (R188). -/
def restarts (s : State) (b : Job) : Bool := b.engine == .flail && (rememberedFor s b.opcode b.req.desc).isSome

/-- The first job of a message opens it on its context. -/
def openFor (s : State) (b : Job) (iv : Bytes) : State :=
  match b.context with
  | none => s
  | some c =>
    match tblFind s.contexts c with
    | none => s
    | some x =>
      if dFirst b.req.desc || restarts s b then
        let p := if b.engine == .flail then flParam s b.opcode b.req.desc else dParam b.req.desc
        setContext s c { x with
          msg := some { opcode := b.opcode, key := b.req.desc.key, param := p, iv }, ended := none, remembered := none }
      else s

/-- The IV a Thresher message takes from its PARAM (Table 5-2). -/
def paramIv (op : Nat) (p : Bytes) : Bytes :=
  match op with
  | 0x0202 => slice p 4 12
  | 0x0204 => slice p 4 12
  | 0x0210 => slice p 0 8
  | 0x0211 => slice p 0 8
  | 0x0212 => slice p 8 8
  | _ => p

/-- The IV of a job: made for a new GCM or GMAC message (R155), else the message's own. -/
def ivFor (s : State) (b : Job) : Bytes × State :=
  if takesIv b.opcode && dFirst b.req.desc then
    let (v, s) := takeInvocation s (hIndex b.req.desc.key)
    (makeIv s.ident.fixedField v, s)
  else if dFirst b.req.desc then (paramIv b.opcode (dParam b.req.desc), s)
  else (((openMessage s b.req.desc).map (·.iv)).getD [], s)

/-- Start a Thresher job on its floor when a pair or core of it is free (R172): a gated floor wakes first (R25); one whose
key-bus port is fenced (R151) or which has too few cores (R477) fails it. -/
def startThresher (s : State) (b : Job) : State :=
  let f := floorOf s b.floor
  if f.fenced || starved s b.floor || coresInService s b.floor == 0 then failJob s b eFault 0
  else if !f.awake || freeCores s b.floor < jobCores s b then s
  else
    let k := withKey s b
    let (iv, s) := ivFor s b
    let s := openFor s b iv
    let (cores, s) := takeCores s b.floor (idleCores s b.floor) (jobCores s b) (k.key, k.custody)
    setJob s { k with stage := .running, iv, twinned := s.twin || k.custody, since := s.now, onCore := true, cores
                      rest := dataLen s b.opcode b.req.desc }

/-- The ALG of a Flail job. -/
def flailAlg (s : State) (b : Job) : Nat := rd (flParam s b.opcode b.req.desc) 0 1

/-- Start a Flail job when a core of its kind is free (R193). -/
def startFlail (s : State) (b : Job) : State :=
  match (freeFlail s (onSha2 (flailAlg s b) && b.opcode == 0x0301)).head? with
  | none => s
  | some c =>
    let r := restarts s b
    let s := openFor s b []
    setJob s { b with stage := .running, since := s.now, restarted := r, rest := b.req.desc.totalLen, onCore := true, core := some c
                      carried := some (messageOf s b) }

/-- A job takes an idle stone, and loads it with the key `key` and the operands `ram`. -/
def takeStone (s : State) (b : Job) (n : Nat) (key ram : Bytes) : State :=
  setStone s n { stoneOf s n with state := .busy, job := some b.id, custody := b.custody, since := s.now, ram, keyReg := key
                                  mult := Config.multiplier b.opcode key ram }

/-- What a read of a stone's operand RAM gives, 64 KiB: zeros from a wipe on, until a job loads it again (R222). -/
def stoneRam (s : State) (n : Nat) : Bytes := fit 65536 (stoneOf s n).ram

/-- Start a Mill job when a stone is free for it (R224): it loads its key (R202). -/
def startMill (s : State) (b : Job) : State :=
  match pickStone s b with
  | (none, s) => s
  | (some n, s) =>
    let k := withKey s b
    setJob (takeStone s k n k.key (srcData k.req)) { k with stone := some n, stage := .running, since := s.now }

/-- The public half with which a second stone checks what a private key has made (Table 7-6). -/
def checkKey (s : State) (b : Job) : Bytes :=
  (publicOf s { type := millType b.opcode, set := pSet (dParam b.req.desc), material := b.key }).getD []

/-- A result that waits for its release check takes its check stone when one is free, which works on the result with the public
half (R219). These checks come before jobs that have not started, notes/assumptions/29.md (DESIGN CHOICE). -/
def startCheck (s : State) (id : Nat) : State :=
  match jobOf s id with
  | none => s
  | some b =>
    if b.engine != .mill || b.stage != .checking || checkRuns s b then s
    else match pickCheck s b (b.stone.getD 64) with
      | (none, s) => s
      | (some m, s) => setJob (takeStone s b m (checkKey s b) (b.out ++ srcData b.req)) { b with check := some m, since := s.now }

/-- Start a verification request on the Hand that the Steward assigns it to, under the policy in force (R21, R238). -/
def startHand (s : State) (b : Job) : State :=
  match chooseHand s with
  | none => s
  | some h => setJob s { b with stage := .running, since := s.now, hand := some h
                                policy := some (tblGet s.policies (rd (srcData b.req) 2 2) {}) }

/-- A host job that has started reads its source fragments, each with the attributes of its FLAGS (R51); a read that fails ends the
job (R54). -/
def readSource (s : State) (id : Nat) : State :=
  match jobOf s id with
  | none => s
  | some b =>
    if b.stage != .running || b.sheaf.isSome then s
    else
      let s := { s with hostReads := s.hostReads ++ b.req.src.map (fun f =>
                   { addr := f.addr, len := f.len, noSnoop := bit f.flags 0, relaxed := bit f.flags 1 }) }
      match b.req.dmaFail with
      | some off => cutJob s b eDma off
      | none => s

/-- Start one queued job if nothing holds it: the checks come first, and a failed one ends it at once, as does a fragment
whose read fails (R54). Work of the device's own has none, but its key may be gone (R202). -/
def tryStart (s : State) (id : Nat) : State :=
  match jobOf s id with
  | none => s
  | some b =>
    if b.stage != .queued || mustWait s b then s
    else if (ownKeyFault s b).isSome then
      setJob (freeStones s b) { b with stage := .finished, status := (ownKeyFault s b).getD 0, stone := none }
    else match (if b.own.isSome then none else firstFail (jobChecks s b)) with
      | some (st, dt, keep) => endJob (freeStones s b) b st dt keep [] []
      | none =>
        let t := match b.engine with
          | .thresher => startThresher s b
          | .flail => startFlail s b
          | .mill => startMill s b
          | .hand => startHand s b
        readSource t id

/-- The entry waits between two slices: a core takes it when one is free (R172, R193). -/
def resumeSlice (s : State) (id : Nat) : State :=
  match jobOf s id with
  | none => s
  | some b =>
    if b.stage != .running || b.onCore then s
    else match b.engine with
      | .thresher =>
        if freeCores s b.floor < jobCores s b then s
        else
          let (cores, s) := takeCores s b.floor (idleCores s b.floor) (jobCores s b) (b.key, b.custody)
          setJob s { b with onCore := true, cores }
      | .flail =>
        match (freeFlail s (onSha2 (rd (messageOf s b).param 0 1) && b.opcode == 0x0301)).head? with
        | some c => setJob s { b with onCore := true, core := some c }
        | none => s
      | _ => s

/-- The stones that work for the job. -/
def heldStones (s : State) (b : Job) : List Nat :=
  (stonesOf b).filter (fun n => (stoneOf s n).job == some b.id && (stoneOf s n).state == .busy)

/-- The full-operation time of a classical job lets a lattice stone be taken from it (R224). -/
def displaceable (s : State) (b : Job) : Bool :=
  b.engine == .mill && !latticeOp b.opcode && !b.displaced && (heldStones s b).any (latticeStone s) && 250000 < kindTime s b

/-- Lattice jobs that are ready, or wait for their release check, and have no lattice stone (R224). -/
def latticeWanting (s : State) : Nat :=
  (s.jobs.filter (fun b => latticeOp b.opcode && wantsStone s b && !mustWait s b &&
    (if b.stage == .queued then b.stone else b.check).isNone)).length

/-- Lattice stones that will be free at the end of a wipe. -/
def latticeComing (s : State) : Nat :=
  (stoneNumbers.filter (fun n => latticeStone s n && (stoneOf s n).state == .wiping && (stoneOf s n).afterWipe == .idle)).length

/-- A lattice job that is ready and finds no lattice stone free displaces a classical one: its stones are wiped, and it
goes back to the head of its queue, which its turn keeps for it (R224). -/
def displaceOne (s : State) : State :=
  match s.jobs.find? (displaceable s) with
  | some b =>
    if latticeComing s < latticeWanting s then
      setJob (abortStones s b) { b with stage := .queued, displaced := true, stone := none, check := none, turn := 0 }
    else s
  | none => s

/-- As many as the lattice jobs need: at most all lattice stones. -/
def displace (s : State) : State := (List.range 8).foldl (fun s _ => displaceOne s) s

/-- While a job is queued for the Mill, every group holds a stone awake: a group without one wakes its first (R26). -/
def wakeGroups (s : State) : State :=
  if !s.jobs.any (wantsStone s) then s
  else (List.range 8).foldl (fun s g =>
    let group := stoneNumbers.filter (fun n => groupOf n == g)
    if group.any (fun n => stoneAwake s n || (stoneOf s n).state == .waking) then s
    else match group.find? (fun n => (stoneOf s n).state == .gated) with
      | some n => setStone s n { stoneOf s n with state := .waking, since := s.now }
      | none => s) s

/-- Put a job where its turn falls. -/
def insertTurn (b : Job) : List Job → List Job
  | [] => [b]
  | c :: r => if b.turn ≤ c.turn then b :: c :: r else c :: insertTurn b r

/-- The entries of queue `q`, from its head (R172, R224). -/
def queueOf (s : State) (q : Nat) : List Job :=
  (s.jobs.filter (fun b => min 3 b.queue == q && (b.stage == .queued || (b.stage == .running && !b.onCore)))).foldr insertTurn []

/-- An entry goes to the tail of queue `q`. -/
def toTail (s : State) (b : Job) (q : Nat) : State :=
  setJob { s with turnNo := s.turnNo + 1 } { b with queue := q, turn := s.turnNo, since := s.now }

/-- The entries in the order in which they are served (R172, R193, R224): the highest queue first, each from its head. `none` is
the fall-back path, an entry of the queue of priority 3 in its turn (R197). -/
def entries (s : State) : List (Option Nat) :=
  let before := (queueOf s 3).filter (fun b => b.turn < s.flail.turn)
  let after := (queueOf s 3).filter (fun b => s.flail.turn ≤ b.turn)
  let rest := [2, 1, 0].flatMap (queueOf s)
  before.map (fun b => some b.id) ++ [none] ++ (after ++ rest).map (fun b => some b.id)

/-- Serve an entry. -/
def serveEntry (s : State) (e : Option Nat) : State :=
  match e with
  | none => startFallback s
  | some id => resumeSlice (tryStart s id) id

/-- Start what may start: release checks, then the entries in their order (R55, R172, R193, R224). -/
def startJobs (s : State) : State :=
  let s := (s.jobs.map (·.id)).foldl startCheck s
  wakeGroups (displace ((entries s).foldl serveEntry s))

/-! ### Work of the device's own (R224) -/

/-- The client number of the device's own work: no function has it. -/
abbrev deviceClient : Nat := 65

/-- One piece of work the device asks of the Mill or the Flail: an operation with a SET, or a digest with its ALG and length, and the
handle of the key it loads, at a priority. -/
structure OwnNeed where
  work : OwnWork
  engine : Engine := .mill
  op : Nat
  set : Nat
  key : Nat := 0
  len : Nat := 0
  priority : Nat := 3
deriving DecidableEq, Repr

/-- Ask for it: an entry of its queue (R193, R224). -/
def askWork (s : State) (n : OwnNeed) : State :=
  let b : Job := { id := s.jobNo, opcode := n.op, engine := n.engine, priority := n.priority, queue := n.priority, since := s.now
                   req := { fn := deviceClient, ring := 0, desc := { param := le 2 n.set, key := n.key, totalLen := n.len } }
                   turn := s.turnNo, own := some n.work }
  { s with jobs := s.jobs ++ [b], jobNo := s.jobNo + 1, turnNo := s.turnNo + 1 }

/-- The jobs of a piece of the device's own work. -/
def ownJobs (s : State) (w : OwnWork) : List Job := s.jobs.filter (fun b => b.own == some w)

/-- The job is at its last step: made, on the stone that makes it, or under its release check. -/
def lastStep (s : State) (b : Job) : Bool :=
  (b.stage == .finished && b.status == sOk) || (b.stage == .running && !secondStone b.opcode) || checkRuns s b

/-- All of them are. -/
def ownRuns (s : State) (w : OwnWork) : Bool := !(ownJobs s w).isEmpty && (ownJobs s w).all (lastStep s)

/-- The job is made and checked. -/
def isMade (b : Job) : Bool := b.stage == .finished && b.status == sOk

/-- All of them are made and checked. -/
def ownReady (s : State) (w : OwnWork) : Bool := !(ownJobs s w).isEmpty && (ownJobs s w).all isMade

/-- The key that the job of an operation of this work loaded. -/
def ownLoaded (s : State) (w : OwnWork) (op : Nat) : Bytes := (((ownJobs s w).find? (fun b => b.opcode == op)).map (·.key)).getD []

/-- The signatures that this work has made over a message, with ECDSA P-384 and for a hybrid one ML-DSA-65 after it, by the keys that
their stones loaded (R202): two draws. -/
def ownSignatures (s : State) (w : OwnWork) (msg : Bytes) (hybrid : Bool) : Bytes × State :=
  (signP384 s (ownLoaded s w 0x0401) msg ++ (if hybrid then signMldsa65 (draw s) (ownLoaded s w 0x040A) msg else []), draw (draw s))

/-- The work is made and checked: its stones are wiped (R223). -/
def ownEnds (s : State) (w : OwnWork) : State := (ownJobs s w).foldl (fun s b => dropJob (freeStones s b) b) s

/-- The work is wanted no more: its stones are aborted (R222). -/
def ownStops (s : State) (w : OwnWork) : State := (ownJobs s w).foldl (fun s b => dropJob (abortStones s b) b) s

/-! ### Freeze, purges and resets -/

/-- Freeze: jobs that have not started complete with E_FROZEN; an open digest message stays (R167, R195, R226). Signatures of
the device's own go on. -/
def freezeJobs (s : State) : State :=
  (s.jobs.filter (fun b => b.stage == .queued && b.own.isNone)).foldl
    (fun s b => endJob (freeStones s b) b eFrozen (alarmLevel s) (b.engine == .flail) [] []) s

/-- The status a purge of level `lvl` gives a job; `none` where it goes on (R153, R195, R226, Tables 5-4, 7-8, 8-10). -/
def purgeStatus (s : State) (lvl : Nat) (b : Job) : Option Nat :=
  let cls := hClass b.req.desc.key
  match b.engine with
  | .flail => none
  | .thresher =>
    if lvl == 5 then some eKeyGone
    else if b.stage == .running && b.custody then some eKeyGone
    else if b.stage == .queued && cls == clsCustody && fenced s (hIndex b.req.desc.key) then some eKeyGone
    else none
  | .mill =>
    if (if lvl == 5 then b.stage != .queued && b.keyIndex.isSome else (b.stage == .running || b.stage == .checking) && b.custody)
    then some eKeyGone
    else if lvl == 5 then some ePurged else none
  | .hand => if b.stage == .queued && lvl == 5 then some ePurged else some eKeyGone

/-- A purge clears the key registers of the cores: at level 4 those that hold a custody-class key (R153). -/
def purgeRegs (s : State) (lvl : Nat) : State :=
  { s with floors := tblMap s.floors (fun _ f => { f with keyRegs := f.keyRegs.filter (fun r => lvl == 4 && !r.2.2) }) }

/-- A purge ends the jobs it reaches, and clears key registers; a level-5 purge wipes every stone that is on (R222). -/
def purgeJobs (s : State) (lvl : Nat) : State :=
  let s := purgeRegs s lvl
  let s := s.jobs.foldl (fun s b =>
    match purgeStatus s lvl b with
    | some st => cutJob s b st (if st == eKeyGone then lvl else 0)
    | none => s) s
  if lvl == 5 then
    stoneNumbers.foldl (fun s n =>
      if (stoneOf s n).state == .idle || (stoneOf s n).state == .busy then wipeStone s n .idle else s) s
  else s

/-- Jobs of a function are abandoned: no output, no event; stones that ran them are wiped (R63, R222). -/
def abandonJobs (s : State) (f : Nat) : State :=
  (s.jobs.filter (fun b => b.req.fn == f)).foldl (fun s b => dropJob (abortStones s b) b) s

/-- CONTEXT_RELEASE with FORCE: the jobs of the context complete with E_STATE (R170), the running ones first. -/
def stopContext (s : State) (c : Nat) : State :=
  (s.jobs.filter (fun b => b.context == some c)).foldl (fun s b => failJob s b eState (deviceStatus s)) s

/-- The work under way on a Hand ends with E_FAULT (R22). -/
def faultHand (s : State) (h : Nat) : State :=
  (s.jobs.filter (fun b => b.hand == some h && b.stage == .running)).foldl (fun s b => failJob s b eFault 0) s

/-! ### Withdrawal (R149, R194, R220, R476) -/

/-- A unit's number in a retirement's VALUE (R476). Flail cores 16–31 of the model are the SHA-2 cores 0–15. -/
def unitNo (u : EngineUnit) : Nat :=
  match u with
  | .aes f c => 16 * f + c
  | .flail c => c % 16
  | .stone n => n
  | .hand n => n

/-- The Ledger type of the monitor that withdrew a unit: TWIN entries for AES cores, ALARM entries otherwise (Table 10-8
has no type of its own, notes/assumptions/30.md). -/
def noteUnit (s : State) (u : EngineUnit) (what : Nat) : State :=
  let kind := match u with | .aes _ _ => 1 | .flail _ => 2 | .stone _ => 3 | .hand _ => 4
  note s (if kind == 1 then 0xF009 else 0xF003) (le 1 what ++ le 1 kind ++ le 2 (unitNo u))

/-- The unit's own place in State: out of service, back, or retired. -/
def placeUnit (s : State) (u : EngineUnit) (out retired : Bool) : State :=
  match u with
  | .aes f c =>
    let w := floorOf s f
    linkPauseCheck (setFloor s f { w with
      withdrawn := (w.withdrawn.filter (· != c)) ++ (if out && !retired then [c] else [])
      retired := (w.retired.filter (· != c)) ++ (if retired then [c] else []) }) f
  | .stone n =>
    let t := stoneOf s n
    if out && t.state == .wiping then setStone s n { t with afterWipe := if retired then .retired else .withdrawn }
    else setStone s n { t with state := if retired then .retired else if out then .withdrawn else .idle, since := s.now }
  | _ => s

/-- Retire a unit until the next cold reset: its monitor raises once more (R476). -/
def retireUnit (s : State) (w : Withdrawal) : State :=
  let s := { s with withdrawals := s.withdrawals.map (fun v => if v.unit == w.unit then { v with out := true, retired := true } else v) }
  let s := noteUnit (placeUnit s w.unit true true) w.unit 3
  report s w.monitor (0x80000000 + unitNo w.unit)

/-- Withdraw a unit from scheduling for its test; the third time within 3,600 s retires it (R476). -/
def withdraw (s : State) (u : EngineUnit) (monitor : Nat) : State :=
  let old := s.withdrawals.find? (fun v => v.unit == u)
  match old with
  | some w =>
    if w.retired then s
    else
      let ticks := w.ticks.filter (fun t => s.now < t + 3600000000) ++ [s.now]
      let w := { w with ticks, out := true, monitor }
      let s := { s with withdrawals := s.withdrawals.map (fun v => if v.unit == u then w else v) }
      let s := noteUnit (placeUnit s u true false) u 1
      if 3 ≤ ticks.length then retireUnit s w else s
  | none =>
    let w : Withdrawal := { unit := u, ticks := [s.now], monitor }
    noteUnit (placeUnit { s with withdrawals := s.withdrawals ++ [w] } u true false) u 1

/-- A core of a floor in service that is not `x`, drawn at random (R146). -/
def drawCore (s : State) (f : Nat) (x : Option Nat) : Nat × State :=
  let l := (servingCores s f).filter (fun c => x != some c)
  (l.getD ((randomBytes s 1 |> ofLe) % max 1 l.length) 0, draw s)

/-- A twin or inverse mismatch on a floor (R149): the Ledger entry, the event, and the cores withdrawn, both of a pair
or the one of a custody job: those of `cores`; where a task found none free, cores that the device draws. `what` is the TAG or
strand. -/
def twinMismatch (s : State) (f : Nat) (cores : List Nat) (pair : Bool) (what : Nat) : State :=
  let (a, s) := match cores[0]? with | some a => (a, s) | none => drawCore s f none
  let (b, s) := if !pair then (a, s) else match cores[1]? with | some b => (b, s) | none => drawCore s f (some a)
  let s := note s 0xF009 (le 1 f ++ le 1 a ++ le 1 b ++ zeros 1 ++ le 4 what)
  let s := report s 0x16 f
  let s := withdraw s (.aes f a) 0x16
  if pair then withdraw s (.aes f b) 0x16 else s

end Sys2Proof.Machine
end

