-- ==== Sys2Proof/Machine/SheafTables.lean ====
section
/-! DEFINITION. Sheaf files (R257–R259, R272, R275, R276) and the loader's checks on them (R262 steps 3, 7 and 8, R268,
R278). A check answers the status, and the offset of the offending entry within its section. -/

namespace Sys2Proof.Machine

/-- A failed check: status, offset. -/
abbrev Bad := Nat × Nat

/-- The first bad entry of a list, entries of `size` bytes from offset `base`. -/
def firstBad {α : Type} (base size : Nat) (f : α → Option Nat) (l : List α) : Option Bad :=
  l.zipIdx.findSome? (fun e => (f e.1).map (fun st => (st, base + size * e.2)))

/-- `n` runs of `k` bytes. -/
def chunks (k : Nat) : Nat → Bytes → List Bytes
  | 0, _ => []
  | n + 1, b => b.take k :: chunks k n (b.drop k)

/-- E_FORMAT where the condition holds. -/
def formatIf (c : Bool) : Option Nat := if c then some eFormat else none

/-! ### Step tables (Tables 9-6 to 9-9) -/

/-- A table as it lies in its section. -/
def readTable (b : Bytes) : StepTable :=
  let s := rd b 2 2
  let t := rd b 4 2
  let a := rd b 6 2
  let rest := b.drop 32
  { initial := rd b 9 1, bound := rd b 10 2, msgFirst := rd b 12 2, msgLast := rd b 14 2
    states := (chunks 4 s rest).map (fun e =>
      { first := rd e 0 2, count := rd e 2 1, transient := bit (rd e 3 1) 0 })
    trans := (chunks 12 t (rest.drop (4 * s))).map (fun e =>
      { event := rd e 0 1, guard := rd e 1 1, a := rd e 2 1, b := rd e 3 1, target := rd e 4 1, nact := rd e 5 1
        firstAct := rd e 6 2, loopMax := rd e 8 1 })
    acts := (chunks 4 a (rest.drop (4 * s + 12 * t))).map (fun e =>
      { op := rd e 0 1, x := rd e 1 1, y := rd e 2 1, z := rd e 3 1 })
    consts := (chunks 16 (rd b 8 1) (rest.drop (4 * s + 12 * t + 4 * a))).map ofLe }

/-- An operand byte is one of Table 9-6. -/
def operandOk (t : StepTable) (o : Nat) : Bool :=
  match o / 64 with
  | 0 => o < 16
  | 1 => true
  | 2 => o % 64 < t.consts.length
  | _ => o % 64 ≤ 10

/-- A cell. -/
def isCell (o : Nat) : Bool := o < 16
/-- A source: a field, BUILD or PAYLOAD (R273). -/
def isSrc (o : Nat) : Bool := o / 64 == 1 || o == 0xC8 || o == 0xC9
/-- A constant of the table. -/
def isConst (t : StepTable) (o : Nat) : Bool := o / 64 == 2 && o % 64 < t.consts.length

/-- What a position of Table 9-9 admits. -/
inductive Pos where
  | none | cell | op | src | const | imm
deriving DecidableEq, Repr

/-- The positions X, Y and Z of each action (Table 9-9). -/
def positions (op : Nat) : Pos × Pos × Pos :=
  match op with
  | 0x00 => (.none, .none, .none)
  | 0x01 => (.cell, .op, .none)
  | 0x09 => (.cell, .imm, .imm)
  | 0x0A => (.cell, .src, .src)
  | 0x0B => (.cell, .src, .none)
  | 0x0C => (.cell, .src, .op)
  | 0x10 => (.cell, .src, .imm)
  | 0x11 => (.imm, .src, .op)
  | 0x12 => (.imm, .none, .none)
  | 0x13 => (.imm, .none, .none)
  | 0x14 => (.none, .none, .none)
  | 0x15 => (.none, .imm, .op)
  | 0x16 => (.none, .imm, .op)
  | 0x17 => (.none, .src, .none)
  | 0x18 => (.none, .op, .none)
  | 0x19 => (.none, .op, .none)
  | 0x1A => (.none, .imm, .op)
  | 0x1B => (.none, .imm, .none)
  | 0x1C => (.cell, .none, .none)
  | 0x1D => (.cell, .imm, .none)
  | 0x1E => (.none, .none, .none)
  | 0x1F => (.none, .none, .none)
  | 0x20 => (.imm, .src, .imm)
  | 0x21 => (.imm, .const, .src)
  | 0x22 => (.imm, .const, .src)
  | 0x23 => (.cell, .none, .none)
  | 0x24 => (.cell, .op, .none)
  | 0x25 => (.cell, .op, .none)
  | 0x26 => (.imm, .src, .const)
  | 0x27 => (.imm, .none, .none)
  | 0x28 => (.none, .imm, .none)
  | 0x29 => (.imm, .imm, .imm)
  | 0x2A => (.none, .src, .none)
  | 0x2B => (.imm, .none, .none)
  | 0x2C => (.imm, .none, .none)
  | 0x2D => (.none, .op, .none)
  | _ => (.cell, .op, .op)

/-- A byte stands where a position admits it. -/
def admits (t : StepTable) (p : Pos) (o : Nat) : Bool :=
  match p with
  | .none => true
  | .imm => true
  | .cell => isCell o
  | .op => operandOk t o
  | .src => isSrc o
  | .const => isConst t o

/-- What is wrong with an action (R278); `nf` formats and `nr` rule sets are present, and `old` says FORMAT 7. -/
def actBad (t : StepTable) (nf nr : Nat) (old : Bool) (a : SAct) : Option Nat :=
  if 0x2E ≤ a.op && a.op ≤ 0x3F then some eDenied
  else
    let p := positions a.op
    formatIf (0x3F < a.op || (old && 0x27 < a.op) || !admits t p.1 a.x || !admits t p.2.1 a.y || !admits t p.2.2 a.z ||
      (a.op == 0x10 && nf ≤ a.z) || (a.op == 0x28 && nr ≤ a.y) ||
      (a.op == 0x18 && isConst t a.y &&
        (t.consts.getD (a.y % 64) 0 < t.msgFirst || t.msgLast < t.consts.getD (a.y % 64) 0)))

/-- State `u` is transient. -/
def transient (t : StepTable) (u : Nat) : Bool := ((t.states[u]?).map (·.transient)).getD false

/-- The transitions of state `u`, with their indices. -/
def transOf (t : StepTable) (u : Nat) : List (Nat × STrans) :=
  match t.states[u]? with
  | some st => ((t.trans.drop st.first).take st.count).zipIdx.map (fun e => (st.first + e.2, e.1))
  | none => []

/-- A transition of state `u` is a loop (R267). -/
def isLoop (t : StepTable) (u : Nat) (x : STrans) : Bool := x.target == u && transient t u

/-- What is wrong with a transition of state `u`. -/
def transBad (t : StepTable) (u : Nat) (x : STrans) : Option Nat :=
  formatIf (!(x.event ≤ 6 || x.event == 0xFF) || 5 < x.guard || t.states.length ≤ x.target || 16 < x.nact ||
    t.acts.length < x.firstAct + x.nact || (x.nact == 0 && x.firstAct != 0) ||
    (x.guard != 0 && !(operandOk t x.a && operandOk t x.b)) ||
    (x.event == 0 && !transient t u) || (isLoop t u x == (x.loopMax == 0)))

/-- What is wrong with state `u`: its run lies in the array, and a transient state ends with an unconditional immediate
transition that is no loop. -/
def stateBad (t : StepTable) (u : Nat) : Option Nat :=
  match t.states[u]? with
  | none => none
  | some st =>
    let l := transOf t u
    formatIf (st.count == 0 || t.trans.length < st.first + st.count ||
      (st.transient &&
        match l.getLast? with
        | some (_, x) => !(x.event == 0 && x.guard == 0) || isLoop t u x
        | none => true))

/-- The states' runs cover every transition exactly once. -/
def coversOnce (t : StepTable) : Bool :=
  (t.states.map (·.count)).sum == t.trans.length &&
  (List.range t.trans.length).all (fun k => t.states.any (fun st => st.first ≤ k && k < st.first + st.count))

/-- Steps of a transition (R268). -/
def cost (x : STrans) : Nat := 1 + x.nact

/-- chain(u) of R268 from the values known so far; `none` while a successor's is not known. -/
def chainOf (t : StepTable) (known : List (Option Nat)) (u : Nat) : Option Nat :=
  if !transient t u then some 0
  else
    let l := (transOf t u).map (·.2)
    let loops := ((l.filter (isLoop t u)).map (fun x => x.loopMax * cost x)).sum
    (l.filter (fun x => !isLoop t u x)).foldl (fun acc x =>
      match acc, known.getD x.target none with
      | some m, some c => some (max m (loops + cost x + c))
      | _, _ => none) (some 0)

/-- chain of every state, by rounds; a state on a cycle stays `none`. -/
def chains (t : StepTable) : Nat → List (Option Nat) → List (Option Nat)
  | 0, known => known
  | n + 1, known => chains t n ((List.range t.states.length).map (chainOf t known))

/-- W of R268; `none` where the transient states form a cycle. -/
def worstCase (t : StepTable) : Option Nat :=
  let c := chains t (t.states.length + 1) (t.states.map (fun _ => none))
  if c.any (·.isNone) then none
  else some (((List.range t.states.length).flatMap (fun u =>
    if transient t u then [] else (transOf t u).map (fun e => cost e.2 + (c.getD e.2.target none).getD 0))).foldl max 0)

/-- The header of a step table section (Table 9-7). -/
def tableHeadBad (b : Bytes) : Bool :=
  let s := rd b 2 2
  let t := rd b 4 2
  let a := rd b 6 2
  let c := rd b 8 1
  b.length < 32 || rd b 0 1 != 1 || rd b 1 1 != 1 || s == 0 || 256 < s || t == 0 || 4096 < t || 16384 < a || 64 < c ||
  s ≤ rd b 9 1 || rd b 10 2 == 0 || 10000 < rd b 10 2 || rd b 12 2 < 0x100 || 0x1FF < rd b 14 2 ||
  rd b 14 2 < rd b 12 2 || !allZero (slice b 16 16) || b.length != 32 + 4 * s + 12 * t + 4 * a + 16 * c

/-- The checks of a step table section but the last (R278): the table and its W. -/
def tableShape (nf nr : Nat) (old : Bool) (b : Bytes) : Except Bad (StepTable × Nat) :=
  if tableHeadBad b then .error (eFormat, 0)
  else
    let t := readTable b
    let s := t.states.length
    let base := 32 + 4 * s
    let reserved := firstBad 32 4 (fun e : Bytes => formatIf (2 ≤ rd e 3 1)) (chunks 4 s (b.drop 32))
    let pad := firstBad base 12 (fun e : Bytes => formatIf (!allZero (e.drop 9))) (chunks 12 t.trans.length (b.drop base))
    let stateErr := (firstBad 32 4 (stateBad t) (List.range s))
    let transErr := (List.range s).findSome? (fun u =>
      (transOf t u).findSome? (fun e => (transBad t u e.2).map (fun st => (st, base + 12 * e.1))))
    let actErr := firstBad (base + 12 * t.trans.length) 4 (actBad t nf nr old) t.acts
    match (reserved.orElse fun _ => pad.orElse fun _ => stateErr.orElse fun _ => transErr.orElse fun _ => actErr) with
    | some e => .error e
    | none =>
      if !coversOnce t then .error (eFormat, 32)
      else if transient t t.initial then .error (eFormat, 9)
      else match worstCase t with
        | none => .error (eFormat, 32)
        | some w => .ok (t, w)

/-- Check a step table section (R278): the table and its W, which its STEP_BOUND covers. -/
def checkTable (nf nr : Nat) (old : Bool) (b : Bytes) : Except Bad (StepTable × Nat) :=
  match tableShape nf nr old b with
  | .error e => .error e
  | .ok (t, w) => if w ≤ t.bound then .ok (t, w) else .error (eFormat, 10)

/-! ### Gleaner formats (Table 9-11) -/

/-- A format as it lies in its section. -/
def readFormat (b : Bytes) : GFormat :=
  { syntaxKind := rd b 5 1, depth := rd b 4 1
    nodes := (chunks 16 (rd b 2 2) (b.drop 16)).map (fun e =>
      { depth := rd e 0 1, flags := rd e 1 1, tag := rd e 2 2, field := rd e 4 1, enc := rd e 5 1, minLen := rd e 6 2
        maxLen := rd e 8 2, offset := rd e 10 2, len := rd e 12 2 }) }

/-- The preorder rule between a node and the one before it. -/
def preorderOk (prev : Option GNode) (n : GNode) : Bool :=
  match prev with
  | none => n.depth == 0
  | some p => n.depth ≤ p.depth || (n.depth == p.depth + 1 && bit p.flags 3)

/-- The length of the parent of node `k`: the nearest earlier node one level up. -/
def parentLen (ns : List GNode) (k d : Nat) : Option Nat :=
  (((ns.take k).reverse).find? (fun p => p.depth + 1 == d)).map (·.len)

/-- What is wrong with node `k` of a format. -/
def nodeBad (f : GFormat) (k : Nat) : Option Nat :=
  match f.nodes[k]? with
  | none => none
  | some n =>
    let prev := if k == 0 then none else f.nodes[k - 1]?
    let inside := match parentLen f.nodes k n.depth with
      | some l => n.offset + n.len ≤ l
      | none => true
    formatIf (f.depth ≤ n.depth || 32 ≤ n.flags || !(n.field < 60 || n.field == 0xFF) || 5 < n.enc ||
      (n.maxLen != 0 && n.maxLen < n.minLen) || !preorderOk prev n ||
      (if f.syntaxKind == 4 then !inside else n.offset != 0 || n.len != 0))

/-- Check a gleaner format section. -/
def checkFormat (b : Bytes) : Except Bad GFormat :=
  if b.length < 16 || rd b 0 1 != 2 || rd b 1 1 != 1 || rd b 2 2 == 0 || 1024 < rd b 2 2 || rd b 4 1 == 0 ||
      16 < rd b 4 1 || rd b 5 1 == 0 || 4 < rd b 5 1 || !allZero (slice b 6 10) || b.length != 16 + 16 * rd b 2 2 then
    .error (eFormat, 0)
  else
    let f := readFormat b
    let pad := firstBad 16 16 (fun e : Bytes => formatIf (!allZero (e.drop 14))) (chunks 16 f.nodes.length (b.drop 16))
    match pad.orElse fun _ => firstBad 16 16 (nodeBad f) (List.range f.nodes.length) with
    | some e => .error e
    | none => .ok f

/-! ### Verdict rules -/

/-- Check a verdict rule set. -/
def checkRules (b : Bytes) : Except Bad RuleSet :=
  let n := rd b 2 1
  if b.length < 4 || rd b 0 1 != 4 || rd b 1 1 != 1 || n == 0 || 32 < n || 2 ≤ rd b 3 1 || b.length != 4 + 4 * n then
    .error (eFormat, 0)
  else
    let es := chunks 4 n (b.drop 4)
    let bad := firstBad 4 4 (fun e : Bytes =>
      formatIf (32 ≤ rd e 0 1 || 2 ≤ rd e 1 1 || !([0, 2, 3].contains (rd e 2 1)) || rd e 3 1 != 0)) es
    match bad with
    | some e => .error e
    | none =>
      let rows := es.map (fun e => ({ check := rd e 0 1, required := bit (rd e 1 1) 0, onFail := rd e 2 1 } : RuleRow))
      if (rows.map (·.check)).eraseDups.length != n then .error (eFormat, 4)
      else .ok { hybrid := bit (rd b 3 1) 0, rows }

/-! ### Curve tables (R205, R276) -/

/-- A curve table's header and parameters, without its ID. -/
def readCurve (b : Bytes) : Curve :=
  let pb := rd b 4 2
  let k := ceilDiv pb 8
  let p := fun i => ofBe (slice b (40 + i * k) k)
  let form := rd b 2 1
  { id := 0, form, cofactor := rd b 3 1, pBits := pb, nBits := rd b 6 2
    ops := if form == 1 then 5 else if form == 2 then 4 else 0
    tableId := (sha3 b).take 4, p := p 0, a := p 1, b := p 2, gx := p 3, gy := p 4
    n := ofBe (slice b (40 + 5 * k) (ceilDiv (rd b 6 2) 8)) }

/-- The base point lies on the curve, by the curve's form. -/
def onCurve (c : Curve) : Bool :=
  let x := c.gx
  let y := c.gy
  match c.form with
  | 1 => y * y % c.p == (x * x * x + c.a * x + c.b) % c.p
  | 2 => c.b * y * y % c.p == (x * x * x + c.a * x * x + x) % c.p
  | _ => (c.a * x * x + y * y) % c.p == (1 + c.b * x * x * (y * y)) % c.p

/-- The bit length of a value is `n`. -/
def bitLen (v n : Nat) : Bool := n != 0 && 2 ^ (n - 1) ≤ v && v < 2 ^ n

/-- Check a curve table. -/
def checkCurve (b : Bytes) : Except Bad Curve :=
  let c := readCurve b
  if b.length < 40 || rd b 0 1 != 3 || rd b 1 1 != 1 || c.form == 0 || 3 < c.form || !([1, 2, 4, 8].contains c.cofactor) ||
      521 < c.pBits || !allZero (slice b 32 8) || b.length != 40 + 5 * ceilDiv c.pBits 8 + ceilDiv c.nBits 8 then
    .error (eFormat, 0)
  else if !bitLen c.p c.pBits || !bitLen c.n c.nBits || c.p ≤ 3 || c.p ≤ c.gx || c.p ≤ c.gy || !onCurve c ||
      !Config.curveOk b then .error (eFormat, 40)
  else .ok c

/-! ### The file (Tables 9-1, 9-2) -/

/-- A directory entry. -/
structure DirEntry where
  kind : Nat
  index : Nat
  offset : Nat
  len : Nat
deriving DecidableEq, Repr

/-- A file taken apart. -/
structure SheafFile where
  name : Bytes
  version : Nat
  signer : Nat
  format : Nat
  total : Nat
  dir : List DirEntry
  sigAlg : Nat
  signed : Bytes
  ecdsa : Bytes
  mldsa : Bytes

/-- The directory of a file. -/
def readDir (b : Bytes) : List DirEntry :=
  (chunks 16 (rd b 6 2) (b.drop 64)).map (fun e =>
    { kind := rd e 0 1, index := rd e 1 1, offset := rd e 4 4, len := rd e 8 4 })

/-- Sections allowed of a kind (Table 9-3). -/
def kindLimit (k : Nat) : Nat := match k with | 1 => 16 | 2 => 32 | 3 => 8 | 4 => 8 | _ => 0

/-- Up to the next 16-byte boundary. -/
def align16 (n : Nat) : Nat := ceilDiv n 16 * 16

/-- Bodies follow one another from `at_`, each at the next 16-byte boundary, whatever their order in the directory: the end of the
last that does, and the entries that do not follow. -/
def bodiesEnd : Nat → Nat → List DirEntry → Nat × List DirEntry
  | 0, at_, ds => (at_, ds)
  | f + 1, at_, ds =>
    match ds.find? (fun e => e.offset == align16 at_) with
    | some e => bodiesEnd f (e.offset + e.len) (ds.erase e)
    | none => (at_, ds)

/-- The index of directory entry `k` is one of 0 to the number of its kind less 1, and no earlier entry has it; the kind keeps
within its limit. -/
def indexOk (ds : List DirEntry) (k : Nat) (e : DirEntry) : Bool :=
  let l := ds.filter (fun x => x.kind == e.kind)
  l.length ≤ kindLimit e.kind && e.index < l.length && !(ds.take k).any (fun x => x.kind == e.kind && x.index == e.index)

/-- Bytes of a signature block by SIG_ALG. -/
def sigBlockLen (alg : Nat) : Nat := if alg == 2 then 3409 else 100

/-- The file offset of the first header field that is wrong (Table 9-1). -/
def headerBad (b : Bytes) (len : Nat) : Option Nat :=
  firstField [(b.take 4 != ascii "SHF1", 0), (rd b 4 2 != 1 && rd b 4 2 != 7, 4), (rd b 6 2 == 0 || 64 < rd b 6 2, 6),
    (rd b 24 4 == 0, 24), (b.length != len || len < 64 || rd b 28 4 != len, 28), (3 < rd b 32 1, 32), (!allZero (slice b 33 31), 33)]

/-- Directory entry `k`, whose bytes are `raw`, is wrong: its kind, its index, its reserved bytes, its length, or its place among the
bodies, of which `stray` do not follow one another (Table 9-1, Table 9-3). -/
def entryBad (ds stray : List DirEntry) (k : Nat) (e : DirEntry) (raw : Bytes) : Bool :=
  e.kind == 0 || 4 < e.kind || !indexOk ds k e || rd raw 2 2 != 0 || rd raw 12 4 != 0 || e.len == 0 || stray.contains e

/-- Step 3 of R262: the file's header, directory and layout; or the offending directory entry, 0xFFFF for none, and the file offset
of what is wrong (Table 9-4). -/
def openFile (b : Bytes) (len : Nat) : Except (Nat × Nat) SheafFile :=
  match headerBad b len with
  | some off => .error (0xFFFF, off)
  | none =>
    let ds := readDir b
    let n := rd b 6 2
    let (e, stray) := bodiesEnd n (64 + 16 * n) ds
    match (ds.zip (chunks 16 n (b.drop 64))).zipIdx.find? (fun x => entryBad ds stray x.2 x.1.1 x.1.2) with
    | some x => .error (x.2, 64 + 16 * x.2)
    | none =>
      let alg := rd b e 2
      if (alg != 1 && alg != 2) || rd b (e + 2) 2 != 0 || len != e + sigBlockLen alg then .error (0xFFFF, e)
      else .ok { name := slice b 8 16, version := rd b 24 4, signer := rd b 32 1, format := rd b 4 2, total := len, dir := ds
                 sigAlg := alg, signed := ascii "OPM-SHEAF" ++ b.take e, ecdsa := slice b (e + 4) 96
                 mldsa := if alg == 2 then slice b (e + 100) 3309 else [] }

/-- What the sections of a file hold, by kind in index order, and the largest W. -/
structure Sections where
  tables : List StepTable := []
  formats : List GFormat := []
  curves : List Curve := []
  rules : List RuleSet := []
  worst : Nat := 0

/-- The entries of a kind in index order, with their places in the directory. -/
def ofKind (f : SheafFile) (k : Nat) : List (DirEntry × Nat) :=
  let l := f.dir.zipIdx.filter (fun e => e.1.kind == k)
  (List.range l.length).filterMap (fun i => l.find? (fun e => e.1.index == i))

/-- Check the sections of a kind: the results, or the status with the directory entry and the file offset. -/
def checkKind {α : Type} (b : Bytes) (check : Bytes → Except Bad α) :
    List (DirEntry × Nat) → Except (Nat × Nat × Nat) (List α)
  | [] => .ok []
  | e :: r =>
    match check (slice b e.1.offset e.1.len) with
    | .error x => .error (x.1, e.2, e.1.offset + x.2)
    | .ok v =>
      match checkKind b check r with
      | .error x => .error x
      | .ok l => .ok (v :: l)

/-- Step 7 of R262. -/
def checkTables (b : Bytes) (f : SheafFile) : Except (Nat × Nat × Nat) Sections :=
  let nf := (ofKind f 2).length
  let nr := (ofKind f 4).length
  match checkKind b (checkTable nf nr (f.format == 7)) (ofKind f 1) with
  | .error x => .error x
  | .ok ts =>
    match checkKind b checkFormat (ofKind f 2) with
    | .error x => .error x
    | .ok fs =>
      match checkKind b checkRules (ofKind f 4) with
      | .error x => .error x
      | .ok rs => .ok { tables := ts.map (·.1), formats := fs, rules := rs, worst := (ts.map (·.2)).foldl max 0 }

/-- The largest W computed up to the directory entry at fault: over the step tables before it and itself, or over all where no step
table is at fault. -/
def worstUpTo (b : Bytes) (f : SheafFile) (entry : Nat) : Nat :=
  let l := ofKind f 1
  let upto := match l.findIdx? (fun e => e.2 == entry) with | some k => l.take (k + 1) | none => l
  (upto.map (fun e =>
    match tableShape (ofKind f 2).length (ofKind f 4).length (f.format == 7) (slice b e.1.offset e.1.len) with
    | .ok (_, w) => w
    | .error _ => 0)).foldl max 0

/-- The R205 part of step 8 of R262. -/
def checkCurves (b : Bytes) (f : SheafFile) : Except (Nat × Nat × Nat) (List Curve) := checkKind b checkCurve (ofKind f 3)

end Sys2Proof.Machine
end

