-- ==== Sys2Proof/Machine/SheafOps.lean ====
section
/-! DEFINITION. Sheaf instances (chapter 09): operands (R271), the action catalogue (R273), how an event runs (R265–R270),
parking (R385), and the end of an instance (R279). -/

namespace Sys2Proof.Machine

/-! ### Instances and bindings -/

/-- The number of an instance: one binding of a strand. -/
def instKey (strand sheaf table : Nat) : Nat := strand * 1024 + sheaf * 16 + table

/-- The bindings of a strand. -/
def bindingsOf (s : State) (i : Nat) : List Binding := tblGet s.bindings i []

/-- The loaded sheaf with a number: one whose stored file cannot be read is not loaded (R259, R285). -/
def sheafOf (s : State) (n : Nat) : Option Sheaf := (tblFind s.sheaves n).filter (fun x => !x.unreadable)

/-- A sheaf whose stored file cannot be read, or fails verification at a start, is unloaded: its curves go, and its file keeps its
place in the store until it is removed (R259, R285), notes/assumptions/52.md (DEDUCED). -/
def unloadSheaf (s : State) (n : Nat) : State :=
  { s with sheaves := tblMap s.sheaves (fun k x => if k == n then { x with unreadable := true } else x)
           curves := tblDrop s.curves (fun _ c => c.origin == n) }

/-- A stored sheaf that could not be read and verifies at a start is loaded again with its curves (R259). -/
def reloadSheaf (s : State) (n : Nat) : State :=
  match tblFind s.sheaves n with
  | none => s
  | some x =>
    if !x.unreadable then s
    else { s with sheaves := tblSet s.sheaves n { x with unreadable := false }
                  curves := x.curveTables.foldl (fun t c => tblSet t c.id c) s.curves }

/-- The breakpoints on a sheaf that another replaces are cleared (Table 13-10). -/
def dropBreakpoints (s : State) (n : Nat) : State :=
  { s with lanyard := { s.lanyard with sheafBps := s.lanyard.sheafBps.filter (fun b => b % 64 != n) } }

/-- The table of a loaded sheaf, unless it is a Series-7 sheaf in Native (R260). -/
def liveTable (s : State) (sheaf table : Nat) : Option (Sheaf × StepTable) :=
  match sheafOf s sheaf with
  | none => none
  | some x =>
    if x.format == 7 && s.scarecrow.compat == 0 then none
    else (x.tables[table]?).map (fun t => (x, t))

/-- The binding of strand `i` whose table takes MSG `m`. -/
def bindingFor (s : State) (i m : Nat) : Option Binding :=
  (bindingsOf s i).find? (fun b =>
    match liveTable s b.sheaf b.table with
    | some (_, t) => t.msgFirst ≤ m && m ≤ t.msgLast
    | none => false)

/-- Change an instance; the pair's copy of its state, cells and timers follows (Table 9-13). -/
def setInstance (s : State) (_i key : Nat) (x : Instance) : State :=
  share { s with instances := tblSet s.instances key x }
    (.inst key x.sheaf x.table (some { state := x.state, cells := x.cells, timers := x.timers }))

/-- Instances that are parked. -/
def parkedCount (s : State) : Nat := (s.instances.filter (fun e => e.2.parked.isSome)).length

/-- The parked instance of a strand. -/
def parkedOn (s : State) (i : Nat) : Option (Nat × Instance) :=
  s.instances.find? (fun e => e.1 / 1024 == i && e.2.parked.isSome)

/-- The jobs of an instance's actions are taken back, and their stones wiped. -/
def dropAsyncJobs (s : State) (key : Nat) : State :=
  (s.jobs.filter (fun b => match b.sheaf with | some (k, _) => k == key | none => false)).foldl
    (fun s b => dropJob (abortStones s b) b) s

/-- An instance ends (Table 9-13): its actions are cancelled and its session slots erased. -/
def endInstance (s : State) (key : Nat) : State :=
  match tblFind s.instances key with
  | none => s
  | some x =>
    let s := dropAsyncJobs s key
    let s := x.slots.foldl (fun s e => eraseIfHeld s e.2) s
    share { s with instances := tblDel s.instances key } (.inst key x.sheaf x.table none)

/-- The instance of a binding that goes away ends: at once, or when its event under way has completed. -/
def retireInstance (s : State) (key : Nat) : State :=
  match tblFind s.instances key with
  | none => s
  | some x =>
    if x.parked.isSome then { s with instances := tblSet s.instances key { x with ended := true } } else endInstance s key

/-! ### Operands (Table 9-6) -/

/-- Where an event runs: strand, sheaf, table, and the tables themselves. -/
structure Env where
  strand : Nat
  sheaf : Nat
  table : Nat
  t : StepTable
  formats : List GFormat
  rules : List RuleSet

/-- The running event: the device, the instance and the event's working memory. -/
structure Run where
  s : State
  inst : Instance
  ev : EventCtx

/-- An operand as a 128-bit integer; `none` is an action fault (R270). -/
def intOf (e : Env) (r : Run) (o : Nat) : Option Nat :=
  match o / 64 with
  | 0 => some (r.inst.cells.getD (o % 16) 0)
  | 1 => (tblFind r.ev.fields (o % 64)).bind (fun f => fieldValue f.enc f.bytes)
  | 2 => some (e.t.consts.getD (o % 64) 0)
  | _ =>
    match o % 64 with
    | 0 => some 0
    | 1 => some r.ev.kind
    | 2 => some r.ev.status
    | 3 => some r.ev.tag
    | 4 => some r.ev.msg
    | 5 => some r.ev.seq
    | 6 => some r.ev.timer
    | 7 => some (strandNo (strandOf r.s e.strand).state)
    | 8 => fieldValue 0 r.ev.build
    | 9 => fieldValue 0 r.ev.payload
    | 10 => some (strandOf r.s e.strand).epoch
    | _ => none

/-- A source operand's bytes. -/
def srcOf (r : Run) (o : Nat) : Option Bytes :=
  if o / 64 == 1 then (tblFind r.ev.fields (o % 64)).map (·.bytes)
  else if o == 0xC8 then some r.ev.build
  else if o == 0xC9 then some r.ev.payload
  else none

/-- Write a cell. -/
def withCell (r : Run) (x v : Nat) : Run :=
  { r with inst := { r.inst with cells := r.inst.cells.set (x % 16) (v % 2 ^ 128) } }

/-- What an action leaves: the run, or an action fault with the value of ABORT. -/
abbrev Act := Except Nat Run

/-- An action fault. -/
abbrev faulted : Act := .error 0

/-- Go on with an operand. -/
def withOp {α : Type} (v : Option α) (k : α → Act) : Act :=
  match v with
  | some x => k x
  | none => faulted

/-- Two integer operands. -/
def withOps (e : Env) (r : Run) (a : SAct) (k : Nat → Nat → Act) : Act :=
  withOp (intOf e r a.y) fun y => withOp (intOf e r a.z) fun z => k y z

/-- X ← a value of Y and Z. -/
def cellOf (e : Env) (r : Run) (a : SAct) (f : Nat → Nat → Nat) : Act := withOps e r a fun y z => .ok (withCell r a.x (f y z))

/-! ### Cells (0x00–0x0F, 0x1C, 0x1D, 0x1F, 0x23) -/

/-- The latest knot of strand `i`: the SEQ it covers up to, and its digest as the braid will have it. -/
def latestKnot (s : State) (i : Nat) : Nat × Bytes :=
  let st := strandOf s i
  let next := fun (h : Nat × Bytes) (r : Release) =>
    let k := { r.knot with prev := if r.knot.kind == kOpen then zeros 32 else h.2
                           flags := r.knot.flags + (if s.twin then 0 else 1) }
    (knotCover k, sha3 (knotBytes k))
  let head := match st.building with
    | some r => (knotCover r.knot, sha3 (knotBytes r.knot))
    | none => (st.headSeq, st.head)
  st.todo.foldl next head

/-- STRAND_INFO. -/
def strandInfo (s : State) (i : Nat) (what : Nat) : Option Nat :=
  let st := strandOf s i
  match what with
  | 0 => some (strandNo st.state)
  | 1 => some st.epoch
  | 2 => some st.next
  | 3 => some st.cfg.ingress
  | 4 => some (latestKnot s i).1
  | _ => none

/-- The actions on cells. -/
def cellAction (e : Env) (r : Run) (a : SAct) : Act :=
  match a.op with
  | 0x00 => .ok r
  | 0x01 => withOp (intOf e r a.y) fun y => .ok (withCell r a.x y)
  | 0x02 => cellOf e r a fun y z => y + z
  | 0x03 => cellOf e r a fun y z => y + 2 ^ 128 - z
  | 0x04 => cellOf e r a fun y z => y &&& z
  | 0x05 => cellOf e r a fun y z => y ||| z
  | 0x06 => cellOf e r a fun y z => y ^^^ z
  | 0x07 => cellOf e r a fun y z => y * 2 ^ (z % 128)
  | 0x08 => cellOf e r a fun y z => y / 2 ^ (z % 128)
  | 0x09 => .ok (withCell r a.x (a.y + 256 * a.z))
  | 0x0A => withOp (srcOf r a.y) fun y => withOp (srcOf r a.z) fun z => .ok (withCell r a.x (ofBool (y == z)))
  | 0x0B => withOp (srcOf r a.y) fun y => .ok (withCell r a.x y.length)
  | 0x0C => withOp (srcOf r a.y) fun y => withOp (intOf e r a.z) fun z => .ok (withCell r a.x (rd y z 16))
  | 0x0D => cellOf e r a fun y z => min y z
  | 0x0E => cellOf e r a fun y z => max y z
  | 0x0F => withOps e r a fun y z => .ok (if z == 0 then r else withCell r a.x y)
  | 0x1C => .ok (withCell r a.x r.s.now)
  | 0x1D => withOp (strandInfo r.s e.strand a.y) fun v => .ok (withCell r a.x v)
  | 0x1F => .ok { r with inst := { r.inst with cells := List.replicate 16 0 } }
  | _ => .ok { withCell r a.x (ofLe (randomBytes r.s 16)) with s := draw r.s }

/-! ### Fields and the build area (0x10–0x17) -/

/-- Append to the build area of 8,192 bytes. -/
def append (r : Run) (b : Bytes) : Act :=
  if 8192 < r.ev.build.length + b.length then faulted
  else .ok { r with ev := { r.ev with build := r.ev.build ++ b } }

/-- Set a field. -/
def withField (r : Run) (x : Nat) (b : Bytes) : Act :=
  if 63 < x then faulted
  else .ok { r with ev := { r.ev with fields := tblSet r.ev.fields x { enc := 0, bytes := b } } }

/-- PUT_LE and PUT_BE. -/
def put (e : Env) (r : Run) (a : SAct) (big : Bool) : Act :=
  withOp (intOf e r a.z) fun z =>
    if a.y == 0 || 16 < a.y then faulted else append r (if big then be a.y z else le a.y z)

/-- The actions on fields and the build area. FIELD_SUB takes the bytes that exist, notes/assumptions/35.md. -/
def buildAction (e : Env) (r : Run) (a : SAct) : Act :=
  match a.op with
  | 0x10 =>
    withOp (srcOf r a.y) fun y => withOp e.formats[a.z]? fun f =>
      let g := glean f y
      let kept := tblDrop r.ev.fields (fun k _ => k < 60)
      .ok (withCell { r with ev := { r.ev with fields := g.2.foldl (fun t x => tblSet t x.1 x.2) kept } } a.x g.1)
  | 0x11 =>
    withOp (srcOf r a.y) fun y => withOp (intOf e r a.z) fun z => withField r a.x (slice y (z % 2 ^ 32) (bits z 63 32))
  | 0x12 =>
    if a.x == 0xFF then .ok { r with ev := { r.ev with fields := [] } }
    else if 63 < a.x then faulted
    else .ok { r with ev := { r.ev with fields := tblDel r.ev.fields a.x } }
  | 0x13 => withField r a.x r.ev.build
  | 0x14 => .ok { r with ev := { r.ev with build := [] } }
  | 0x15 => put e r a false
  | 0x16 => put e r a true
  | _ => withOp (srcOf r a.y) fun y => append r y

/-! ### Frames, notes and timers (0x18–0x1B, 0x1E, 0x2D) -/

/-- The actions that reach the strand, the Ledger and the timers. -/
def outAction (e : Env) (r : Run) (a : SAct) : Act :=
  match a.op with
  | 0x18 =>
    withOp (intOf e r a.y) fun m =>
      if m < e.t.msgFirst || e.t.msgLast < m then faulted else .ok { r with s := sendMsg r.s e.strand m r.ev.build }
  | 0x19 =>
    withOp (intOf e r a.y) fun v =>
      .ok { r with s := ledger r.s 0xF007 3 0xFF 0 0 0 (le 16 v ++ le 1 e.sheaf ++ le 1 e.table ++ le 1 r.inst.state) }
  | 0x1A =>
    withOp (intOf e r a.z) fun z =>
      if 3 < a.y || z == 0 || 600000 < z then faulted
      else .ok { r with inst := { r.inst with timers := tblSet r.inst.timers a.y (r.s.now + 1000 * z) } }
  | 0x1B => if 3 < a.y then faulted else .ok { r with inst := { r.inst with timers := tblDel r.inst.timers a.y } }
  | 0x1E => .ok { r with s := sendMsg r.s e.strand 0x0007 [] }
  | _ => withOp (intOf e r a.y) fun v => .error v

/-! ### Counters and session slots (0x24–0x27) -/

/-- A counter that sheaf actions may read: a device counter, or a client counter with SHEAF set (R514). -/
def sheafCounter (s : State) (id : Nat) : Bool :=
  let c := counterOf s id
  id < 0x80000 && !c.damaged && (deviceCounter id || (c.allocated && bit c.attr 1))

/-- The free general symmetric slot an instance's session slot takes (R274). -/
def sessionSlot (s : State) (x : Instance) (n : Nat) : Option Nat :=
  match tblFind x.slots n with
  | some i => some i
  | none => scanFrom (emptySlot s) 49152 0

/-- The actions on counters and session slots. -/
def storeAction (e : Env) (r : Run) (a : SAct) : Act :=
  match a.op with
  | 0x24 =>
    withOp (intOf e r a.y) fun id =>
      if sheafCounter r.s id then .ok (withCell r a.x (counterValue r.s id)) else faulted
  | 0x25 =>
    withOp (intOf e r a.y) fun id =>
      if !sheafCounter r.s id || deviceCounter id then faulted
      else
        let c := counterOf r.s id
        let v := advanced c.value 1
        if v == counterTop then faulted
        else .ok (withCell { r with s := setCounter (rememberAcked r.s id c.value) id { c with value := v } } a.x v)
  | 0x26 =>
    withOp (srcOf r a.y) fun y => withOp (intOf e r a.z) fun z =>
      if 1 < a.x then faulted
      else withOp (sessionSlot r.s r.inst a.x) fun i =>
        let k : KeySlot := { session := true, cls := clsGeneral, type := 1, set := 256, attr := 0x203
                             material := shake256 32 (le 16 z ++ y) }
        .ok { r with s := storeKey r.s i k, inst := { r.inst with slots := tblSet r.inst.slots a.x i } }
  | _ =>
    if 1 < a.x then faulted
    else match tblFind r.inst.slots a.x with
      | none => .ok r
      | some i => .ok { r with s := eraseIfHeld r.s i, inst := { r.inst with slots := tblDel r.inst.slots a.x } }

/-! ### Verdicts (0x28–0x2B) -/

/-- Status of check `k` of an open verdict; NOT_RUN until set. -/
def checkStatus (v : SheafVerdict) (k : Nat) : Nat := tblGet v.statuses k 0

/-- RESULT (R277): FAIL is 2, INDETERMINATE 4, NOT_RUN 0. A check that is INDETERMINATE counts whether or not a row of the rule
set names it. -/
def sheafResult (rs : RuleSet) (v : SheafVerdict) : Nat :=
  if rs.rows.any (fun w => checkStatus v w.check == 2 && w.onFail == 2) then 2
  else if v.statuses.any (fun e => e.2 == 4) || rs.rows.any (fun w =>
      (checkStatus v w.check == 2 && w.onFail == 3) || (w.required && checkStatus v w.check == 0)) then 3
  else 1

/-- Sixteen bytes of status nibbles. -/
def nibbles (n : Nat) (f : Nat → Nat) : Bytes := (List.range n).map (fun k => byte (f (2 * k) + 16 * f (2 * k + 1)))

/-- The record of a sheaf verdict (Table 9-12). -/
def sheafRecord (s : State) (e : Env) (v : SheafVerdict) (rs : RuleSet) (no : Nat) : Bytes :=
  let st := strandOf s e.strand
  let last := latestKnot s e.strand
  let id := ((sheafOf s e.sheaf).map (·.digest)).getD (zeros 32)
  le 1 2 ++ le 1 (sheafResult rs v) ++ le 2 (1 + (if rs.hybrid then 4 else 0)) ++ le 2 e.strand ++ le 1 v.rules ++ zeros 1 ++
  le 8 no ++ le 8 s.ident.serial ++ le 8 s.now ++ fit 32 id ++ nibbles 16 (checkStatus v) ++
  (List.range 32).map (fun k => byte (tblGet v.subcodes k 0)) ++ le 8 v.firstSeq ++ le 8 last.1 ++ fit 32 last.2 ++
  le 4 st.epoch ++ le 2 v.data.length ++ le 2 (if rs.hybrid then 2 else 1) ++
  kidOf s (signKey s s.verdictKeys.ecdsa) ++ (if rs.hybrid then kidOf s (signKey s s.verdictKeys.mldsa) else zeros 8) ++
  fit 328 v.data

/-- Why VERDICT_EMIT cannot sign. Verdict keys that are not there, as after a level-4 purge, come before Freeze (Table 9-13). -/
def emitRefused (s : State) (hybrid : Bool) : Option Nat :=
  if hybrid && s.ident.optionN then some eState
  else if !verdictKeysHeld s || (hybrid && (ownKey s s.verdictKeys.mldsa).isNone) then some eKeyAbsent
  else if !verdictKeysSet s || (hybrid && (signKey s s.verdictKeys.mldsa).isNone) then some eDenied
  else if frozen s then some eFrozen
  else none

/-- A further asynchronous action; a fifth outstanding is a fault (R270). -/
def addAsync (r : Run) (a : Async) (k : Run → Act) : Act :=
  if 4 ≤ r.inst.asyncs.length then faulted else k { r with inst := { r.inst with asyncs := r.inst.asyncs ++ [a] } }

/-- PASS among the check statuses (Table 8-6); a subcode is 0 with it, else 1 to 8 (Table 8-9). -/
abbrev ckPassed : Nat := 1

/-- The verdict actions. -/
def verdictAction (e : Env) (r : Run) (a : SAct) : Act :=
  if a.op == 0x28 then
    .ok { r with inst := { r.inst with verdict := some { rules := a.y, firstSeq := if r.ev.kind == 1 then r.ev.seq else 0 } } }
  else withOp r.inst.verdict fun v =>
    match a.op with
    | 0x29 =>
      if 31 < a.x || 5 < a.y || 8 < a.z || (a.y == ckPassed) != (a.z == 0) then faulted
      else
        let v := { v with statuses := tblSet v.statuses a.x a.y, subcodes := tblSet v.subcodes a.x a.z }
        .ok { r with inst := { r.inst with verdict := some v } }
    | 0x2A =>
      withOp (srcOf r a.y) fun y =>
        if 328 < v.data.length + y.length then faulted
        else .ok { r with inst := { r.inst with verdict := some { v with data := v.data ++ y } } }
    | _ =>
      withOp e.rules[v.rules]? fun rs =>
        match emitRefused r.s rs.hybrid with
        | some st =>
          addAsync r { tag := a.x, done := some (st, []) } fun r => .ok { r with inst := { r.inst with verdict := none } }
        | none =>
          match takeVerdictNo r.s with
          | (.error (st, _), s) =>
            addAsync r { tag := a.x, done := some (st, []) } fun r => .ok { r with s, inst := { r.inst with verdict := none } }
          | (.ok no, s) =>
            let x : ToSign := { record := sheafRecord s e v rs no, hybrid := rs.hybrid, ecdsa := s.verdictKeys.ecdsa, mldsa := s.verdictKeys.mldsa }
            addAsync r { tag := a.x, verdict := some x } fun r =>
              .ok { r with s, inst := { r.inst with verdict := none } }

/-- The signatures of a verdict record (R252), which the Mill has made. -/
def verdictSignatures (s : State) (w : OwnWork) (record : Bytes) (hybrid : Bool) : Bytes × State :=
  ownSignatures s w (ascii "OPM-VERDICT" ++ record) hybrid

/-- Deliver a sheaf verdict with the signatures that the Mill has made with the keys it loaded: the DONE payload (R277, R252).
A key that a purge has taken since VERDICT_EMIT gives E_KEY_GONE (Table 9-13). -/
def deliverVerdict (s : State) (b : Binding) (w : OwnWork) (x : ToSign) : Bytes × State :=
  let (sigs, s) := verdictSignatures s w x.record x.hybrid
  let out := x.record ++ sigs
  let ev : Event := { type := 0x0020, record := out, inline := slice x.record 4 2 ++ slice x.record 1 1 ++ zeros 1 ++ slice x.record 8 8 }
  (out, postEvent (ownEnds s w) b.client b.ring ev)

/-! ### Asynchronous jobs (0x20–0x22, 0x2C) -/

/-- The handle of a parameter word; an instance's session slots have names of their own, and no other handle names one (R274). Handle
0 names no slot. -/
def sheafHandle (s : State) (x : Instance) (h : Nat) : Except Nat Nat :=
  if h == 0xFFFFFFF0 || h == 0xFFFFFFF1 then
    match tblFind x.slots (h - 0xFFFFFFF0) with
    | some i => .ok (handle clsGeneral (genOf s i) i)
    | none => .error eKeyAbsent
  else if h != 0 && ((tblFind s.keys (hIndex h)).map (·.session)) == some true then .error eDenied
  else .ok h

/-- The engine of an opcode that a parameter word may hold (Table 9-10). -/
def asyncEngine (mill : Bool) (op : Nat) : Option Engine :=
  (engineOf op).filter (fun g => g == (if mill then .mill else .thresher))

/-- Submit the job of an asynchronous action with priority 2 (R274). -/
def submitAsync (e : Env) (r : Run) (tag op : Nat) (engine : Engine) (key aad : Nat) (param src : Bytes) : Act :=
  let n := src.length
  let desc : Desc := { flags := 3, key, totalLen := n, aadLen := aad, param := fit 16 param, srcCount := ofBool (n != 0)
                       dstCount := 1 }
  let req : JobReq := { fn := sheafClient, ring := 0, desc, src := if n == 0 then [] else [{ addr := 0, len := n }]
                        dst := [{ addr := 0, len := 2 ^ 31 }], data := src }
  let id := r.s.jobNo
  let ik := instKey e.strand e.sheaf e.table
  let b : Job := { id, opcode := op, engine, req, priority := 2, queue := 2, since := r.s.now, turn := r.s.turnNo, sheaf := some (ik, tag)
                   floor := portFloor (ingressOf (strandOf r.s e.strand)) }
  addAsync r { tag, job := some id } fun r =>
    let s := { r.s with jobs := r.s.jobs ++ [b], jobNo := id + 1, turnNo := r.s.turnNo + 1, instances := tblSet r.s.instances ik r.inst }
    let s := startJobs s
    .ok { r with s, inst := { r.inst with asyncs := (tblGet s.instances ik r.inst).asyncs } }

/-- MILL and CIPHER from their parameter word (Table 9-10). CIPHER reads F63, which must be set (R270). -/
def wordJob (e : Env) (r : Run) (a : SAct) : Act :=
  let mill := a.op == 0x21
  let f63 := (tblFind r.ev.fields 63).map (·.bytes)
  if !mill && f63.isNone then faulted else
  withOp (intOf e r a.y) fun w => withOp (srcOf r a.z) fun src =>
    let p := le 16 w
    let op := rd p 0 2
    let fail := fun st => addAsync r { tag := a.x, done := some (st, []) } fun r => .ok r
    match asyncEngine mill op with
    | none => fail eCode
    | some engine =>
      if !allZero (if mill then slice p 6 2 else slice p 4 4 ++ slice p 12 4) then fail eFormat
      else match sheafHandle r.s r.inst (rd p 8 4) with
        | .error st => fail st
        | .ok h =>
          if mill then submitAsync e r a.x op engine h 0 (slice p 2 4 ++ slice p 12 4) src
          else submitAsync e r a.x op engine h (rd p 2 2) (fit 16 (f63.getD [])) src

/-- CANCEL: the action with the tag completes at once with E_STATE. -/
def cancel (r : Run) (tag : Nat) : Run :=
  match r.inst.asyncs.find? (fun a => a.tag == tag && a.done.isNone) with
  | none => r
  | some a =>
    let s := match a.job.bind (jobOf r.s) with
      | some b => dropJob (abortStones r.s b) b
      | none => r.s
    let l := r.inst.asyncs.map (fun x => if x == a then { tag, done := some (eState, []) } else x)
    { r with s, inst := { r.inst with asyncs := l } }

/-- The asynchronous actions. -/
def asyncAction (e : Env) (r : Run) (a : SAct) : Act :=
  match a.op with
  | 0x20 =>
    withOp (srcOf r a.y) fun y =>
      if a.z == 1 || digestLen a.z == 0 then faulted else submitAsync e r a.x 0x0301 .flail 0 0 (le 1 a.z) y
  | 0x2C => .ok (cancel r a.x)
  | _ => wordJob e r a

/-! ### An event (R266–R270) -/

/-- Run one action. -/
def act (e : Env) (r : Run) (a : SAct) : Act :=
  if a.op ≤ 0x0F || a.op == 0x1C || a.op == 0x1D || a.op == 0x1F || a.op == 0x23 then cellAction e r a
  else if a.op ≤ 0x17 then buildAction e r a
  else if a.op ≤ 0x1E || a.op == 0x2D then outAction e r a
  else if 0x24 ≤ a.op && a.op ≤ 0x27 then storeAction e r a
  else if 0x28 ≤ a.op && a.op ≤ 0x2B then verdictAction e r a
  else asyncAction e r a

/-- How an event leaves off: at a waiting state; with an action fault in a state at an action index with a value; or
parked. -/
inductive RunEnd where
  | ended (r : Run) (steps : Nat)
  | faultedAt (r : Run) (state act value steps : Nat)
  | parkedAt (r : Run) (p : Parked)

/-- A COUNTER_ADVANCE that would take its counter to the top sets it there, though it is an action fault (R300). -/
def storeTop (e : Env) (r : Run) (a : SAct) : Run :=
  match a.op, intOf e r a.y with
  | 0x25, some id =>
    let c := counterOf r.s id
    if sheafCounter r.s id && !deviceCounter id && advanced c.value 1 == counterTop then
      { r with s := setCounter (rememberAcked r.s id c.value) id { c with value := counterTop } }
    else r
  | _, _ => r

/-- Run the actions of a transition from index `k`: the run, or the index and value of a fault with the run it leaves. -/
def actList (e : Env) : Nat → List SAct → Run → Except (Nat × Nat × Run) Run
  | _, [], r => .ok r
  | k, a :: l, r =>
    match act e r a with
    | .ok r => actList e (k + 1) l r
    | .error v => .error (k, v, storeTop e r a)

/-- The guard of a transition; `none` is an action fault. -/
def guardOf (e : Env) (r : Run) (x : STrans) : Option Bool :=
  if x.guard == 0 then some true
  else
    match intOf e r x.a, intOf e r x.b with
    | some a, some b =>
      some (match x.guard with
        | 1 => a == b
        | 2 => a != b
        | 3 => a < b
        | 4 => b ≤ a
        | _ => a &&& b == b)
    | _, _ => none

/-- The transition matches the event, and as a loop has firings left (R266, R267). -/
def candidate (e : Env) (r : Run) (u : Nat) (loops : Tbl Nat) (k : Nat) (x : STrans) : Bool :=
  (if transient e.t u then x.event == 0 else x.event == r.ev.kind || x.event == 0xFF) &&
  (!isLoop e.t u x || tblGet loops k 0 < x.loopMax)

/-- The first transition that fires: `error` is a fault in a guard, `ok none` that none fires. -/
def firstFiring (e : Env) (r : Run) (u : Nat) (loops : Tbl Nat) :
    List (Nat × STrans) → Except Unit (Option (Nat × STrans))
  | [] => .ok none
  | (k, x) :: l =>
    if !candidate e r u loops k x then firstFiring e r u loops l
    else match guardOf e r x with
      | none => .error ()
      | some true => .ok (some (k, x))
      | some false => firstFiring e r u loops l

/-- A sheaf breakpoint as BP_SET names it (Table 13-8). -/
def bpAddr (sheaf table trans : Nat) : Nat := sheaf + 64 * table + 1024 * trans

/-- The instance stops before transition `k`: STEP or HALT asks for it, or a breakpoint stands there (R385). -/
def wantsPark (e : Env) (r : Run) (stepping : Bool) (k : Nat) : Bool :=
  stepping || r.inst.halt || r.s.lanyard.sheafBps.contains (bpAddr e.sheaf e.table k)

/-- Count a breakpoint that is reached; one reached while 4 instances are parked is ignored (R385). -/
def countPark (s : State) (ignored : Bool) : State :=
  let l := s.lanyard
  { s with lanyard := if ignored then { l with parkedIgnored := sat32 (l.parkedIgnored + 1) }
                      else { l with bpHits := sat32 (l.bpHits + 1) } }

/-- The event from state `u`: scan, fire, and go on while the state is transient. A guard whose operand cannot be read ends the event
as an action fault with the action index 0xFFFF, notes/assumptions/44.md (DESIGN CHOICE: R270 speaks of actions only). `bound` is the fuel (R268); `chosen` is
a transition that was parked and now fires. -/
def runFrom (e : Env) (before : Core) : Nat → Run → Tbl Nat → Nat → Bool → Option (Nat × STrans) → RunEnd
  | 0, r, _, steps, _, _ => .ended r steps
  | fuel + 1, r, loops, steps, stepping, chosen =>
    let u := r.inst.state
    let pick : Except Unit (Option (Nat × STrans)) := match chosen with
      | some c => .ok (some c)
      | none => firstFiring e r u loops (transOf e.t u)
    match pick with
    | .error _ => .faultedAt r u 0xFFFF 0 steps
    | .ok none => .ended { r with inst := { r.inst with unhandled := r.inst.unhandled + 1 } } steps
    | .ok (some (k, x)) =>
      let want := chosen.isNone && wantsPark e r stepping k
      let full := 4 ≤ parkedCount r.s
      let r := if want then { r with s := countPark r.s full } else r
      if want && !full then
        .parkedAt { r with inst := { r.inst with halt := false } }
          { ev := r.ev, trans := k, loops, steps, before, table := e.t, formats := e.formats, rules := e.rules }
      else
        match actList e x.firstAct ((e.t.acts.drop x.firstAct).take x.nact) r with
        | .error (i, v, r) => .faultedAt r u i v (steps + 1)
        | .ok r =>
          let r := { r with inst := { r.inst with state := x.target } }
          let loops := if x.target == u then tblSet loops k (tblGet loops k 0 + 1) else []
          let steps := steps + cost x
          if transient e.t x.target then runFrom e before fuel r loops steps stepping none else .ended r steps

/-- A trace entry of an event that has ended (Table 13-8); 4,096 are kept. -/
def traceEvent (s : State) (e : Env) (kind state steps : Nat) : State :=
  let l := s.lanyard.trace ++ [[e.strand, kind, e.sheaf, e.table, state, steps, s.now % 2 ^ 32, s.now / 2 ^ 32]]
  { s with lanyard := { s.lanyard with trace := l.drop (l.length - 4096) } }

/-- Store what an event leaves: a fault restores state, cells and timers, is counted and goes to the Ledger (R270). -/
def settleEvent (e : Env) (before : Core) (o : RunEnd) : State :=
  let key := instKey e.strand e.sheaf e.table
  let close := fun (s : State) (x : Instance) => if x.ended then endInstance s key else s
  match o with
  | .ended r n =>
    let served := (chooseHand r.s).map (fun h => (h, r.s.now, before))
    close (traceEvent (setInstance r.s e.strand key { r.inst with parked := none, served }) e r.ev.kind r.inst.state n) r.inst
  | .faultedAt r u i v n =>
    let x := { r.inst with state := before.state, cells := before.cells, timers := before.timers
                           faults := r.inst.faults + 1, parked := none }
    let s := setInstance r.s e.strand key x
    let s := ledger s 0xF008 3 0xFF 0 0 0 (le 1 e.sheaf ++ le 1 e.table ++ le 1 u ++ zeros 1 ++ le 2 i ++ zeros 2 ++ le 16 v)
    close (traceEvent s e r.ev.kind before.state n) x
  | .parkedAt r p => setInstance r.s e.strand key { r.inst with parked := some p }

/-- A mismatch in Hand `h` makes an action fault of the event that it was serving, the one of this instant: state, cells and timers
return, and the fault goes to the Ledger (R479). -/
def faultServed (h : Nat) (s : State) (e : Nat × Instance) : State :=
  match e.2.served with
  | some (g, t, c) =>
    if g == h && t == s.now then
      let x := { e.2 with state := c.state, cells := c.cells, timers := c.timers, faults := e.2.faults + 1, served := none }
      ledger (setInstance s (e.1 / 1024) e.1 x) 0xF008 3 0xFF 0 0 0 (le 1 x.sheaf ++ le 1 x.table ++ le 1 c.state ++ zeros 5 ++ zeros 16)
    else s
  | none => s

/-- The tables of a binding as an event finds them. -/
def envOf (s : State) (i sheaf table : Nat) : Option Env :=
  (liveTable s sheaf table).map (fun p =>
    { strand := i, sheaf, table, t := p.2, formats := p.1.formats, rules := p.1.rules })

/-- What a fault in an event of this instance restores. -/
def coreOf (x : Instance) : Core := { state := x.state, cells := x.cells, timers := x.timers }

/-- Run an event of an instance that exists. -/
def runEvent (s : State) (e : Env) (ev : EventCtx) : State :=
  let key := instKey e.strand e.sheaf e.table
  match tblFind s.instances key with
  | none => s
  | some x => settleEvent e (coreOf x) (runFrom e (coreOf x) (e.t.bound + 1) { s, inst := x, ev } [] 0 false none)

/-- Let an event wait behind the parked one of its strand (R385). -/
def queueEvent (s : State) (at_ : Nat × Instance) (key : Nat) (ev : EventCtx) : State :=
  { s with instances := tblSet s.instances at_.1 { at_.2 with waiting := at_.2.waiting ++ [(key, ev)] } }

/-- Deliver an event to the instance of a binding (R265): a new instance gets START first, and while an instance of the
strand is parked its events wait. -/
def deliver (s : State) (i sheaf table : Nat) (ev : EventCtx) : State :=
  let key := instKey i sheaf table
  match envOf s i sheaf table with
  | none => s
  | some e =>
    match parkedOn s i with
    | some p => queueEvent s p key ev
    | none =>
      let s := if tblHas s.instances key then s
        else
          let x : Instance := { sheaf, table, state := e.t.initial, cells := List.replicate 16 0 }
          runEvent (setInstance s i key x) e { kind := 5 }
      match parkedOn s i with
      | some p => queueEvent s p key ev
      | none => runEvent s e ev

/-- A parked event goes on: with `stepping` it stops again before the next transition (R385). -/
def unpark (s : State) (key : Nat) (stepping : Bool) : State :=
  match tblFind s.instances key with
  | none => s
  | some x =>
    match x.parked with
    | none => s
    | some p =>
      let i := key / 1024
      let e : Env := { strand := i, sheaf := x.sheaf, table := x.table, t := p.table, formats := p.formats, rules := p.rules }
      let wait := x.waiting
      let x := { x with parked := none, waiting := [] }
      let s := { s with instances := tblSet s.instances key x }
      let chosen := (p.table.trans[p.trans]?).map (fun t => (p.trans, t))
      let o := runFrom e p.before (p.table.bound + 1) { s, inst := x, ev := p.ev } p.loops p.steps stepping chosen
      let s := settleEvent e p.before o
      let s := match o, tblFind s.instances key with
        | .parkedAt _ _, some y => { s with instances := tblSet s.instances key { y with waiting := wait } }
        | _, some y => if stepping then { s with instances := tblSet s.instances key { y with halt := true } } else s
        | _, none => s
      match parkedOn s i with
      | some _ => s
      | none => wait.foldl (fun s w => deliver s i (w.1 % 1024 / 16) (w.1 % 16) w.2) s

/-! ### Strand events (Table 9-5) -/

/-- The event of a strand change or a RESUME. -/
def strandEvent (c : CtrlEvent) : Option EventCtx :=
  match c with
  | .strandChange old new reason => some { kind := 4, payload := le 1 old ++ le 1 new ++ le 2 reason }
  | .resume seq => some { kind := 6, payload := le 8 seq }
  | .unkeyed _ _ _ => none

/-- Deliver the strand events of strand `i` that have arisen, in order, once its Hand has finished the event before (R21). -/
def drainStrandEvents (s : State) (i : Nat) : State :=
  let st := strandOf s i
  if st.chip.any (·.asks.isSome) then s else
  let evs := st.ctrl.filterMap strandEvent
  let s := setStrand s i { st with ctrl := st.ctrl.filter (fun c => (strandEvent c).isNone) }
  evs.foldl (fun s ev => (bindingsOf s i).foldl (fun s b => deliver s i b.sheaf b.table ev) s) s

/-- Events wait during an activation pause (Table 9-13). -/
def sheafPaused (s : State) : Bool := match s.update.activation with | .pause _ _ _ => true | _ => false

/-- Deliver the strand events of every strand. -/
def drainSheafEvents (s : State) : State :=
  if sheafPaused s then s
  else (s.strands.filter (fun e => e.2.ctrl.any (fun c => (strandEvent c).isSome))).foldl
    (fun s e => drainStrandEvents s e.1) s

/-- Every instance ends without events, as a level-5 purge and a start give (Table 9-13, R140). -/
def endInstances (s : State) : State := (tblKeys s.instances).foldl endInstance s

/-- The VERDICT_EMIT actions, of the instance and with the tag, that `p` holds of end with a status. -/
def endEmits (s : State) (p : Nat → Nat → Bool) (status : Nat) : State :=
  let f := fun key (a : Async) =>
    if a.verdict.isSome && a.done.isNone && p key a.tag then { a with verdict := none, done := some (status, []) } else a
  { s with instances := tblMap s.instances (fun key x => { x with asyncs := x.asyncs.map (f key) }) }

/-- A level-4 purge takes the verdict keys: VERDICT_EMIT completes with E_KEY_GONE (Table 9-13). -/
def purgeVerdicts (s : State) : State := endEmits s (fun _ _ => true) eKeyGone

/-- At Freeze a VERDICT_EMIT whose signing has not started completes with E_FROZEN (R279). -/
def freezeEmits (s : State) : State :=
  endEmits s (fun key tag => (ownJobs s (.action key tag)).all (fun b => b.stage == .queued)) eFrozen

/-- The stone that was to sign the verdict of an action has found its key gone (R202). -/
def actionKeyGone (s : State) (key tag status : Nat) : State := endEmits s (fun k t => k == key && t == tag) status

end Sys2Proof.Machine
end

