-- ==== Sys2Proof/Machine/DocOps.lean ====
section
/-! DEFINITION. Document verification (chapter 08): the checks of Table 8-6 and the verdict record of Table 8-8, its
signature (R252), chip sessions (R245–R249), and the trust store (R230–R237). -/

namespace Sys2Proof.Machine

/-- Check statuses (Table 8-6). -/
abbrev ckNotRun : Nat := 0
/-- PASS. -/
abbrev ckPass : Nat := 1
/-- FAIL. -/
abbrev ckFail : Nat := 2
/-- NOT_APPLICABLE. -/
abbrev ckNotApplicable : Nat := 3
/-- INDETERMINATE. -/
abbrev ckIndeterminate : Nat := 4
/-- WARN. -/
abbrev ckWarn : Nat := 5

/-- A check's status and subcode (Table 8-9). -/
abbrev Check := Nat × Nat

/-! ### The trust store -/

/-- A policy. -/
def policyOf (s : State) (n : Nat) : Policy := tblGet s.policies n {}

/-- The stored CSCA certificates. -/
def cscas (s : State) : List (Nat × Bytes × CertInfo × Bool) :=
  s.trust.filterMap (fun e => match e.2 with
    | .csca der info link => some (e.1, der, info, link)
    | _ => none)

/-- The CRL of a stored CSCA: its bytes, thisUpdate, nextUpdate and serials. -/
def crlOf (s : State) (csca : Nat) : Option (Nat × Bytes × Nat × Nat × List Bytes) :=
  s.trust.findSome? (fun e => match e.2 with
    | .crl issuer der _ start stop serials => if issuer == csca then some (e.1, der, start, stop, serials) else none
    | _ => none)

/-- Change the trust store; the pair's copy follows (Table 14-6). -/
def setTrust (s : State) (id : Nat) (e : Option TrustEntry) : State :=
  share { s with trust := match e with | some v => tblSet s.trust id v | none => tblDel s.trust id } (.trust id e)

/-- A certificate's, list's or CRL's signature verifies: algorithm (1 ECDSA, 2 RSA PKCS#1 v1.5, 3 PSS), hash by ALG, the key, the bytes
signed. -/
def certVerifies (alg hash : Nat) (pub tbs sig : Bytes) : Bool := Config.verify (0x0600 + alg) (le 2 hash) pub tbs sig

/-- The hashes of Passive Authentication (Table 8-1): SHA-1 to SHA-512. -/
def hashListed (n : Nat) : Bool := 1 ≤ n && n ≤ 5

/-- A signature algorithm, hash and key of Passive Authentication (Table 8-1): ECDSA on a present Weierstrass curve, RSA from 1,024 to
8,192 bits. -/
def sigListed (s : State) (alg hash : Nat) (k : CertInfo) : Bool :=
  hashListed hash &&
  ((alg == 1 && (curveOf s k.curve).any (·.form == 1)) || ((alg == 2 || alg == 3) && 1024 ≤ k.keyBits && k.keyBits ≤ 8192))

/-- The exclusive end of an X.509 window (R308): notAfter + 1 s, and no end for 99991231235959Z. -/
def certEnd (c : CertInfo) : Nat := if c.notAfter == 253402300799000000 then 2 ^ 64 - 1 else c.notAfter + 1000000

/-- An instant lies in a certificate's window. -/
def inWindow (now : Nat) (c : CertInfo) : Bool := c.notBefore ≤ now && now < certEnd c

/-- The window of a CV certificate (R239): from its effective date to the day after its expiration date. -/
def cvWindow (c : CvCert) : Option (Nat × Nat) :=
  match dayOf (c.effective.map (·.toNat)), dayOf (c.expires.map (·.toNat)) with
  | some a, some b => some (dayStart a, dayStart (b + 1))
  | _, _ => none

/-- The end of a document's window (R239): 00:00:00 UTC of the day after the expiry in DG1. -/
def docEnd (i : Dg1Info) : Option Nat :=
  if allDigits i.expiry then (dayOf (digitsOf i.expiry)).map (fun d => dayStart (d + 1)) else none

/-! ### The checks (R241, R243) -/

/-- What a verification works on. `aa` is the offline evidence: challenge and signature. -/
structure Document where
  policyNo : Nat
  policy : Policy
  sod : Bytes
  dgs : List (Nat × Bytes)
  aa : Option (Bytes × Bytes) := none

/-- The trust part of a verification: DS certificate, whether it was cached, its CSCA. -/
structure Chain where
  der : Bytes := []
  ds : Option CertInfo := none
  cached : Bool := false
  csca : Option (Nat × Bytes × CertInfo) := none
  check : Check := (ckNotRun, 0)

/-- The DS certificate: in the SOD, or in the cache by issuer and serial (DS_CHAIN of Table 8-6). -/
def dsOf (s : State) (i : SodInfo) : Option (Bytes × CertInfo) :=
  if !i.dsDer.isEmpty then (readCert i.dsDer).map (fun c => (i.dsDer, c))
  else (s.dsCache.find? (fun e => e.info.issuer == i.issuer && e.info.serial == i.serial)).map (fun e => ([], e.info))

/-- SHA3-256 of the DS certificate. -/
def dsDigest (s : State) (i : SodInfo) : Bytes :=
  if !i.dsDer.isEmpty then sha3 i.dsDer
  else ((s.dsCache.find? (fun e => e.info.issuer == i.issuer && e.info.serial == i.serial)).map (·.digest)).getD (zeros 32)

/-- The CSCA that issued a certificate, by name and authority key identifier. -/
def issuerOf (s : State) (c : CertInfo) : Option (Nat × Bytes × CertInfo × Bool) :=
  (cscas s).find? (fun e => e.2.2.1.subject == c.issuer && e.2.2.1.ski == c.aki)

/-- DS_CHAIN. -/
def chainOfDs (s : State) (i : SodInfo) : Chain :=
  match dsOf s i with
  | none => { check := (ckFail, 4) }
  | some (der, c) =>
    let c0 : Chain := { der, ds := some c }
    match s.dsCache.find? (fun e => e.digest == dsDigest s i) with
    | some e =>
      { c0 with cached := true, check := (ckPass, 0)
                csca := ((cscas s).find? (fun x => x.1 == e.csca)).map (fun x => (x.1, x.2.1, x.2.2.1)) }
    | none =>
      match issuerOf s c with
      | none => { c0 with check := (ckFail, 4) }
      | some (id, cder, ci, _) =>
        let c0 := { c0 with csca := some (id, cder, ci) }
        if !sigListed s c.sigAlg c.sigHash ci then { c0 with check := (ckIndeterminate, 2) }
        else if certVerifies c.sigAlg c.sigHash ci.pub c.tbs c.sig then { c0 with check := (ckPass, 0) }
        else { c0 with check := (ckFail, 3) }

/-- SOD_PARSE. -/
def checkParse (p : Policy) (i : Option SodInfo) : Check :=
  match i with
  | none => (ckFail, 1)
  | some i =>
    if i.hashAlg == 1 && p.sha1 == 0 then (ckFail, 2)
    else if !hashListed i.hashAlg then (ckIndeterminate, 2)
    else if i.attrsOk then (ckPass, 0) else (ckFail, 7)

/-- SOD_SIGNATURE. -/
def checkSignature (s : State) (p : Policy) (i : SodInfo) (c : Chain) : Check :=
  match c.ds with
  | none => (ckNotRun, 0)
  | some ds =>
    if i.sigHash == 1 && p.sha1 == 0 then (ckFail, 2)
    else if !sigListed s i.sigAlg i.sigHash ds then (ckIndeterminate, 2)
    else if certVerifies i.sigAlg i.sigHash ds.pub i.signed i.sig then (ckPass, 0) else (ckFail, 3)

/-- A window check at NOW (R240). While NOW is unknown the subcode is 5, as where it lies outside, and TIME's is 4,
notes/assumptions/69.md (DESIGN CHOICE). -/
def windowCheck (now : Option Nat) (ok : Nat → Bool) (outside : Nat) : Check :=
  match now with
  | none => (ckIndeterminate, 5)
  | some t => if ok t then (ckPass, 0) else (outside, 5)

/-- The data groups that match, and those that do not, their SOD values. -/
def dgHashes (i : SodInfo) (dgs : List (Nat × Bytes)) : List Nat × List Nat :=
  let ok := fun (d : Nat × Bytes) =>
    (i.dgHashes.find? (fun h => h.1 == d.1)).any (fun h => fit (digestLen i.hashAlg) (Config.digest i.hashAlg d.2) == h.2)
  ((dgs.filter ok).map (·.1), (dgs.filter (fun d => !ok d)).map (·.1))

/-- The bytes of a data group. -/
def dgOf (d : Document) (n : Nat) : Option Bytes := (d.dgs.find? (fun e => e.1 == n)).map (·.2)

/-- DOC_EXPIRY. -/
def checkExpiry (p : Policy) (dg1 : Option Bytes) (now : Option Nat) : Check :=
  match dg1 with
  | none => (ckNotRun, 0)
  | some b =>
    match Config.parseDg1 b with
    | none => (ckFail, 1)
    | some i =>
      match docEnd i with
      | none => (ckFail, 1)
      | some e => windowCheck now (fun t => t < e) (if p.expiredDoc == 0 then ckFail else ckWarn)

/-- CHIP_AUTH where nothing showed the chip's authenticity (Table 8-5). -/
def chipAuthAbsent (p : Policy) : Check :=
  if p.chipAuth == 0 then (ckNotApplicable, 0) else if p.chipAuth == 1 then (ckWarn, 4) else (ckFail, 4)

/-- Active Authentication: DG15's key, the hash that DG14 names, challenge and signature (Table 8-1). -/
def activeCheck (dg15 : Bytes) (dg14 : Option Bytes) (challenge sig : Bytes) : Check :=
  match Config.parseDg15 dg15 with
  | none => (ckFail, 1)
  | some k =>
    let hash := ((dg14.bind Config.parseDg14).map (·.hash)).getD 0
    if k.alg == 1 || (k.alg == 2 && hashListed hash) then
      (if Config.activeAuth k.alg (if k.alg == 1 then 0 else hash) k.pub challenge sig then (ckPass, 0) else (ckFail, 3))
    else (ckIndeterminate, 2)

/-- CHIP_AUTH offline: the evidence against DG15, once that has hashed to its SOD value (R247, R251). Evidence without DG15 is FAIL
with subcode 4, and a DG15 that did not hash to its SOD value leaves the check NOT_RUN, notes/assumptions/69.md (DESIGN CHOICE). -/
def offlineChipAuth (d : Document) (hashed : List Nat) : Check :=
  match d.aa with
  | none => chipAuthAbsent d.policy
  | some (ch, sig) =>
    match dgOf d 15 with
    | none => (ckFail, 4)
    | some k => if hashed.contains 15 then activeCheck k (dgOf d 14) ch sig else (ckNotRun, 0)

/-- Terminal Authentication is called for (R247). -/
def taCalled (p : Policy) : Bool := p.ta == 1 && (bit p.dgRead 3 || bit p.dgRead 4)

/-- What the online part adds: access, chip and terminal authentication (method, status, subcode; none where it did not run), the
windows of the TA chain, the files it read, and what ties it to the braid. -/
structure Online where
  strand : Nat
  session : Nat
  access : Nat
  chipAuth : Option (Nat × Nat × Nat)
  ta : Option (Nat × Nat × Nat)
  taWindows : List (Nat × Nat)
  tried : List Nat
  pwdKind : Nat
  pwd : Bytes
  head : Bytes
  firstSeq : Nat
  lastSeq : Nat
  complete : Bool

/-- TA: NOT_APPLICABLE unless R247 calls for it; where the chip accepted it, the chain's windows are judged at NOW (R239, R240). -/
def checkTa (p : Policy) (now : Option Nat) (o : Online) : Check :=
  if !taCalled p then (ckNotApplicable, 0)
  else match o.ta with
  | none => (ckNotRun, 0)
  | some (_, st, sub) =>
    if st == ckPass then windowCheck now (fun t => o.taWindows.all (fun w => w.1 ≤ t && t < w.2)) ckFail else (st, sub)

/-- DG_REQUIRED. After an early end a group that the Hand had not come to is not missing: the check did not run (R248). -/
def checkRequired (d : Document) (o : Option Online) : Check :=
  let missing := (List.range 16).filter (fun n => bit d.policy.dgRequired n && (dgOf d n).isNone)
  let unread := fun n => o.any (fun o => !o.complete && !o.tried.contains n)
  if missing.any (fun n => !unread n) then (ckFail, 4) else if missing.isEmpty then (ckPass, 0) else (ckNotRun, 0)

/-- A finished verification. -/
structure Verified where
  checks : List Check
  chain : Chain
  info : Option SodInfo
  hashed : List Nat × List Nat

/-- The verification of a document (Table 8-6); `o` is the chip session's part, absent offline. -/
def verifyDocument (s : State) (d : Document) (o : Option Online) : Verified :=
  let p := d.policy
  let now := nowUtc s
  let info := Config.parseSod d.sod
  let parse := checkParse p info
  let i := info.getD {}
  let parsed := parse.1 == ckPass
  let chain : Chain := if parsed then chainOfDs s i else {}
  let sig := if parsed then checkSignature s p i chain else (ckNotRun, 0)
  let chained := chain.check.1 == ckPass
  let ds := chain.ds.getD {}
  let ca := (chain.csca.map (·.2.2)).getD {}
  let crl := chain.csca.bind (fun c => crlOf s c.1)
  let when := fun (c : Bool) (x : Check) => if c then x else (ckNotRun, 0)
  let revocation : Check := match crl with
    | none => (if p.crlMissing == 0 then ckIndeterminate else ckWarn, 4)
    | some c => if c.2.2.2.2.contains ds.serial then (ckFail, 6) else (ckPass, 0)
  let fresh : Check := match crl with
    | none => (ckNotApplicable, 0)
    | some c => windowCheck now (fun t => t < c.2.2.2.1) (if p.crlStale == 0 then ckIndeterminate else ckWarn)
  let hashed := if parsed then dgHashes i d.dgs else ([], [])
  let chip : Check := match o with
    | none => offlineChipAuth d hashed.1
    | some o => match o.chipAuth with
      | some x => x.2
      | none => if o.complete then chipAuthAbsent p else (ckNotRun, 0)
  let mrz : Check := match o with
    | none => (ckNotApplicable, 0)
    | some o =>
      if o.pwdKind != 1 then (ckNotApplicable, 0)
      else match dgOf d 1 with
        | none => (ckNotRun, 0)
        | some b => if Config.mrzMatch o.pwd b then (ckPass, 0) else (ckFail, 7)
  { chain, info, hashed
    checks :=
      [if now.isSome then (ckPass, 0) else (ckIndeterminate, 4),
       parse, sig, if parsed then chain.check else (ckNotRun, 0),
       when chained (windowCheck now (fun t => inWindow t ds) ckFail),
       when chained (windowCheck now (fun t => inWindow t ca) ckFail),
       when chained (if ds.issuerCountry == ca.country then (ckPass, 0) else (ckFail, 7)),
       when chained revocation, when chained fresh,
       when parsed (if hashed.2.isEmpty then (ckPass, 0) else (ckFail, 7)),
       checkExpiry p (dgOf d 1) now,
       (match o with | none => (ckNotApplicable, 0) | some _ => (ckPass, 0)),
       chip,
       (match o with | none => (ckNotApplicable, 0) | some o => checkTa p now o),
       checkRequired d o,
       mrz] }

/-- The checks the policy requires to have run (R242). -/
def requiredChecks (p : Policy) (online : Bool) : List Nat :=
  List.range 11 ++ [14] ++ (if p.chipAuth == 2 then [12] else []) ++
  (if online && taCalled p then [13] else [])

/-- RESULT (R242). It governs an early end too: where no required check is left NOT_RUN the result is VALID, though R248 speaks of
INDETERMINATE, notes/assumptions/69.md (DEDUCED). -/
def verdictResult (p : Policy) (online : Bool) (cs : List Check) : Nat :=
  let st := fun k => (cs.getD k (0, 0)).1
  if cs.any (fun c => c.1 == ckFail) then 2
  else if cs.any (fun c => c.1 == ckIndeterminate) || (requiredChecks p online).any (fun k => st k == ckNotRun) then 3
  else 1

/-- REASON (Table 8-8). -/
def verdictReason (cs : List Check) : Nat :=
  match cs.findIdx? (fun c => c.1 == ckFail || c.1 == ckIndeterminate) with
  | some k => k + 1 + 256 * (cs.getD k (0, 0)).2
  | none => 0

/-- The 512 bytes of a verdict record (Table 8-8). CHIP_AUTH's method is given where CHIP_AUTH passed, and TA_RUN is 1 also where TA
failed, notes/assumptions/69.md (DESIGN CHOICE). -/
def verdictRecord (s : State) (d : Document) (v : Verified) (o : Option Online) (no tag : Nat) (truncated : Bool) : Bytes :=
  let i := v.info.getD {}
  let dg1 := (dgOf d 1).bind Config.parseDg1
  let hybrid := s.verdictKeys.alg == 2
  let crl := if (v.checks.getD 7 (0, 0)).1 == ckNotRun then none else v.chain.csca.bind (fun c => crlOf s c.1)
  let on := o.isSome
  let flags := pack [(ofBool on, 0, 1), (ofBool !on, 1, 1), (ofBool hybrid, 2, 1), (ofBool v.chain.cached, 3, 1),
    (ofBool truncated, 4, 1)]
  let result := verdictResult d.policy on v.checks
  let id := fun (b : Option Bytes) => match b with | some x => fit 32 (sha3 x) | none => zeros 32
  le 1 1 ++ le 1 result ++ le 2 flags ++ le 2 ((o.map (·.strand)).getD 0xFFFF) ++ le 2 d.policyNo ++ le 8 no ++
  le 8 s.ident.serial ++ le 8 s.now ++ le 4 tag ++ le 1 ((o.map (·.access)).getD 0) ++
  le 1 (match o with
    | some o => match o.chipAuth with | some (m, st, _) => if st == ckPass then m else 0 | none => 0
    | none => if d.aa.isSome && (v.checks.getD 12 (0, 0)).1 == ckPass then 4 else 0) ++
  le 1 (((o.bind (·.ta)).map (·.1)).getD 0) ++ zeros 1 ++ fit 16 (nibbles 8 (fun k => (v.checks.getD k (0, 0)).1)) ++
  le 2 (maskOf (d.dgs.map (·.1)) 16) ++ le 2 (maskOf v.hashed.1 16) ++ le 2 (maskOf v.hashed.2 16) ++ zeros 2 ++
  fit 3 ((dg1.map (·.issuingState)).getD []) ++ zeros 1 ++ fit 6 ((dg1.map (·.expiry)).getD []) ++ zeros 2 ++
  le 1 i.hashAlg ++ le 1 i.sigAlg ++ le 2 ((v.chain.ds.map (·.keyBits)).getD 0) ++
  id (some d.sod) ++ id (dgOf d 1) ++ (if v.chain.ds.isSome then fit 32 (dsDigest s i) else zeros 32) ++
  id (v.chain.csca.map (·.2.1)) ++ id (crl.map (·.2.1)) ++ le 8 ((crl.map (·.2.2.1)).getD 0) ++
  fit 32 ((o.map (·.head)).getD []) ++ le 8 ((o.map (·.firstSeq)).getD 0) ++ le 8 ((o.map (·.lastSeq)).getD 0) ++
  le 4 (match o with | some o => (strandOf s o.strand).epoch | none => 0) ++
  le 4 (if result == 1 then 0 else verdictReason v.checks) ++ le 2 (if hybrid then 2 else 1) ++ zeros 2 ++
  kidOf s (signKey s s.verdictKeys.ecdsa) ++
  (if hybrid then kidOf s (signKey s s.verdictKeys.mldsa) else zeros 8) ++ zeros 188

/-- A DS certificate whose chain has verified goes to the front of the cache of 26,214, unless its key exceeds 4,096 bits
(R237). -/
def cacheDs (s : State) (i : SodInfo) (c : Chain) : State :=
  match c.ds, c.csca with
  | some info, some (id, _, _) =>
    if c.check.1 != ckPass || 4096 < info.keyBits then s
    else
      let d := dsDigest s i
      { s with dsCache := (({ digest := d, info, csca := id } : DsEntry) :: s.dsCache.filter (fun e => e.digest != d)).take 26214 }
  | _, _ => s

/-! ### What a Hand asks of the engines (R193, R224) -/

/-- The check of a signature with a key that Table 8-1 lists. -/
def sigOps (s : State) (alg hash : Nat) (k : CertInfo) : List HandOp :=
  if !sigListed s alg hash k then []
  else if alg == 1 then [{ op := 0x0402, set := k.curve }] else [{ op := 0x0407, set := k.keyBits }]

/-- What the verification of a document asks of the Flail and the Mill: the digests of the data groups that the SOD names, the SOD's
signature, the DS certificate's unless it is cached, and Active Authentication with RSA or ECDSA offline. Which curve a key of DG15 is
on the model does not read: its ECDSA check takes the time of P-256, notes/assumptions/29.md (DESIGN CHOICE). -/
def docOps (s : State) (d : Document) : List HandOp :=
  match Config.parseSod d.sod with
  | none => []
  | some i =>
    let chain := chainOfDs s i
    let digests := if hashListed i.hashAlg then d.dgs.filter (fun g => i.dgHashes.any (fun h => h.1 == g.1)) else []
    digests.map (fun g => { engine := .flail, op := 0x0301, set := i.hashAlg, len := g.2.length }) ++
    (chain.ds.map (sigOps s i.sigAlg i.sigHash)).getD [] ++
    (match chain.cached, chain.ds, chain.csca with
     | false, some c, some ca => sigOps s c.sigAlg c.sigHash ca.2.2
     | _, _, _ => []) ++
    (match d.aa, (dgOf d 15).bind Config.parseDg15 with
     | some (_, sig), some k => if k.alg == 1 then [{ op := 0x0407, set := 8 * sig.length }] else if k.alg == 2 then [{ op := 0x0402, set := 1 }] else []
     | _, _ => [])

/-- The document of a VERIFY_OFFLINE job (Table 8-8a), under the policy that was in force when it started (R238). -/
def offlineDocument (s : State) (b : Job) : Document :=
  let d := srcData b.req
  let sod := rd d 4 4
  let (dgs, off) := splitDgs d (dgsOf (rd d 8 2)) (32 + sod)
  { policyNo := rd d 2 2, policy := b.policy.getD (policyOf s (rd d 2 2)), sod := slice d 32 sod, dgs := dgs.map (fun g => (g.1, g.2.2))
    aa := if bit (rd d 1 1) 0 then some (slice d off 8, slice d (off + 8) (rd d 10 2)) else none }

/-! ### Verdicts being signed (R252) -/

/-- Assemble a verdict and start its signature; where the verdict counter gives no number, `fail` says what follows. -/
def startVerdict (s : State) (d : Document) (o : Option Online) (tag : Nat) (mk : Verdict → Verdict) (truncated : Bool)
    (fail : State → Nat × Nat → State) : State :=
  let v := verifyDocument s d o
  let s := cacheDs s (v.info.getD {}) v.chain
  match takeVerdictNo s with
  | (.error e, s) => fail s e
  | (.ok no, s) =>
  let x : Verdict := mk { no, record := verdictRecord s d v o no tag truncated, result := verdictResult d.policy o.isSome v.checks
                          alg := s.verdictKeys.alg, ecdsa := s.verdictKeys.ecdsa, mldsa := s.verdictKeys.mldsa }
  { s with verdicts := s.verdicts ++ [x] }

/-! ### Chip sessions (R245–R249) -/

/-- PACE parameters that Table 8-1 lists: Generic Mapping on DH (domain parameters 0–2) or ECDH, Chip Authentication Mapping on ECDH
(8–18), with one of the four ciphers. -/
def paceListed (i : PaceInfo) : Bool :=
  1 ≤ i.cipher && i.cipher ≤ 4 &&
  match i.param with
  | some n => (i.mapping == 1 && n ≤ 2) || ((i.mapping == 2 || i.mapping == 3) && 8 ≤ n && n ≤ 18)
  | none => false

/-- The check that a protocol's end gives (R229, Table 8-6). -/
def shownCheck : Shown → Check
  | .passed => (ckPass, 0)
  | .failed n => (ckFail, if 1 ≤ n && n ≤ 8 then n else 3)
  | .unsupported => (ckIndeterminate, 2)

/-- A data group that the session has read. -/
def chipDg (c : ChipSession) (n : Nat) : Option Bytes := (c.dgs.find? (fun e => e.1 == n)).map (·.2)

/-- It has hashed to its SOD value: only then is its key used (R247). -/
def chipHashed (c : ChipSession) (n : Nat) : Bool :=
  match c.sod.bind Config.parseSod with
  | some i => (dgHashes i c.dgs).1.contains n
  | none => false

/-- What DG14 says. -/
def dg14Of (c : ChipSession) : Dg14Info := ((chipDg c 14).bind Config.parseDg14).getD {}

/-- The 8-byte challenge of Active Authentication (R247). -/
def chipChallenge (c : ChipSession) : Bytes := (List.range 8).map (Config.random c.seed)

/-- A stored inspection-system chain: its key and its certificates. -/
def storedChain (s : State) (id : Nat) : Option (Nat × List Bytes) :=
  match tblFind s.trust id with
  | some (.chain key _ _ _ _ _ certs) => some (key, certs)
  | _ => none

/-- The stored chain whose top CAR is one of EF.CVCA (R247). -/
def chainFor (s : State) (cars : List Bytes) : Option Nat :=
  s.trust.findSome? (fun e => match e.2 with
    | .chain _ car _ _ _ _ _ => if cars.contains car then some e.1 else none
    | _ => none)

/-- What a phase works with: PACE its parameters and the password, BAC the password, a read its file, Chip Authentication DG14,
Active Authentication its challenge, Terminal Authentication the chain and its private key. -/
def chipInput (s : State) (c : ChipSession) : Bytes :=
  match c.phase with
  | .pace i => le 1 i.mapping ++ le 1 i.cipher ++ le 1 (i.param.getD 0xFF) ++ le 1 c.pwdKind ++ c.pwd
  | .bac => c.pwd
  | .file n => le 1 n
  | .chipAuth => (chipDg c 14).getD []
  | .activeAuth => chipChallenge c
  | .terminal id =>
    match storedChain s id with
    | some (key, certs) =>
      let k := ((ownKey s key).map (·.material)).getD []
      le 2 k.length ++ k ++ certs.flatMap (fun x => le 2 x.length ++ x)
    | none => []
  | _ => []

/-- Where the phase stands. -/
def chipStepOf (s : State) (c : ChipSession) : ChipStep :=
  (Config.chipStep c.seed c.phase (chipInput s c) (c.transcript.take c.mark) (c.transcript.drop c.mark)).getD {}

/-- The bytes of a C-APDU within the limits of R245: at most MAX_CAPDU and 8,960 bytes, asking for at most MAX_RAPDU and 8,960. -/
def capduBytes (a : CApdu) (maxC maxR : Nat) : Bytes :=
  let data := a.data.take (min maxC 8960 - 9)
  let ask := min a.le (min maxR 8960)
  let short : Bool := data.length ≤ 255 && ask ≤ 256
  let lc := if data.isEmpty then [] else if short then le 1 data.length else zeros 1 ++ be 2 data.length
  let lew := if ask == 0 then [] else if short then le 1 (ask % 256) else (if data.isEmpty then zeros 1 else []) ++ be 2 ask
  fit 4 a.header ++ lc ++ data ++ lew

/-- Send the next C-APDU. -/
def sendApdu (s : State) (i : Nat) (c : ChipSession) (apdu : CApdu) : State :=
  let a := capduBytes apdu c.maxC c.maxR
  let c := { c with exchange := c.exchange + 1, outstanding := true, cmdTick := s.now }
  let s := setStrand s i { strandOf s i with chip := some c }
  sendMsg s i 0x0011 (le 2 c.session ++ le 2 c.exchange ++ le 2 a.length ++ zeros 2 ++ a)

/-- A phase begins. -/
def enter (c : ChipSession) (p : ChipPhase) : ChipSession := { c with phase := p, mark := c.transcript.length }

/-- BAC, once, where the policy allows it and the password is an MRZ; else no access is left (R247 step 1). -/
def tryBac (c : ChipSession) : Option ChipSession :=
  if bit c.policy.access 0 && c.pwdKind == 1 then some (enter c .bac) else none

/-- Terminal Authentication where R247 calls for it, else the verdict (R247 step 4). -/
def afterChip (c : ChipSession) : ChipSession := enter c (if taCalled c.policy then .cvca else .verdict)

/-- Active Authentication where DG15 is present. -/
def startActive (c : ChipSession) : ChipSession :=
  if (chipDg c 15).isNone then afterChip c
  else if chipHashed c 15 then enter c .activeAuth
  else afterChip { c with chipAuth := some (0, ckNotRun, 0) }

/-- Chip authenticity (R247 step 3): the PACE-CAM mapping, else Chip Authentication where DG14 offers it, else Active
Authentication. -/
def startChip (c : ChipSession) : ChipSession :=
  if c.access == 3 then enter c .mapping
  else match chipDg c 14 with
  | none => startActive c
  | some b =>
    if !chipHashed c 14 then afterChip { c with chipAuth := some (0, ckNotRun, 0) }
    else match Config.parseDg14 b with
    | none => afterChip { c with chipAuth := some (0, ckFail, 1) }
    | some i =>
      if i.version == 0 then startActive c
      else if i.version ≤ 2 && 1 ≤ i.cipher && i.cipher ≤ 4 then enter c .chipAuth
      else afterChip { c with chipAuth := some (0, ckIndeterminate, 2) }

/-- The next file, or what follows the last: the chip's authenticity, and after DG3 and DG4 the verdict. -/
def nextFile (c : ChipSession) : ChipSession :=
  match c.toRead with
  | n :: r => enter { c with toRead := r } (.file n)
  | [] => if c.ta.isSome then enter c .verdict else startChip c

/-- Access has succeeded: EF.SOD, DG1, DG14, DG15 and the other groups of DG_READ but DG3 and DG4 are read (R247 step 2), in this
order, notes/assumptions/64.md (DESIGN CHOICE). -/
def startReading (c : ChipSession) (access : Nat) : ChipSession :=
  let rest := (List.range 17).filter (fun n => bit c.policy.dgRead n && !([0, 1, 3, 4, 14, 15] : List Nat).contains n)
  nextFile { c with access, toRead := [0, 1, 14, 15] ++ rest }

/-- A file has been read, or is absent, as is one longer than the 65,535 bytes of Table 8-1. -/
def fileRead (c : ChipSession) (n : Nat) (b : Option Bytes) : ChipSession :=
  let c := { c with tried := c.tried ++ [n] }
  match b.filter (fun b => b.length ≤ 65535) with
  | some b => if n == 0 then { c with sod := some b } else { c with dgs := c.dgs ++ [(n, b)] }
  | none => c

/-- The chain for Terminal Authentication (R247 step 4): none that matches, or one whose key is gone, is FAIL with subcode 4. -/
def startTerminal (s : State) (c : ChipSession) (cars : List Bytes) : ChipSession :=
  let none_ := enter { c with ta := some (0, ckFail, 4) } .verdict
  match chainFor s cars with
  | none => none_
  | some id =>
    match storedChain s id with
    | none => none_
    | some (key, certs) =>
      if (ownKey s key).isNone then none_
      else
        let ws := certs.map (fun b => ((Config.parseCvCert b).bind cvWindow).getD (0, 0))
        enter { c with taWindows := ws } (.terminal id)

/-- A phase has ended: the one that follows (R247); none where neither PACE nor BAC succeeds. -/
def afterPhase (s : State) (c : ChipSession) (r : ChipStep) : Option ChipSession :=
  match c.phase with
  | .cardAccess =>
    match r.offers.find? paceListed with
    | some i => if bit c.policy.access 1 then some (enter c (.pace i)) else tryBac c
    | none => tryBac c
  | .pace i => if r.shown == .passed then some (startReading c (if i.mapping == 3 then 3 else 2)) else tryBac c
  | .bac => if r.shown == .passed then some (startReading c 1) else none
  | .file n => some (nextFile (fileRead c n r.file))
  | .mapping => some (afterChip { c with chipAuth := some (3, shownCheck r.shown) })
  | .chipAuth =>
    some (if r.shown == .passed then enter c .proof
          else afterChip { c with chipAuth := some ((dg14Of c).version, shownCheck r.shown) })
  | .proof => some (afterChip { c with chipAuth := some ((dg14Of c).version, shownCheck r.shown) })
  | .activeAuth =>
    let x := match r.file with
      | some sig => activeCheck ((chipDg c 15).getD []) (chipDg c 14) (chipChallenge c) sig
      | none => (ckFail, 3)
    some (afterChip { c with chipAuth := some (4, x) })
  | .cvca => some (startTerminal s c r.cars)
  | .terminal _ =>
    let c := { c with ta := some (1, shownCheck r.shown) }
    some (if r.shown == .passed then nextFile { c with toRead := [3, 4].filter (bit c.policy.dgRead) } else enter c .verdict)
  | .verdict => some c

/-- The cipher of the keys that a phase derives, as in `PaceInfo`. -/
def phaseCipher (c : ChipSession) : Nat :=
  match c.phase with
  | .pace i => i.cipher
  | .chipAuth => (dg14Of c).cipher
  | _ => 1

/-- The session keys of a phase go into two session slots, which are taken from the free general slots (R244, R274); none where
no slot is free. -/
def takeChipKeys (s : State) (c : ChipSession) (keys : Bytes × Bytes) : Option (State × List Nat) :=
  let cipher := phaseCipher c
  let n := if cipher ≤ 2 then 16 else if cipher == 3 then 24 else 32
  let put := fun (s : State) (slot : Option Nat) (k : Bytes) =>
    (slot.orElse (fun _ => scanFrom (emptySlot s) 49152 0)).map (fun i =>
      (storeKey s i { session := true, cls := clsGeneral, type := if cipher ≤ 1 then 2 else 1, set := if cipher ≤ 1 then 2 else 8 * n
                      attr := 0x203, material := fit n k }, i))
  (put s c.slots[0]? keys.1).bind fun a => (put a.1 c.slots[1]? keys.2).map fun b => (b.1, [a.2, b.2])

/-- The data groups released with an online verdict (R249): up to 256 KiB, ascending, and whether some were left out. -/
def releaseGroups (p : Policy) (dgs : List (Nat × Bytes)) : List (Nat × Bytes) × Bool :=
  let l := (List.range 16).filterMap (fun n => if bit p.dgRelease n then dgs.find? (fun d => d.1 == n) else none)
  let r := l.foldl (fun (acc : List (Nat × Bytes) × Nat × Bool) d =>
    if acc.2.2 || 262144 < acc.2.1 + d.2.length then (acc.1, acc.2.1, true)
    else (acc.1 ++ [d], acc.2.1 + d.2.length, false)) ([], 0, false)
  (r.1, r.2.2)

/-- The release block (R249). -/
def releaseBlock (l : List (Nat × Bytes)) : Bytes :=
  le 2 l.length ++ zeros 2 ++ l.flatMap (fun d => le 1 d.1 ++ zeros 3 ++ le 4 d.2.length ++ d.2)

/-- The strand's floor: that of its ingress port. -/
def strandFloor (s : State) (i : Nat) : Option Nat := (slotOf (strandOf s i).cfg.ingress).map portFloor

/-- Sessions of a floor that hold their share of its release space: 256 KiB, the most that a release block carries. The spec lays down
no shares, notes/assumptions/64.md (DESIGN CHOICE). -/
def spaceHolders (s : State) (f : Option Nat) : Nat :=
  (s.strands.filter (fun e => e.2.chip.any (·.space) && strandFloor s e.1 == f)).length +
  (s.verdicts.filter (fun v => v.space && strandFloor s v.strand == f)).length

/-- The floor has space for the release block of one more session (R249). -/
def spaceFree (s : State) (i : Nat) : Bool := (spaceHolders s (strandFloor s i) + 1) * 262144 ≤ binsReserve

/-- The document that a chip session has read. -/
def chipDocument (c : ChipSession) : Document := { policyNo := c.policyNo, policy := c.policy, sod := c.sod.getD [], dgs := c.dgs }

/-- The session's verdict goes to be signed. A session that the hub has ended early is not complete (R248). -/
def chipVerdict (s : State) (i : Nat) (c : ChipSession) : State :=
  let s := dropChip s i
  let (groups, cut) := releaseGroups c.policy c.dgs
  let o : Online := { strand := i, session := c.session, access := c.access, chipAuth := c.chipAuth, ta := c.ta
                      taWindows := c.taWindows, tried := c.tried, pwdKind := c.pwdKind, pwd := c.pwd, head := c.apduHead
                      firstSeq := c.firstSeq, lastSeq := c.lastSeq, complete := !c.early }
  startVerdict s (chipDocument c) (some o) c.session
    (fun v => { v with strand := i, session := c.session, client := c.policy.client, ring := c.policy.ring
                       extra := releaseBlock groups, space := c.space }) cut
    (fun s _ => sendMsg s i 0x0015 (le 2 c.session ++ le 2 10))

/-- A session waits before it reads a group to be released while the floor's release space is taken (R249). -/
def wantsSpace (c : ChipSession) : Bool :=
  match c.phase with
  | .file n => bit c.policy.dgRelease n && !c.space
  | _ => false

/-- What the Hand asks of the engines at this point of a session: the Mill's operations of the phase, Terminal Authentication with the
key of its chain; at the end, what the verification of the document needs (R224, R247). -/
def chipOps (s : State) (c : ChipSession) (r : ChipStep) : List HandOp :=
  let key := match c.phase with | .terminal id => ((storedChain s id).map (·.1)).getD 0 | _ => 0
  if c.phase == .verdict then docOps s (chipDocument c)
  else
    (r.mill.filter (fun m => engineOf m.1 == some .mill && !latticeOp m.1 && (!signOp m.1 || key != 0))).map
      (fun m => { op := m.1, set := m.2, key := if signOp m.1 then key else 0 })

/-- The Hand goes on with a session, through the phases that need nothing from the chip: the next C-APDU, the verdict, the wait for
space or for the engines, or the end without access (R247). No free slot for the session's keys ends it with reason 10,
notes/assumptions/64.md (DESIGN CHOICE). -/
def runChip : Nat → State → Nat → State
  | 0, s, _ => s
  | fuel + 1, s, i =>
    match (strandOf s i).chip with
    | none => s
    | some c =>
      let put := fun (s : State) (c : ChipSession) => setStrand s i { strandOf s i with chip := some c }
      let r := if c.phase == .verdict then {} else chipStepOf s c
      if wantsSpace c then
        (if spaceFree s i then runChip fuel (put s { c with space := true, waiting := false }) i else put s { c with waiting := true })
      else if !c.made && !(chipOps s c r).isEmpty then put s { c with asks := some (chipOps s c r) }
      else if c.phase == .verdict then chipVerdict s i c
      else
        let c := { c with made := false }
        match r.next with
        | some a => sendApdu s i c a
        | none =>
          match afterPhase s c r with
          | none => endChip s i 3
          | some c' =>
            match r.keys with
            | none => runChip fuel (put s c') i
            | some k =>
              match takeChipKeys s c k with
              | some (s, l) => runChip fuel (put s { c' with slots := l }) i
              | none => endChip s i 10

/-- The Hand goes on with a session. -/
def stepChip (s : State) (i : Nat) : State :=
  let st := strandOf s i
  let served := (chooseHand s).map (fun h => (h, s.now))
  runChip 64 (setStrand s i { st with chip := st.chip.map (fun c => { c with served }) }) i

/-- What the session asked of the engines is wanted no more. -/
def endAsks (s : State) (i : Nat) : State :=
  match (strandOf s i).chip with
  | some c =>
    let s := (List.range ((c.asks.getD []).length)).foldl (fun s k => ownStops s (.chip i k)) s
    setStrand s i { strandOf s i with chip := some { c with asks := none } }
  | none => s

/-- The Hand turns to the verdict of a session. -/
def turnToVerdict (s : State) (i : Nat) (f : ChipSession → ChipSession) : State :=
  let s := endAsks s i
  let st := strandOf s i
  let g := fun c => { enter (f c) .verdict with made := false, outstanding := false, waiting := false }
  stepChip (setStrand s i { st with chip := st.chip.map g }) i

/-- The hub ends a session: a verdict where EF.SOD and DG1 were read, else CHIP_ERROR (R248). -/
def stopChip (s : State) (i reason : Nat) : State :=
  match (strandOf s i).chip with
  | none => s
  | some c =>
    if c.sod.isSome && (chipDg c 1).isSome then turnToVerdict s i (fun c => { c with early := true }) else endChip s i reason

/-- The stone that was to sign for the Terminal Authentication of a session has found its key gone (R202): FAIL with subcode 4
(R247). -/
def chipKeyGone (s : State) (i : Nat) : State := turnToVerdict s i (fun c => { c with ta := some (0, ckFail, 4) })

/-- A mismatch in Hand `h`: the events that it was serving, those of this instant, are action faults, and a chip session served by
one ends with CHIP_ERROR reason 10 (R479). -/
def faultEvents (s : State) (h : Nat) : State :=
  let s := s.instances.foldl (faultServed h) s
  (s.strands.filter (fun e => e.2.chip.any (fun c => c.served == some (h, s.now)))).foldl (fun s e => endChip s e.1 10) s

/-- What a session asked of the engines is done. -/
def chipAsked (s : State) (i : Nat) (c : ChipSession) : Bool :=
  c.asks.any (fun l => (List.range l.length).all (fun k => ownReady s (.chip i k)))

/-- A session goes on that waited for the engines, or for release space where there is some (R224, R249). -/
def wakeChip (s : State) (i : Nat) : State :=
  match (strandOf s i).chip with
  | none => s
  | some c =>
    if chipAsked s i c then
      let s := endAsks s i
      let st := strandOf s i
      stepChip (setStrand s i { st with chip := st.chip.map (fun c => { c with made := true }) }) i
    else if c.waiting && spaceFree s i then stepChip s i
    else s

/-- The sessions that wait go on where they can. -/
def wakeChips (s : State) : State := (s.strands.filter (fun e => e.2.chip.isSome)).foldl (fun s e => wakeChip s e.1) s

/-- A signed verdict goes out: to its job's destination, or to the scanner and the policy's ring (R249, R251). -/
def deliverDoc (s : State) (v : Verdict) : State :=
  let w := OwnWork.verdict v.no
  let (sigs, s) := verdictSignatures s w v.record (v.alg == 2)
  let out := v.record ++ sigs
  let s := ownEnds { s with verdicts := s.verdicts.filter (fun x => x.no != v.no) } w
  match v.job with
  | some id =>
    match jobOf s id with
    | some b => endJob s b sOk 0 false out (fit 28 (le 1 v.result ++ zeros 3 ++ le 8 v.no))
    | none => s
  | none =>
    let s := sendMsg s v.strand 0x0014 (le 2 v.session ++ zeros 2 ++ out)
    let inl := le 2 v.strand ++ le 1 v.result ++ zeros 1 ++ le 8 v.no
    postEvent s v.client v.ring { type := 0x0020, record := out ++ v.extra, inline := inl }

/-- The stone that was to sign a verdict has found its key gone (R202): an offline job ends with the status, a chip session with
reason 7. -/
def verdictKeyGone (s : State) (v : Verdict) (status : Nat) : State :=
  let s := { s with verdicts := s.verdicts.filter (fun x => x.no != v.no) }
  match v.job with
  | some id => match jobOf s id with | some b => failJob s b status 0 | none => s
  | none => sendMsg s v.strand 0x0015 (le 2 v.session ++ le 2 7)

/-- Every chip session ends with CHIP_ERROR (Table 8-10). -/
def endChips (s : State) (reason : Nat) : State := (strandIds s).foldl (fun s i => endChip s i reason) s

/-- Every chip session ends without a message, as a level-5 purge gives. -/
def dropChips (s : State) : State := { s with strands := tblMap s.strands (fun _ st => { st with chip := none }) }

/-- A level-4 or level-5 purge takes the verdict keys: online verdicts that are being signed are lost. -/
def purgeDocs (s : State) : State := { s with verdicts := [] }

end Sys2Proof.Machine
end

