-- ==== Sys2Proof/Machine/HatchOps.lean ====
section
/-! DEFINITION. How an operation of the Hatch starts, absorbs a block and ends, the same for a digest of the Flail fall-back
path, and what a release of the lock leaves (R177–R180, R196–R198). -/

namespace Sys2Proof.Machine

/-! ### The end of an operation, the lock -/

/-- The operation stops and its state is discarded (R154, R180); the key register keeps the last key loaded (R150). -/
def hatchStops (h : Hatch) : Hatch :=
  { h with busy := false, ready := false, outValid := false, finishing := false, starting := false, inBlock := false
           runOp := 0, runIv := [], runTagLen := 16, aad := [], data := [], aadCut := 0, dataCut := 0, pendingOut := [], din := [] }

/-- The operation ends with a RESULT. -/
def hatchEnds (h : Hatch) (result : Nat) : Hatch := { hatchStops h with done := true, result }

/-- The registers after a release of the lock (R180); DONE and NOT_HELD stand. A Steward that waits for the lock holds it as INTERNAL
from here on (R181). -/
def hatchReleased (h : Hatch) : Hatch :=
  { notHeld := h.notHeld, done := h.done, held := h.wanted, internal := h.wanted, tag := if h.wanted then 0xFFFF else 0 }

/-- The lock is released, whoever held it (R180, R197). -/
def releaseLock (s : State) : State := { s with hatch := hatchReleased s.hatch, flail := {} }

/-- A purge clears the Hatch core's key register: its operation ends with E_KEY_GONE (R153). -/
def purgeHatch (s : State) (status : Nat) : State :=
  let h := { s.hatch with keyBytes := [] }
  { s with hatch := if h.busy then hatchEnds h status else h }

/-! ### START (R178) -/

/-- The job opcode whose rules an OP follows. -/
def hatchOpcode (op : Nat) : Nat := 0x0200 + op

/-- TAG_LEN breaks the limits of Table 5-2. -/
def hatchTagBad (h : Hatch) : Bool :=
  let op := hatchOpcode h.op
  (gcmFamily op || op == 0x0208 || op == 0x0209) && badParam0 op h.tagLen

/-- The RESULT of the checks of R166 that a register operation can fail, before its key is read. -/
def hatchRefused (s : State) : Option Nat :=
  let h := s.hatch
  let op := hatchOpcode h.op
  if frozen s then some eFrozen
  else if h.op == 0 || 9 < h.op || hatchTagBad h || badIndex (hIndex h.key) then some eFormat
  else if passiveRole s && takesIv op then some eState
  else if hClass h.key != clsGeneral then some eDenied
  else none

/-- The RESULT of the checks of its key. -/
def hatchKeyRefused (s : State) : Option Nat :=
  let h := s.hatch
  let op := hatchOpcode h.op
  if !keyPermitted s 0 h.key (thClasses op) (fun i => symIndex i && !strandIndex i)
      (fun k => k.type == 1 && bit k.attr (thAttr op) && k.cls == clsGeneral) then some eDenied
  else match keyFault s h.key with
    | some (st, _) => some st
    | none =>
      match tblFind s.keys (hIndex h.key) with
      | some k => if takesIv op && retired k then some eKeyRetired else none
      | none => none

/-- START waits for an acknowledged invocation counter (R405). -/
def hatchWaits (s : State) : Bool :=
  let i := hIndex s.hatch.key
  let inv := match tblFind s.keys i with | some k => k.invocation | none => 0
  takesIv (hatchOpcode s.hatch.op) && beyondAcked s (0x100000 + i) inv

/-- The key is loaded and the operation begins with the IV and TAG_LEN that stand now; GCM encrypt and GMAC generate make their IV in
hardware (R155). -/
def hatchBegins (s : State) : State :=
  let op := hatchOpcode s.hatch.op
  let i := hIndex s.hatch.key
  let (iv, s) := if takesIv op then
      let (v, s) := takeInvocation s i
      (fit 16 (makeIv s.ident.fixedField v), s)
    else (fit 16 s.hatch.iv, s)
  let key := ((tblFind s.keys i).map (·.material)).getD []
  { s with hatch := { s.hatch with
      busy := true, ready := true, starting := false, runOp := s.hatch.op, runIv := iv, runTagLen := s.hatch.tagLen, keyBytes := key, iv
      aad := [], data := [], aadCut := 0, dataCut := 0 } }

/-- A START that is given or waits (R178): it ends with the first check that fails, waits for its slot's write (R152) or for an
acknowledged counter, or begins. -/
def tryHatch (s : State) : State :=
  let wait := { s with hatch := { s.hatch with busy := true, starting := true } }
  match hatchRefused s with
  | some st => { s with hatch := hatchEnds s.hatch st }
  | none =>
    if fenced s (hIndex s.hatch.key) then wait
    else match hatchKeyRefused s with
      | some st => { s with hatch := hatchEnds s.hatch st }
      | none => if hatchWaits s then wait else hatchBegins s

/-- A START that has waited goes on as soon as it can; runs after every command. -/
def settleHatch (s : State) : State := if s.hatch.starting then tryHatch s else s

/-! ### Blocks and the end -/

/-- The valid bytes of the block that is submitted: LAST_BYTES, where 0 and values above 16 mean 16. -/
def validBytes (n : Nat) : Nat := if n == 0 || 16 < n then 16 else n

/-- The 16 bytes in the input registers once the last word is written. -/
def inputWord (din : Bytes) (word : Nat) : Bytes := fit 12 din ++ le 4 word

/-- The IV an operation uses: 96 bits for GCM and GMAC, else the whole block. -/
def hatchIv (h : Hatch) : Bytes := if gcmFamily (hatchOpcode h.runOp) then h.runIv.take 12 else h.runIv

/-- The message so far: of the last AAD block and of the last data block, LAST_BYTES are valid (Table 5-7). -/
def hatchMessage (h : Hatch) : Message :=
  { opcode := hatchOpcode h.runOp, iv := hatchIv h, aad := h.aad.take (h.aad.length - h.aadCut)
    data := h.data.take (h.data.length - h.dataCut) }

/-- OP has an output block for each data block. -/
def hatchOutputs (op : Nat) : Bool := op == 1 || op == 2 || (5 ≤ op && op ≤ 7)

/-- A submitted block belongs to the AAD: all of GMAC's do, and GCM's in PHASE 0. -/
def isAad (h : Hatch) : Bool := h.runOp == 3 || h.runOp == 4 || (h.runOp ≤ 2 && h.phase == 0)

/-- The limits of R165 that the next `n` bytes would break. -/
def hatchTooLong (h : Hatch) (n : Nat) : Bool :=
  let op := hatchOpcode h.runOp
  let m := h.data.length + n
  ((op == 0x0201 || op == 0x0202) && !isAad h && 2 ^ 36 - 32 < m) || (gcmFamily op && isAad h && 2 ^ 32 ≤ h.aad.length + n) ||
  (op == 0x0205 && 2 ^ 64 < ofBe (slice h.runIv 8 8) + ceilDiv m 16)

/-- A block enters the core. One that would break a limit is refused with E_LENGTH and leaves the message as it was, so that FINAL
may still follow, as for a job (R165, R178), notes/assumptions/14.md (DEDUCED). -/
def hatchAbsorbs (h : Hatch) (block : Bytes) : Hatch :=
  let cut := 16 - validBytes h.lastBytes
  if hatchTooLong h (16 - cut) then { h with result := eLength }
  else if isAad h then { h with ready := false, inBlock := true, aad := h.aad ++ block, aadCut := cut }
  else
    let prior := h.data.length
    let h := { h with ready := false, inBlock := true, data := h.data ++ block, dataCut := cut }
    let m := hatchMessage h
    let out := if hatchOutputs h.runOp then fit 16 ((thTransform m.opcode h.keyBytes m.iv m).drop prior) else []
    { h with pendingOut := out }

/-- The core is done with a block; its output stands in HATCH_DOUT. The core waits while the block before it has not been
read, notes/assumptions/45.md (DESIGN CHOICE). -/
def hatchBlockOut (h : Hatch) : Hatch :=
  if !h.inBlock || (h.outValid && !h.pendingOut.isEmpty) then h
  else
    let h := { h with inBlock := false, ready := !h.finishing }
    if h.pendingOut.isEmpty then h else { h with dout := h.pendingOut, outValid := true, pendingOut := [] }

/-- The operation after FINAL: the tag is made or checked (R178). A CBC message that is not whole blocks is E_FORMAT. -/
def hatchFinishes (h : Hatch) : Hatch :=
  let m := hatchMessage h
  let mac := (thTag m.opcode h.keyBytes m.iv m).take h.runTagLen
  if (h.runOp == 6 || h.runOp == 7) && m.data.length % 16 != 0 then hatchEnds h eFormat
  else if verifiesTag m.opcode then
    (if fit h.runTagLen h.tagReg == mac then { hatchEnds h sOk with outValid := h.outValid } else hatchEnds h eAuth)
  else
    let tagReg := if h.runOp == 1 || h.runOp == 3 || h.runOp == 8 then fit 16 mac else h.tagReg
    { hatchEnds h sOk with outValid := h.outValid, tagReg }

/-! ### The fall-back digest (R196–R198) -/

/-- The RESULT with which FLAIL_CMD.START ends at once. -/
def flailRefused (s : State) : Option Nat :=
  if frozen s then some eFrozen
  else if s.flail.alg == 1 then some eDenied
  else if !([2, 3, 4, 5, 0x11, 0x12, 0x13, 0x14].contains s.flail.alg) then some eFormat
  else none

/-- The digest that runs, or that stands in FLAIL_OUT, is gone. -/
def flailClears (f : FlailPath) : FlailPath :=
  { f with busy := false, ready := false, done := false, out := [], runAlg := 0, data := [], finishing := false, inWord := false
           valid := false, din := [], cut := 0, core := none }

/-- START (R197). A refused one sets DONE, as every operation's end does, notes/assumptions/45.md (DESIGN CHOICE). -/
def flailBegins (s : State) : State :=
  let f := flailClears s.flail
  { s with flail := match flailRefused s with
      | some st => { f with done := true, result := st }
      | none => { f with busy := true, ready := true, runAlg := f.alg, result := 0 } }

/-- A word enters the path; LAST_BYTES counts for the last one alone (Table 6-5). -/
def flailAbsorbs (f : FlailPath) (word : Bytes) : FlailPath :=
  { f with ready := false, inWord := true, data := f.data ++ word, cut := 16 - validBytes f.lastBytes }

/-- The path works on a word, or on the end of the digest, as an entry that joins the tail of the queue of priority 3 (R197). -/
def flailJoins (s : State) (f : FlailPath) : State :=
  startJobs { s with flail := { f with turn := s.turnNo }, turnNo := s.turnNo + 1 }

/-- The two datapaths of the path's core disagree: the digest ends with E_FAULT, the Scarecrow is notified, and the core is withdrawn
(R194). -/
def flailSpoiled (s : State) (c : Nat) : State :=
  let s := { s with flail := { flailClears s.flail with done := true, result := eFault } }
  withdraw (report s 0x19 (c % 16)) (.flail c) 0x19

/-- The digest is complete (R198). -/
def flailFinishes (f : FlailPath) : FlailPath :=
  let out := fit (digestLen f.runAlg) (Config.digest f.runAlg (f.data.take (f.data.length - f.cut)))
  { flailClears f with done := true, result := sOk, out := fit 64 out, valid := true }

end Sys2Proof.Machine
end

