-- ==== Sys2Proof/Machine/PairOps.lean ====
section
/-! DEFINITION. The pair (chapter 14): Hawser frames, the copied items (Table 14-6), epochs (R404), the claim on the Hitch
(R400), takeover (R408, R138, R301), leaving and joining (R414, R415, R419), and ANNOUNCE (R410). -/

namespace Sys2Proof.Machine

/-- Change the pair's state. -/
def setPair (s : State) (p : Pair) : State := { s with pair := p }

/-! ### Hawser frames (R395–R397) -/

/-- The Hawser frame types (Table 14-3). -/
abbrev hwHello : Nat := 1
/-- KEYEX. -/
abbrev hwKeyex : Nat := 2
/-- HEARTBEAT. -/
abbrev hwHeartbeat : Nat := 3
/-- EPOCH_DATA. -/
abbrev hwEpochData : Nat := 4
/-- EPOCH_END. -/
abbrev hwEpochEnd : Nat := 5
/-- EPOCH_ACK. -/
abbrev hwEpochAck : Nat := 6
/-- SHADOW. -/
abbrev hwShadow : Nat := 7
/-- SHADOW_ACK. -/
abbrev hwShadowAck : Nat := 8
/-- BULK. -/
abbrev hwBulk : Nat := 9
/-- NOTICE. -/
abbrev hwNotice : Nat := 10

/-- Change a path. -/
def setPath (s : State) (p : Path) (w : HawserPath) : State :=
  match p with
  | .a => setPair s { s.pair with pathA := w }
  | .b => setPair s { s.pair with pathB := w }

/-- 0 for path A, 1 for path B. -/
def pathNo : Path → Nat
  | .a => 0 | .b => 1

/-- The header of a Hawser frame (Table 14-2). -/
def hawserHeader (type len seq : Nat) : Bytes :=
  le 1 type ++ le 1 (ofBool (type == hwHello || type == hwKeyex)) ++ le 2 len ++ zeros 4 ++ le 8 seq

/-- The ciphertext and tag of a keyed frame (R396): AES-256-GCM under the traffic key of the direction, with the sender's seat, the path
and SEQ in the IV and the header as AAD. -/
def hawserSeal (key : Bytes) (seat : Nat) (p : Path) (type seq : Nat) (payload : Bytes) : Bytes × Bytes :=
  let iv := le 1 seat ++ le 1 (pathNo p) ++ zeros 2 ++ be 8 seq
  let c := fit payload.length (Config.gcmCipher key iv payload)
  (c, fit 16 (Config.gcmTag key iv (hawserHeader type payload.length seq) c))

/-- A frame's bytes on a path (R395, R396): header, payload and tag. HELLO and KEYEX are UNKEYED, with a zero tag. -/
def hawserWire (s : State) (p : Path) (type : Nat) (payload : Bytes) : Bytes :=
  let w := pathOf s p
  let header := hawserHeader type payload.length w.txSeq
  if type == hwHello || type == hwKeyex then header ++ payload ++ zeros 16
  else
    let (c, tag) := hawserSeal w.key s.pair.seat p type w.txSeq payload
    header ++ c ++ tag

/-- Send a frame on a path whose link is up, unless the watchdog has disabled its transmitter (R403). -/
def sendHawser (s : State) (p : Path) (type : Nat) (payload : Bytes) : State :=
  let w := pathOf s p
  if !w.link || s.scarecrow.wdogFired then s
  else
    let x : HawserTx := { path := p, type, seq := w.txSeq, payload, wire := hawserWire s p type payload }
    let s := setPath s p { w with txSeq := w.txSeq + 1 }
    setPair s { s.pair with tx := s.pair.tx ++ [x] }

/-- Send a keyed frame on a path that is up. -/
def sendKeyed (s : State) (p : Path) (type : Nat) (payload : Bytes) : State :=
  if (pathOf s p).up then sendHawser s p type payload else s

/-- Send a keyed frame on both paths. -/
def sendBoth (s : State) (type : Nat) (payload : Bytes) : State :=
  sendKeyed (sendKeyed s .a type payload) .b type payload

/-- NOTICE with a KIND (Table 14-3). -/
def notice (s : State) (kind : Nat) : State := sendBoth s hwNotice (le 2 kind ++ zeros 6)

/-- HITCH of a heartbeat (Table 14-4). -/
def hitchBits (s : State) : Nat := pack [(ofBool s.pair.hitchOut, 0, 1), (ofBool s.pair.hitchIn, 1, 1)]

/-- ACKED (Tables 14-4, 14-9): 0 outside Active. -/
def ackedField (s : State) : Nat := if s.pair.role == .active then s.pair.acked else 0

/-- The HEARTBEAT payload (Table 14-4). -/
def beatBytes (h : Heartbeat) : Bytes :=
  le 8 h.serial ++ le 8 h.tick ++ le 1 h.role ++ le 1 h.seat ++ le 1 h.hitch ++ le 1 h.alarm ++ le 1 h.update ++ le 1 h.copy ++
  le 1 h.paths ++ zeros 1 ++ le 8 h.epoch ++ le 8 h.acked ++ le 2 h.fieldOut ++ le 2 h.fieldSeq ++ fit 8 h.partsId ++ zeros 12

/-- What a heartbeat of this unit says. -/
def beatOf (s : State) : Heartbeat :=
  { serial := s.ident.serial, tick := s.now, role := roleNo s.pair.role, seat := s.pair.seat, hitch := hitchBits s
    alarm := alarmLevel s, update := phaseNo s.update.phase, copy := copyNo s.pair.copy, paths := pathsUp s
    epoch := s.pair.epoch, acked := ackedField s, fieldOut := s.pair.driven, fieldSeq := s.pair.fieldSeq, partsId := partsId s }

/-- Its bytes. -/
def heartbeatBytes (s : State) : Bytes := beatBytes (beatOf s)

/-- The traffic key of a path from a sender's seat (R396). -/
def trafficKey (pairKey nonceA nonceB : Bytes) (p : Path) (seat : Nat) : Bytes :=
  shake256 32 (ascii "OPM-HAWSER" ++ pairKey ++ nonceA ++ nonceB ++ le 1 (pathNo p) ++ le 1 seat)

/-- PAIR_KID of a pair key (R417). -/
def kidOfPair (key : Bytes) : Bytes := (fit 16 (Config.ecb true key (zeros 16))).take 8

/-- The HELLO payload (Table 14-3); PAIR_KID is zero before pairing. -/
def helloBytes (s : State) (p : Path) (nonce : Bytes) : Bytes :=
  le 8 s.ident.serial ++ le 1 s.pair.seat ++ le 1 (pathNo p) ++ zeros 6 ++ fit 8 s.pair.pairKid ++ fit 32 nonce

/-- A path session ends: the path is down, with its keys and its nonces gone (R396); when it last carried a heartbeat still counts
(R398). -/
def pathEnds (s : State) (p : Path) (link : Bool) : State :=
  setPath s p { pathOf s p with link, up := false, fails := 0, txSeq := 1, nonce := [], lastEnd := 0
                                peerNonce := [], key := [], peerKey := [], hello := none }

/-- A path session begins: HELLO with a fresh nonce (R396). -/
def pathBegins (s : State) (p : Path) : State :=
  let n := randomBytes s 32
  let s := pathEnds (draw s) p true
  sendHawser (setPath s p { pathOf s p with nonce := n }) p hwHello (helloBytes s p n)

/-- The peer's HELLO makes the path come up (R396): the recorded peer, under the same pair key. -/
def helloFits (s : State) (h : Hello) : Bool :=
  s.pair.paired && !s.pair.keyGone && h.serial == s.pair.peerSerial && fit 8 h.kid == fit 8 s.pair.pairKid

/-- The path comes up when both nonces are exchanged and the HELLO fits (R396). -/
def tryUp (s : State) (p : Path) : State :=
  let w := pathOf s p
  match w.hello with
  | some h =>
    if w.link && !w.up && helloFits s h then
      let a := if s.pair.seat == 0 then w.nonce else w.peerNonce
      let b := if s.pair.seat == 0 then w.peerNonce else w.nonce
      setPath s p { w with up := true, fails := 0, lastBeat := some s.now, silent := false
                           key := trafficKey s.pair.pairKey a b p s.pair.seat
                           peerKey := trafficKey s.pair.pairKey a b p (1 - s.pair.seat) }
    else s
  | none => s

/-- The tag of a keyed frame that arrives on a path is the one of its payload, under the peer's traffic key (R396). -/
def tagRight (s : State) (p : Path) (type : Nat) (payload : Bytes) (x : FrameSeal) : Bool :=
  fit 16 x.tag == (hawserSeal (pathOf s p).peerKey (1 - s.pair.seat) p type x.seq payload).2

/-- A keyed frame arrives: `k` follows when the path is up and the tag is right; a tag that fails is counted, and
the eighth in a row takes the path down to restart with fresh nonces (R396). -/
def keyedFrame (s : State) (p : Path) (type : Nat) (payload : Bytes) (x : FrameSeal) (k : State → State) : State :=
  let w := pathOf s p
  if !w.up then s
  else if tagRight s p type payload x then k (setPath s p { w with fails := 0 })
  else
    let s := setPair s { s.pair with tagFails := sat 0xFFFF (s.pair.tagFails + 1) }
    if 7 ≤ w.fails then pathBegins s p else setPath s p { w with fails := w.fails + 1 }

/-- A record as the frames of its type carry it: each holds at most 8,192 bytes (Table 14-2), notes/assumptions/24.md (DESIGN CHOICE: a
longer record goes in several). -/
def framePieces : Nat → Bytes → List Bytes
  | 0, b => [b.take 8192]
  | fuel + 1, b => if b.length ≤ 8192 then [b] else b.take 8192 :: framePieces fuel (b.drop 8192)

/-- The pieces of a record. -/
def piecesOf (b : Bytes) : List Bytes := framePieces (b.length / 8192) b

/-- Send a record on both paths. -/
def sendRecord (s : State) (type : Nat) (b : Bytes) : State := (piecesOf b).foldl (fun s x => sendBoth s type x) s

/-- The payload of the frame with which a record is complete. -/
def lastPiece (b : Bytes) : Bytes := (piecesOf b).getLastD []

/-! ### Roles -/

/-- A pair role with its reason, and DEGRADED (Table 14-1, R423). -/
def setDegraded (s : State) (d : Bool) (reason : Nat) : State :=
  if s.pair.degraded == d then s
  else pairEvent (setPair s { s.pair with degraded := d }) (roleNo s.pair.role) reason

/-- The Hitch is driven. -/
def driveHitch (s : State) : State := setPair s { s.pair with hitchOut := true, drivenSince := s.now }

/-- The Hitch is released. -/
def releaseHitch (s : State) : State := setPair s { s.pair with hitchOut := false, claim := .none }

/-- The unit becomes Isolated: COPY STALE, outputs off, the Hitch released (R402, R412). -/
def goIsolated (s : State) (reason : Nat) : State :=
  let s := releaseHitch s
  let p := s.pair
  setRole (setPair s { p with copy := .stale, driven := 0, degraded := false, starting := false, peerMayClaim := false
                              incoming := [], ends := [], copying := false, copyNext := none, leaving := none }) .isolated reason

/-- Drowse ends: capture ports may link again (R460, R461). -/
def leaveDrowse (s : State) : State :=
  if s.power.state != .drowse then s
  else
    let s := { s with power := { s.power with state := .active }, update := { s.update with captureReady := true }
                      almanac := { s.almanac with lowRate := s.power.holdover } }
    powerEvent s 2 1 0 0

/-- The unit goes to Resync and asks for a full copy (R414); it leaves Drowse (Table 16-3). -/
def goResync (s : State) (reason : Nat) : State :=
  let s := leaveDrowse (releaseHitch s)
  let p := s.pair
  let s := setPair s { p with copy := .stale, driven := 0, degraded := false, starting := false, peerMayClaim := false
                              incoming := [], ends := [], copying := false, copyNext := none, leaving := none }
  notice (setRole s .resync reason) 3

/-- The start has come to the step that enables the Hawser: a unit in recovery mode, and one whose settings cannot be read, stop before it
(R446–R448). -/
def hawserStarted (s : State) : Bool := 8 ≤ s.update.step && s.life.lifecycle != lcEndOfLife

/-- Eligible to claim at all (R402): started (R447, R448), paired with its key, in Production, not Purged, no level of 3 or above
latched. -/
def mayClaim (s : State) : Bool :=
  hawserStarted s && s.pair.paired && !s.pair.keyGone && s.life.lifecycle == lcProduction && !s.life.purged && s.scarecrow.latched < 3

/-- Begin to claim (R400 step 1): the quiet time runs from when HITCH_IN last read deasserted. A unit in Drowse does not: no Active
unit is in Drowse (Table 16-9). -/
def beginClaim (s : State) : State :=
  if mayClaim s && s.power.state != .drowse then setPair s { s.pair with claim := .quiet s.pair.hitchSince } else s

/-! ### The copied items (Table 14-6) -/

/-- A strand as it is copied. -/
def copyOf (st : Strand) : StrandCopy :=
  { state := st.state, cfg := st.cfg, epoch := st.epoch, classical := st.classical, scannerFixed := st.scannerFixed
    hubFixed := st.hubFixed, peerMac := st.peerMac, next := st.next, head := st.head, headSeq := st.headSeq
    sealNo := st.sealNo, prevSeal := st.prevSeal, sinceSeal := st.sinceSeal, firstSince := st.firstSince
    openTick := st.openTick, boundary := st.boundary, heldFor := st.heldFor }

/-- A strand from its copy, with ticks moved by `d` (R406). -/
def ofCopy (c : StrandCopy) (d : Int) : Strand :=
  let at_ := fun (t : Nat) => ((t : Int) - d).toNat
  { state := c.state, cfg := c.cfg, epoch := c.epoch, classical := c.classical, scannerFixed := c.scannerFixed
    hubFixed := c.hubFixed, peerMac := c.peerMac, next := c.next, head := c.head, headSeq := c.headSeq
    headEpoch := c.epoch, sealNo := c.sealNo, prevSeal := c.prevSeal, sinceSeal := c.sinceSeal
    firstSince := c.firstSince, openTick := at_ c.openTick, boundary := at_ c.boundary
    nextBoundary := at_ c.boundary + c.cfg.segPeriod, heldFor := c.heldFor }

/-- The strands whose copy has changed since the last epoch. -/
def strandChanges (s : State) : List CopyRecord :=
  let ids := tblKeys s.strands ++ (tblKeys s.pair.sentStrands).filter (fun i => !tblHas s.strands i)
  (ids.filter (fun i => copyOf (strandOf s i) != tblGet s.pair.sentStrands i {})).map
    (fun i => .strand i (copyOf (strandOf s i)))

/-- The bytes of a record in the pair format in use are the firmware release's (R395, R444): a free value. -/
def recordBytes (s : State) (r : CopyRecord) : Bytes := Config.recordBytes (pairFormat s) r

/-- Every copied item (R414). -/
def fullCopy (s : State) : List CopyRecord :=
  let gens := (s.wear.filter (fun e => !tblHas s.keys e.1 && e.2.gen != 0)).map (fun e => CopyRecord.key e.1 e.2.gen none)
  s.keys.map (fun e => .key e.1 (genOf s e.1) (some e.2)) ++ gens ++
  [.base s.counterBase] ++ (s.counters.filter (fun e => e.1 != 0x7FF01 && e.1 != 0x7FF02)).map (fun e => .counter e.1 e.2) ++
  s.strands.map (fun e => .strand e.1 (copyOf e.2)) ++ (List.range 128).map (fun p => .port p (portOf s p).cfg) ++
  [.twin s.twin, .compat s.scarecrow.compat] ++
  s.scarecrow.monitors.map (fun e => .monitor e.1 e.2.level e.2.threshold) ++
  s.policies.map (fun e => .policy e.1 e.2) ++ s.officers.map (fun e => .officer e.1 (some e.2)) ++ [.quorum s.quorumM] ++
  s.clients.flatMap (fun e => e.2.creds.map (fun c => CopyRecord.credential e.1 c.1 (some c.2))) ++
  [.sealKeys s.sealKeys s.sealIdle, .verdictKeys s.verdictKeys] ++ s.bindings.map (fun e => .bindings e.1 e.2) ++
  s.trust.map (fun e => .trust e.1 (some e.2)) ++
  s.sheaves.map (fun e => .sheaf e.1 (some e.2) ((s.curves.filter (fun c => c.2.origin == e.1)).map (·.2))) ++
  s.scannerCas.map (fun e => .scanner true e.1 true e.2) ++ s.scannerDenied.map (fun e => .scanner false e true []) ++
  s.instances.map (fun e => .inst e.1 e.2.sheaf e.2.table
    (some { state := e.2.state, cells := e.2.cells, timers := e.2.timers })) ++
  [.trustNo s.trustNo, .time (timeCopy s.almanac), .fieldOut s.pair.driven]

/-- A counter that belongs to the unit alone: the Ledger SEQ and the SVN floor (R299). -/
def ownCounter (id : Nat) : Bool := id == 0x7FF01 || id == 0x7FF02

/-- Add an element that is not there. -/
def addNew {α : Type} [BEq α] (l : List α) (x : α) : List α := if l.contains x then l else l ++ [x]

/-- A copied key in slot `i`: a slot that is damaged here stays so unless the copy is a new key or another generation (R285). -/
def takeKey (s : State) (i g : Nat) (v : KeySlot) : KeySlot :=
  match tblFind s.keys i with
  | some o => { v with damaged := v.damaged || (o.damaged && g == genOf s i && o.type == v.type && o.material == v.material) }
  | none => v

/-- The Almanac takes the Active's time (R406): its TAI offset plus the peer tick offset `d`, 10 µs more UNCERTAINTY, and ticks
translated; with no TIME_SET accepted there, none counts as accepted here (R307). -/
def takeTime (a : Almanac) (t : TimeCopy) (d : Int) : Almanac :=
  if t.set then
    { a with offset := t.offset + d, leap := t.leap, offsetSet := true, timeLost := t.lost, uncertainty := t.uncertainty + 10
             setTick := ((t.setTick : Int) - d).toNat, pllUs := t.pllUs, crystalUs := t.crystalUs }
  else { a with offset := 0, leap := 0, offsetSet := false, uncertainty := 0, setTick := 0 }

/-- Apply one copied item on a Standby or Resync unit: a counter keeps the larger value, so that it never decreases (R299, R414);
ticks and the TAI offset are translated (R406). -/
def applyRecord (s : State) (r : CopyRecord) : State :=
  let d := s.pair.tickOffset
  match r with
  | .key i g k =>
    let w := tblGet s.wear i {}
    { s with keys := match k with | some v => tblSet s.keys i (takeKey s i g v) | none => tblDel s.keys i
             wear := tblSet s.wear i { w with gen := g } }
  | .counter id c =>
    let own := counterOf s id
    { s with counters := tblSet s.counters id { c with value := max c.value own.value, damaged := c.damaged || own.damaged } }
  | .base v =>
    { s with counterBase := max v s.counterBase
             counters := tblMap s.counters (fun id c => if ownCounter id then c else { c with value := max v c.value }) }
  | .strand i c => setStrand s i (ofCopy c d)
  | .port p c => settleFloors (storePort s p c)
  | .twin on => { s with twin := on }
  | .compat v => setScarecrow s { s.scarecrow with compat := v }
  | .monitor m l t => setMonitor s m { monitorOf s m with level := l, threshold := t }
  | .policy n p => { s with policies := tblSet s.policies n p }
  | .officer n o => { s with officers := match o with | some v => tblSet s.officers n v | none => tblDel s.officers n }
  | .quorum m => { s with quorumM := m }
  | .credential c n v =>
    let w := clientOf s c
    setClient s c { w with creds := match v with | some x => tblSet w.creds n x | none => tblDel w.creds n }
  | .sealKeys k idle => { s with sealKeys := k, sealIdle := idle }
  | .verdictKeys k => { s with verdictKeys := k }
  | .bindings i bs => { s with bindings := if bs.isEmpty then tblDel s.bindings i else tblSet s.bindings i bs }
  | .trust id e =>
    { s with trust := match e with | some v => tblSet s.trust id v | none => tblDel s.trust id
             trustNo := max s.trustNo (id + 1), dsCache := [] }
  | .sheaf n x cs =>
    let s := dropBreakpoints s n
    { s with sheaves := match x with | some v => tblSet s.sheaves n v | none => tblDel s.sheaves n
             curves := cs.foldl (fun t c => tblSet t c.id c) (tblDrop s.curves (fun _ c => c.origin == n)) }
  | .scanner ca id present der =>
    if ca then
      let rest := s.scannerCas.filter (fun e => e.1 != id)
      { s with scannerCas := if present then rest ++ [(id, der)] else rest }
    else { s with scannerDenied := if present then addNew s.scannerDenied id else s.scannerDenied.filter (· != id) }
  | .inst key sheaf table c =>
    { s with instances := match c with
        | some v => tblSet s.instances key { sheaf, table, state := v.state, cells := v.cells
                                             timers := tblMap v.timers (fun _ t => ((t : Int) - d).toNat) }
        | none => tblDel s.instances key }
  | .trustNo n => { s with trustNo := max s.trustNo n }
  | .time t => setPair { s with almanac := takeTime s.almanac t d } { s.pair with peerOffset := t.offset }
  | .fieldOut v => if s.pair.role == .standby && !s.scarecrow.wdogFired then setPair s { s.pair with driven := v } else s

/-- The unit's own copied items, before a full copy replaces them (R414): counters are kept to be compared, and generations take the
copied values, 0 where the copy has none; ports and single settings are replaced one by one. -/
def clearCopied (s : State) : State :=
  let s := (strandIds s).foldl (fun s i => setStrand s i {}) s
  { s with keys := [], wear := tblMap s.wear (fun _ w => { w with gen := 0 }), policies := [], officers := [], bindings := []
           counters := tblMap s.counters (fun id c => if deviceCounter id then c else { c with allocated := false, attr := 0 })
           trust := [], sheaves := [], curves := [], dsCache := []
           scannerCas := [], scannerDenied := [], instances := [], clients := tblMap s.clients (fun _ c => { c with creds := [] })
           scarecrow := { s.scarecrow with monitors := tblMap s.scarecrow.monitors (fun m w =>
             { w with level := monitorDefault m, threshold := thresholdDefault s.ident.gradeE m }) } }

/-! ### Epochs (R404, R405, R407) -/

/-- The value of what a key of `ackedValues` names. -/
def valueOf (s : State) (k : Nat) : Nat :=
  if 0x100000 ≤ k then
    match tblFind s.keys (k - 0x100000) with
    | some x => x.invocation
    | none => 0
  else counterValue s k

/-- End an epoch and send it on both paths (R404): the records, then EPOCH_END. -/
def sendEpoch (s : State) (final : Bool) : State :=
  let rs := s.pair.changes ++ strandChanges s
  let e := s.pair.epoch + 1
  let vals := s.pair.ackedValues.map (fun x => (x.1, valueOf s x.1))
  let s := setPair s { s.pair with
    epoch := e, changes := [], sentEpochs := tblSet s.pair.sentEpochs e (s.now, vals)
    sentStrands := s.strands.map (fun x => (x.1, copyOf x.2)) }
  let s := rs.foldl (fun s r => sendRecord s hwEpochData (recordBytes s r)) s
  sendBoth s hwEpochEnd (le 8 e ++ le 4 rs.length ++ le 4 (ofBool final) ++ sha3 (rs.flatMap (recordBytes s)))

/-- The peer has acknowledged epoch `e`: the counter values it holds (R405), and whether its acknowledgement came within
5 ms of the epoch's end (R392). -/
def ackEpoch (s : State) (e : Nat) : State :=
  match tblFind s.pair.sentEpochs e with
  | none => s
  | some (t, vals) =>
    let keep := (tblKeys s.pair.ackedValues).filterMap (fun k =>
      match tblFind vals k with
      | none => some (k, tblGet s.pair.ackedValues k 0)
      | some v => if valueOf s k == v then none else some (k, v))
    setPair s { s.pair with acked := max s.pair.acked e, ackedValues := keep, lagging := t + 5000 < s.now
                            sentEpochs := tblDrop s.pair.sentEpochs (fun k _ => k ≤ e) }

/-- Whether the oldest epoch not acknowledged has waited more than 5 ms (R392). -/
def lagCheck (s : State) : State :=
  if s.pair.sentEpochs.any (fun x => x.2.1 + 5000 < s.now) then setPair s { s.pair with lagging := true } else s

/-- Stream a full copy (R414). -/
def sendCopy (s : State) : State :=
  let s := (fullCopy s).foldl (fun s r => sendRecord s hwBulk (recordBytes s r)) s
  setPair s { s.pair with sentStrands := s.strands.map (fun x => (x.1, copyOf x.2)), sentEpochs := [], ackedValues := [] }

/-- The records of epoch `e` that have arrived. -/
def recordsOf (s : State) (e : Nat) : Tbl CopyRecord := tblGet s.pair.incoming e []

/-- The records of an epoch are complete: all of them, with the right DIGEST (R404). -/
def epochRecords (s : State) (e n : Nat) (digest : Bytes) : Option (List CopyRecord) :=
  let rs := (List.range n).filterMap (tblFind (recordsOf s e))
  if rs.length == n && sha3 (rs.flatMap (recordBytes s)) == fit 32 digest then some rs else none

/-- Every record of an epoch up to RECORDS has arrived. -/
def epochWhole (s : State) (e n : Nat) : Bool := (List.range n).all (tblHas (recordsOf s e))

/-! ### ANNOUNCE (R410) -/

/-- The ANNOUNCE payload (Table 14-7). -/
def announceBytes (s : State) (p kind : Nat) : Bytes :=
  le 2 kind ++ le 1 (selectorOf p) ++ le 1 (roleNo s.pair.role) ++
  le 4 (if s.pair.role == .solo then 0 else s.pair.epoch) ++ le 8 s.ident.serial ++
  le 8 (if s.pair.role == .solo then 0 else s.pair.peerSerial) ++ le 8 s.now

/-- Send an ANNOUNCE on a port whose link is up, while the unit acts (R410). -/
def announce (s : State) (kind p : Nat) : State :=
  if !(portOf s p).up || !acting s then s
  else
    let b := announceBytes s p kind
    sendCtrl s p { kind := 6, dst := List.replicate 6 0xFF
                   bytes := strandHeader 6 1 0 b.length 0 0 0 0 0 (zeros 12) ++ b ++ zeros 16 }

/-- An ANNOUNCE on every enabled port. -/
def announceAll (s : State) (kind : Nat) : State := (tblKeys s.ports).foldl (fun s p => announce s kind p) s

/-! ### Takeover (R408) -/

/-- The leap (R301, R253). -/
abbrev leap : Nat := 2 ^ 24

/-- The invocation counter of a slot leaps; its wear table counts the advances (R159, R286). -/
def leapKey (s : State) (i : Nat) (k : KeySlot) : State :=
  let v := min (2 ^ 48) (k.invocation + leap)
  let w := tblGet s.wear i {}
  setKey { s with wear := tblSet s.wear i { w with advances := w.advances + (v - k.invocation) } } i { k with invocation := v }

/-- Every counter but the Ledger SEQ and the SVN floor, those that have never been written too, and every invocation counter, leaps
(R301, R253, R159). -/
def leapAll (s : State) : State :=
  let v := advanced s.counterBase leap
  let s := share { s with counterBase := v } (.base v)
  let s := s.counters.foldl (fun s e =>
    if ownCounter e.1 then s else setCounter s e.1 { e.2 with value := advanced e.2.value leap }) s
  s.keys.foldl (fun s e => leapKey s e.1 e.2) s

/-- Session slots that no instance and no chip session names are erased, as at an instance's end (R274). -/
def eraseLostSlots (s : State) : State :=
  let named := s.instances.flatMap (fun e => e.2.slots.map (·.2)) ++
    s.strands.flatMap (fun e => (e.2.chip.map (·.slots)).getD [])
  ((s.keys.filter (fun e => e.2.session && !named.contains e.1)).map (·.1)).foldl eraseKey s

/-- A resumed strand posts STRAND_STATE with reason 13 (R143): one that the former active held for its own Freeze is OPEN
here, where none is in force. -/
def resumedEvent (s : State) (i : Nat) : State :=
  let st := strandOf s i
  if st.state == .held && st.heldFor == 9 && !frozen s then
    changeState (setStrand s i { st with heldFor := 0 }) i .opened 13
  else stateEvent s i (strandNo st.state) (strandNo st.state) 13

/-- A strand of the copy at takeover (R138). Its instances get RESUME before any other event (Table 9-13). A strand that was CLOSING is closed as at a start, notes/assumptions/37.md
(DESIGN CHOICE). -/
def resumeStrand (s : State) (i : Nat) : State :=
  let st := strandOf s i
  match st.state with
  | .opened | .held =>
    let r := st.headSeq + 1
    let st := { st with next := r, window := [], missing := [], empty := [], todo := [], building := none, gate := []
                        epochStart := s.now, sealAt := s.now
                        ctrl := (if tblHas s.bindings i then [.resume r] else []) ++ st.ctrl }
    let s := setStrand s i st
    let k := bareKnot s i kResume r (s.pair.epoch % 2 ^ 32)
    let s := pushKnot s i { knot := k, ack := false }
    let k := match (strandOf s i).building with | some b => b.knot | none => k
    resumedEvent (sendMsg s i 0x000B (le 8 r ++ knotBytes k)) i
  | .keying => changeState (eraseBank s i st.epoch) i .armed 12
  | .closing => if frozen s then setStrand s i { st with state := .held, heldFor := 9, closeAtThaw := true } else closeAtStart s i
  | _ => s

/-- A strand by its last durable record, when a unit begins to act after its own start (R140). -/
def restartStrand (s : State) (i : Nat) : State :=
  let c := tblGet s.durable i {}
  let s := setStrand s i (ofCopy c 0)
  match c.state with
  | .opened | .held | .closing =>
    if frozen s then
      let st := strandOf s i
      changeState (setStrand s i { st with state := .opened, heldFor := 9, closeAtThaw := true }) i .held 9
    else closeAtStart s i
  | .keying => changeState (eraseBank s i c.epoch) i .armed 17
  | _ => s

/-- Begin to act after a start, as Solo or by a claim (R140). Sheaf instances are not kept across a start. -/
def beginActing (s : State) : State :=
  (tblKeys s.durable).foldl restartStrand (eraseLostSlots { s with instances := [] })

/-- The claim is confirmed (R408): steps 1 to 4. A unit that was Active and has kept its role through a collision only
holds the Hitch again; what it copied from a peer leaps (R301). -/
def takeOver (s : State) : State :=
  if s.pair.role == .active then setPair s { s.pair with claim := .none }
  else
    let start := s.pair.starting
    let running := s.pair.role == .standby
    let copied := s.pair.copy == .current
    let degraded := !(s.pair.peerReachable && s.pair.peerRole == 2)
    let p := { s.pair with
      incoming := [], ends := [], copyNext := none, copy := .own, claim := .none, starting := false, copying := false, degraded, peerMayClaim := !degraded
      takeovers := if running then sat32 (s.pair.takeovers + 1) else s.pair.takeovers
      gap := if running then sat32 (s.now - s.pair.hitchSince) else s.pair.gap
      changes := [], sentEpochs := [], ackedValues := [], sentStrands := [], lagging := false }
    let s := setPair s p
    let s := setRole s .active (if start then 11 else if s.pair.keyex.isSome then 1 else 2)
    let s := eraseLostSlots (if copied then leapAll s else s)
    let s := if start then beginActing s else s
    let s := (tblKeys s.ports).foldl startTx s
    let s := announceAll s 1
    if start || !running then s else (strandIds s).foldl resumeStrand s

/-! ### Leaving the role -/

/-- What is knotted is released, before an Active unit hands over (R415, R418). -/
def releaseKnotted (s : State) : State := (strandIds s).foldl drain s

/-- Every knotted frame has left: no knot is being built, the gates hold nothing that a port which is up could send, and no such port has
anything to send. -/
def egressDone (s : State) : Bool :=
  s.strands.all (fun e => e.2.building.isNone && (e.2.gate.isEmpty || !(portOf s (egressOf e.2)).up)) &&
  s.ports.all (fun e => !e.2.up || (e.2.sending.isNone && e.2.ctrlQ.isEmpty && e.2.dataQ.isEmpty))

/-- No seal waits for its signature. -/
def sealsDone (s : State) : Bool := s.strands.all (fun e => e.2.sealQ.isEmpty)

/-- What the alarm responses do to the pair role (R415, Table 14-8): `lvl` is the level latched. An Active unit whose peer takes over
hands over once its frames have left, with a last epoch unless the pair key is gone. -/
def pairAlarm (s : State) (lvl : Nat) : State :=
  match s.pair.role with
  | .active =>
    if s.pair.peerReachable && s.pair.peerRole == 2 && s.pair.peerAlarm < 3 then
      releaseKnotted (setPair s { s.pair with leaving := some (lvl == 3 && s.pair.leaving != some false) })
    else if lvl == 4 && s.pair.leaving.isSome then setPair s { s.pair with leaving := some false }
    else s
  | .standby => goIsolated s 7
  | .resync => goIsolated s 7
  | _ => if s.pair.claim == .none then s else releaseHitch s

/-- A unit that leaves for an alarm (R415): its FREEZE seals are made and its frames have left, it sends its last epoch with FINAL, and it
releases the Hitch and is Isolated. One whose peer can no longer take over keeps the Hitch. -/
def leaveActive (s : State) : State :=
  match s.pair.leaving with
  | none => s
  | some final =>
    if s.pair.role != .active || (final && !(s.pair.peerReachable && s.pair.peerRole == 2 && s.pair.peerAlarm < 3)) then
      setPair s { s.pair with leaving := none }
    else if egressDone s && (!final || sealsDone s) then goIsolated (if final then sendEpoch s true else s) 7
    else s

/-- A planned switchover goes to its step 3 once its frames have left: the transmitters are disabled and the last epoch goes out with
FINAL (R418). -/
def switchSends (s : State) : State :=
  match (fnOf s 0).held with
  | some h =>
    if h.why == .switchover none && s.pair.role == .active && egressDone s then
      let s := sendEpoch s true
      setFn s 0 { fnOf s 0 with held := some { h with why := .switchover (some s.pair.epoch) } }
    else s
  | none => s

/-- What a unit that hands over does as soon as it can; runs after every command. -/
def handOver (s : State) : State := switchSends (leaveActive s)

/-- The pair record is gone: the unit is Solo and unpaired (R419, Table 14-8). -/
def unpair (s : State) (reason : Nat) : State :=
  let s := releaseHitch s
  let old := s.pair
  let s := pathEnds (pathEnds s .a old.pathA.link) .b old.pathB.link
  let quiet := fun (w : HawserPath) => { w with lastBeat := none, silent := false }
  let p : Pair := { seat := old.seat, hitchIn := old.hitchIn, hitchSince := old.hitchSince, collision := old.collision
                    lineFault := old.lineFault, pathA := quiet s.pair.pathA, pathB := quiet s.pair.pathB, tx := old.tx
                    beatAt := old.beatAt, beatPath := old.beatPath
                    tagFails := old.tagFails, lastReason := old.lastReason, epoch := old.epoch }
  pairEvent (setPair s p) (roleNo old.role) reason

/-- The unit departs (R419): every key slot and the pair record are zero-filled, every strand is UNUSED, every counter
released with its value, and the unit is Solo. -/
def depart (s : State) : State :=
  let s := (tblKeys s.keys).foldl eraseKey s
  let s := (strandIds s).foldl (fun s i => if (strandOf s i).state == .unused then s else changeState (setStrand s i { strandOf s i with cfg := {} }) i .unused 1) s
  let s := { s with counters := tblMap s.counters (fun id c => if deviceCounter id then c else { c with allocated := false, attr := 0 })
                    durable := [], instances := [] }
  unpair s 9

/-! ### Field outputs (R412, R413) -/

/-- The outputs this unit would pull low: an Active, Standby or Solo unit whose watchdog has not fired (R412). -/
def applyField (s : State) (v seq : Nat) : State :=
  if s.pair.role == .resync || s.pair.role == .isolated || s.scarecrow.wdogFired then s
  else setPair s { s.pair with driven := v, fieldSeq := seq }

/-- FIELD_SEQ counts changes modulo 2^16. -/
def nextSeq (n : Nat) : Nat := (n + 1) % 65536

end Sys2Proof.Machine
end

