-- ==== Sys2Proof/Machine/PowerOps.lean ====
section
/-! DEFINITION. Resets and power (chapter 16), and the firmware banks (chapter 15): the settings region and its copy, the
cold reset, the orderly shutdown, the rails, and the bale in the staging bank. -/

namespace Sys2Proof.Machine

/-- Change the Grange's state. -/
def setPower (s : State) (p : Power) : State := { s with power := p }

/-- Change the update state. -/
def setUpdate (s : State) (u : Update) : State := { s with update := u }

/-- The main domain is powered: Active or Drowse (Table 16-3). -/
def powered (s : State) : Bool := s.power.state == .active || s.power.state == .drowse

/-! ### Settings (R439, R443) -/

/-- What the settings region holds. -/
def takeSettings (s : State) : SettingsCopy :=
  { clients := s.clients, twin := s.twin, compat := s.scarecrow.compat, ports := s.ports.map (fun e => (e.1, e.2.cfg))
    strands := s.strands.map (fun e => (e.1, e.2.cfg))
    monitors := s.scarecrow.monitors.map (fun e => (e.1, e.2.level, e.2.threshold)), policies := s.policies
    officers := s.officers, quorumM := s.quorumM, sealKeys := s.sealKeys, sealIdle := s.sealIdle
    verdictKeys := s.verdictKeys, signers := s.signers, bindings := s.bindings, lock := s.update.lock }

/-- A durable strand record under restored settings: a strand the settings do not configure is UNUSED. -/
def restoreStrand (x : SettingsCopy) (i : Nat) (c : StrandCopy) : StrandCopy :=
  match tblFind x.strands i with
  | some cfg => { c with cfg }
  | none => {}

/-- A port's configuration returns to the copy's; a change of the link fields takes its link down (R80). -/
def restorePort (x : SettingsCopy) (s : State) (p : Nat) : State :=
  let c := tblGet x.ports p {}
  let s := if linkFields (portOf s p).cfg == linkFields c then s else takeDown s p
  setPort s p { portOf s p with cfg := c }

/-- A port takes its place in the lane groups as the configurations stand (R75). -/
def placePort (s : State) (p : Nat) : State :=
  let l := laneLead s p
  let s := if l.isSome then takeDown s p else s
  setPort s p { portOf s p with absorbed := l.isSome, lead := l.getD 0 }

/-- The ports return to the copy, lane groups with them (R75, R443). -/
def restorePorts (s : State) (x : SettingsCopy) : State :=
  let ps := (tblKeys s.ports ++ x.ports.map (·.1)).eraseDups
  let s := ps.foldl (restorePort x) s
  settleFloors ((List.range 120).foldl (fun s p => if (laneLead s p).isSome || (portOf s p).absorbed then placePort s p else s) s)

/-- The settings return to a copy. -/
def putSettings (s : State) (x : SettingsCopy) : State :=
  let ms := tblMap s.scarecrow.monitors (fun m w =>
    let (l, t) := tblGet x.monitors m (monitorDefault m, thresholdDefault s.ident.gradeE m)
    { w with level := l, threshold := t })
  let s := restorePorts s x
  { s with clients := x.clients, twin := x.twin, policies := x.policies, officers := x.officers
           quorumM := x.quorumM, sealKeys := x.sealKeys, sealIdle := x.sealIdle, verdictKeys := x.verdictKeys
           signers := x.signers, bindings := x.bindings, durable := tblMap s.durable (restoreStrand x)
           scarecrow := { s.scarecrow with monitors := ms, compat := x.compat }
           update := { s.update with lock := x.lock } }

/-- Settings, stores and journals as a purge of all leaves them (R347, R343, R467). -/
def dropSettings (s : State) : State :=
  let ms := tblMap s.scarecrow.monitors (fun m w =>
    { w with level := monitorDefault m, threshold := thresholdDefault s.ident.gradeE m })
  { s with
    keys := [], clients := [], twin := true, curves := [], sealKeys := {}, sealIdle := 0, scannerCas := [], scannerDenied := []
    trust := [], policies := [], dsCache := [], verdictKeys := {}, verdicts := [], sheaves := [], signers := [], bindings := []
    instances := [], almanac := { s.almanac with timeKey := 0 }, journal := [], officers := [], quorumM := 1, approvals := []
    subs := [{ client := 0, first := 0, last := 4095, ring := 0, kinds := 6 }]
    counters := tblMap s.counters (fun _ c => { c with allocated := false, attr := 0 })
    scarecrow := { s.scarecrow with monitors := ms, compat := 0 } }

/-! ### Life-cycle transitions (R368–R375) -/

/-- Change the life-cycle part. -/
def setLife (s : State) (v : Life) : State := { s with life := v }

/-- The state the three fuse rows read as (R368, Table 13-1). -/
def lifecycleOf (rows : List Nat) : Nat :=
  match rows with
  | [0x00, 0x00, 0x00] => lcBlank
  | [0x0F, 0x0F, 0x0F] => lcTest
  | [0x3F, 0x3F, 0x3F] => lcProduction
  | _ => lcEndOfLife

/-- What lies under the Loft root key is gone: settings, stores, journals, strands, ports, the pair record. -/
def eraseProtected (s : State) : State :=
  let s := { dropSettings s with ports := [], strands := [], durable := [] }
  if s.pair.paired then unpair s 9 else setPair s { s.pair with identity := none }

/-- The state a transition command leads to (R371); `none` where none does. -/
def lifeTarget (code : Nat) (payload : Bytes) (s : State) : Option Nat :=
  let lc := s.life.lifecycle
  if code == 0x0D07 then (if lc == lcEndOfLife then none else some lcEndOfLife)
  else
    let t := rd payload 0 1
    if (lc == lcBlank && t == lcTest) || (lc == lcTest && t == lcProduction) then some t else none

/-- The pattern of a state's fuse rows (Table 13-1). -/
def rowPattern (lc : Nat) : Nat := [0x00, 0x0F, 0x3F, 0xFF].getD lc 0xFF

/-- What step 2 of Table 13-4 leaves, from Test to Production: the protected regions are gone, fresh Loft keys serve the unit, the
device epoch begins, and the SVN floor becomes that of the running bale (R302, R433). -/
def leaveTest (s : State) : State :=
  let s := eraseProtected s
  let s := setScarecrow s { s.scarecrow with rootValid := true, custodyValid := true, reload := 0, zerofill := 0, zerofillEnd := 0 }
  setUpdate { s with almanac := { s.almanac with newEpoch := true } } { s.update with svnFloor := (running s).svn }

/-- A fuse row in which some of the bits that a burn sets have been set: a bit only goes from 0 to 1 (R368). -/
def burnRow (old target mask : Nat) : Nat := old ||| (target &&& mask)

/-- The rows as they read back after the burn (R375). Whether a row takes every bit is not for the device to say: FREE VALUES,
notes/assumptions/37.md. -/
def rowsRead (s : State) (target : Nat) : List Nat :=
  (List.range 3).map (fun k => burnRow (s.life.rows.getD k 0) (rowPattern target) (Config.free (0x0D10 + k) s.rng))

/-- The rows that a burn leaves when power fails in it: rows before the one under way hold the target, and that one some of its bits
(Table 13-4 step 3). How far it came is a FREE VALUE. -/
def rowsCut (s : State) (target : Nat) : List Nat :=
  let at_ := Config.free 0x0D13 s.rng % 3
  (List.range 3).map (fun k =>
    let old := s.life.rows.getD k 0
    if k < at_ then rowPattern target else if k == at_ then burnRow old (rowPattern target) (Config.free (0x0D10 + k) s.rng) else old)

/-- The transition under way, with the state it leads to. -/
def transitionOp (s : State) : Option (Nat × DefOp × Nat) :=
  s.fns.findSome? (fun e => e.2.ops.findSome? (fun o =>
    if o.code == 0x0D02 || o.code == 0x0D07 then (lifeTarget o.code o.payload s).map (fun t => (e.1, o, t)) else none))

/-- The step of Table 13-4, less 1, that a transition under way has reached: no clock of the model tells, so it is a FREE VALUE,
notes/assumptions/37.md. -/
def transitionStep (s : State) : Nat := Config.free 0x0D02 s.rng % 4

/-- A reset or a loss of power cuts a transition (Table 13-4): before its end nothing has changed; in step 2 only the vendor's data
is gone; in the burn a loss of power leaves rows partly burned, while a reset takes effect after step 4 (R375). -/
def cutTransition (s : State) (powerLost : Bool) : State :=
  match transitionOp s with
  | none => s
  | some (_, _, t) =>
    let n := transitionStep s
    let erases := s.life.lifecycle == lcTest && t == lcProduction
    let w := draw { s with fns := [] }
    if n == 0 then w
    else if n == 1 then (if erases then eraseProtected w else w)
    else
      let rows := if n == 2 && powerLost then rowsCut s t else rowsRead s t
      let w := if erases then leaveTest w else w
      setLife w { w.life with rows }

/-- The state in force becomes the one that the fuse rows hold (R368). -/
def readFuses (s : State) : State := setLife s { s.life with lifecycle := lifecycleOf s.life.rows }

/-! ### The cold reset (R464) -/

/-- A port after a cold reset: only its configuration and its place in a lane group are kept (R80, R100). -/
def portAtReset (w : Port) : Port := { cfg := w.cfg, absorbed := w.absorbed, lead := w.lead }

/-- A cold reset starts the tick from 0: in Blank and Test, and where it begins the device epoch (R302). -/
def tickRestarts (s : State) : Bool := s.life.lifecycle == lcBlank || s.life.lifecycle == lcTest || s.almanac.newEpoch

/-- The Scarecrow through a cold reset (R464): levels, thresholds, causes present, decisions to be made, Throttle, the latch but for
level 5 in Test (R351), the Loft, the Vigil log and a pending zero-fill are kept; counts since cold reset start again, and the numbers
of the Vigil log with the device epoch (R361). -/
def scarecrowAtReset (s : State) : Scarecrow :=
  let c := s.scarecrow
  let unlatch := c.latched == 5 && s.life.lifecycle == lcTest
  { c with
    monitors := tblMap c.monitors (fun _ w =>
      { w with events := 0, recent := if tickRestarts s then (w.recent.filter (s.now < ·)).map (· - s.now) else w.recent })
    seen := 0, count := 0
    latched := if unlatch then 0 else c.latched, latchSrc := if unlatch then 0 else c.latchSrc
    throttleEnd := if tickRestarts s then c.throttleEnd - s.now else c.throttleEnd, testing := false, reload := 0, zerofillEnd := 0
    vigilSeq := if s.almanac.newEpoch then 0 else c.vigilSeq, lastRefresh := if tickRestarts s then 0 else s.now
    motion := c.motion.map (fun t => if tickRestarts s then t - s.now else t)
    decisions := if tickRestarts s then c.decisions.map (fun d => { d with detect := d.detect - s.now, due := d.due - 4 * s.now }) else c.decisions
    wdogArmed := false, stopped := false, lastTck := none }

/-- The pair record through a cold reset; a paired unit is Isolated until it finds its peer (Table 14-5). -/
def pairAtReset (p : Pair) : Pair :=
  { role := if p.paired then .isolated else .solo, paired := p.paired, seat := p.seat, peerSerial := p.peerSerial
    pairKey := p.pairKey, pairKid := p.pairKid, keyGone := p.keyGone, copy := p.copy, peerMayClaim := p.peerMayClaim
    hitchIn := p.hitchIn, hitchSince := p.hitchSince, tx := p.tx, epoch := p.epoch
    identity := p.identity }

/-- What of the update state the update journal and the bank-select word keep (R430–R442). -/
def updateAtReset (u : Update) : Update :=
  { u with activation := .none, step := 0, code := 0, recovery := false, mbxReady := false, captureReady := false
           testsPassed := [], attemptStart := 0, resetAfterFill := false, deadline := 0 }

/-- The Grange through a cold reset: shed phases return (R457), energy counts anew (Table 16-7). -/
def powerAtReset (p : Power) : Power :=
  { p with state := .active, phasesCore := 0xFFFF, phasesSer := 0xF, resetAt := 0, resetPending := false
           holdover := false, linkUp := false, linkWidth := 0, linkRate := 0, smbus := [], smbusAck := false
           telemetry := tblDel p.telemetry 15 }

/-- A cold reset (R464): everything outside the always-on domain restarts, all Granary contents survive, and the device
stands at t0 of R446. In Blank and Test the tick starts from 0, and so does the device epoch with the first start in Production
(R302). Sheaf instances are gone, and their session slots with them (R140, R274). The fuse rows are read (R368). -/
def coldReset (s : State) : State :=
  let s := readFuses (cutTransition s false)
  let lc := s.life.lifecycle
  let early := tickRestarts s
  let w : State :=
    { pending := s.pending, now := if early then 0 else s.now, rng := s.rng, ident := s.ident, clients := s.clients
      hostWrites := s.hostWrites, keys := tblDrop s.keys (fun _ k => k.session), wear := s.wear, counters := s.counters
      counterBase := s.counterBase
      almanac := if early then {} else { s.almanac with lowRate := false }, ledger := s.ledger, twin := s.twin, curves := s.curves }
  { w with
    ports := tblMap s.ports (fun _ p => portAtReset p), durable := s.durable
    strands := s.durable.map (fun e => (e.1, { ofCopy e.2 0 with state := if e.2.state == .unused then .unused else .armed }))
    hatch := { tag := 0xFFFF, internal := true, held := true }
    sealKeys := s.sealKeys, sealIdle := s.sealIdle, scannerCas := s.scannerCas, scannerDenied := s.scannerDenied
    trust := s.trust, trustNo := s.trustNo, policies := s.policies, verdictKeys := s.verdictKeys, sheaves := s.sheaves
    signers := s.signers, bindings := s.bindings, journal := s.journal, journalNo := s.journalNo, approvalNo := s.approvalNo, officers := s.officers
    quorumM := s.quorumM, scarecrow := scarecrowAtReset s
    life := { s.life with debug := if lc == lcBlank then 3 else 0, challenge := none, debugExpires := 0 }
    pair := pairAtReset s.pair, update := updateAtReset s.update, power := powerAtReset s.power }

/-! ### The trial's conditions (R440) -/

/-- Every testable monitor has passed SELF_TEST in the attempt. -/
def testsDone (s : State) : Bool := ((List.range 32).filter monitorTestable).all (s.update.testsPassed.contains ·)

/-- The conditions of R440 beside the 30 s. -/
def trialHolds (s : State) : Bool :=
  s.update.phase == .trial && s.update.activation == .none && stewardServes s && testsDone s && s.update.captureReady &&
  alarmLevel s < 2 &&
  (!s.pair.paired || s.pair.role == .standby || (s.pair.role == .active && s.pair.peerReachable && s.pair.peerRole == 2))

/-- The configuration that stands (R435). -/
def configOf (u : Update) : BankConfig :=
  { bank := u.bank, attempt := u.attempt, phase := u.phase, saved := u.saved, fallback := u.fallback, confirming := u.confirming }

/-- Power is lost while the release may confirm itself: whether the update journal holds CONFIRMING by then is a FREE VALUE (R441,
Table 15-6), notes/assumptions/38.md. Copy 1 of the bank-select word may have been written: the start finds which copies are valid. -/
def cutConfirm (s : State) : State :=
  if trialHolds s && s.update.attemptStart + 30000000 ≤ s.now && Config.free 0x0441 s.rng % 2 == 1 then
    let u := { s.update with confirming := true }
    setUpdate s { u with word1 := { bank := u.bank, attempt := 0, was := configOf u } }
  else s

/-! ### Shutdown and rails (R455–R457) -/

/-- A POWER entry in the Ledger: feeds and rails (Table 10-8). -/
def powerNote (s : State) (value : Nat) : State := note s 0xF00C (le 1 (feedBits s) ++ le 1 s.power.railsGood.length ++ zeros 2 ++ le 4 value)

/-- The tick is stored (R303); only in Production is it kept (R302). -/
def storeTick (s : State) : State :=
  if s.life.lifecycle == lcProduction then { s with almanac := { s.almanac with store := s.now } } else s

/-- The slot writes under way are completed (R455), each with its command's Ledger entry. -/
def completeWrites (s : State) : State :=
  s.writes.foldl (fun s w =>
    let s := applyWrite s w
    if isLogged w.code then logCommand s w.code w.fn w.tag sOk 0 w.payload else s) { s with writes := [] }

/-- The orderly shutdown (R455): the Almanac store and the Ledger entry are written, Hitch and field outputs are
released, the rails go off, and Vigil follows. The slot writes under way are completed first. A trial under way counts its attempt
at the next start (Table 15-6). -/
def shutdown (s : State) : State :=
  let s := powerNote (storeTick (completeWrites (cutConfirm s))) 0
  let old := powerNo s.power.state
  let s := powerEvent s 2 old 2 0
  let s := releaseHitch s
  let s := coldReset (cutTransition (setPair s { s.pair with driven := 0 }) true)
  setPower { s with almanac := { s.almanac with lowRate := true } } { s.power with state := .vigil, railsGood := [], railStarting := none }

/-- The rails start to rise with VIO (Table 16-1). -/
def startRails (s : State) : State :=
  setPower s { s.power with railsGood := [], railStarting := some .vio, retryAt := 0 }

/-- The rail after another. -/
def nextRail : Rail → Option Rail
  | .vio => some .vddh
  | .vddh => some .vcore
  | .vcore => some .vser
  | .vser => none

/-- A rail's number in the sequence. -/
def railNo : Rail → Nat
  | .vio => 1 | .vddh => 2 | .vcore => 3 | .vser => 4

/-- Every rail is good. -/
def railsUp (s : State) : Bool := s.power.railsGood.length == 4

/-! ### The bale (R426–R433) -/

/-- The bytes of the staging bank received so far; chunks stand at INDEX × 65,536. -/
def staged (s : State) : Bytes := (List.range (chunkCount s)).flatMap (fun k => tblGet s.update.chunks k [])

/-- Where the signature block ends (R426). -/
def sigEnd (alg : Nat) : Nat := ceilDiv (400 + 96 + (if alg == 2 then 3309 else 0)) 16 * 16

/-- The manifest entry of part `p`, 1 to 7, if exactly one entry names it. -/
def manifestOf (b : Bytes) (p : Nat) : Option Bytes :=
  match (List.range 7).filter (fun k => rd b (64 + 48 * k) 1 == p) with
  | [k] => some (slice b (64 + 48 * k) 48)
  | _ => none

/-- The seven entries in PART order. -/
def manifest (b : Bytes) : List Bytes := ((List.range 7).map (· + 1)).filterMap (manifestOf b)

/-- An entry's image lies where R426 lets it. -/
def placed (b e : Bytes) : Bool :=
  allZero (slice e 1 3) && 1 ≤ rd e 12 4 && rd e 8 4 % 16 == 0 && sigEnd (rd b 11 1) ≤ rd e 8 4 &&
    rd e 8 4 + rd e 12 4 ≤ rd b 16 4

/-- Two images do not overlap. -/
def apart (e f : Bytes) : Bool := rd e 8 4 + rd e 12 4 ≤ rd f 8 4 || rd f 8 4 + rd f 12 4 ≤ rd e 8 4

/-- No two images of a list overlap. -/
def allApart : List Bytes → Bool
  | [] => true
  | e :: l => l.all (apart e) && allApart l

/-- Header, manifest and image placement follow R426. -/
def layoutOk (len : Nat) (b : Bytes) : Bool :=
  let m := manifest b
  slice b 0 4 == ascii "BAL1" && rd b 4 2 == 1 && rd b 6 2 == 7 && rd b 10 1 < 4 && (rd b 11 1 == 1 || rd b 11 1 == 2) &&
    rd b 16 4 == len && allZero (slice b 28 4) && allZero (slice b 48 16) && m.length == 7 && m.all (placed b) &&
    allApart m && sigEnd (rd b 11 1) ≤ len

/-- Both signatures of R427, over "OPM-BALE" and bytes 0–399; an N part checks ECDSA alone. -/
def baleSigned (s : State) (b : Bytes) : Bool :=
  let m := ascii "OPM-BALE" ++ slice b 0 400
  verifyP384 Config.vendorBaleEcdsa m (slice b 400 96) &&
    (s.ident.optionN || (rd b 11 1 == 2 && verifyMldsa65 Config.vendorBaleMldsa m (slice b 496 3309)))

/-- What a bale says (Tables 15-1, 15-2). -/
def baleInfo (b : Bytes) : BaleInfo :=
  let m := manifest b
  { svn := rd b 12 4, versions := m.map (fun e => rd e 4 4), digests := m.map (fun e => slice e 16 32)
    schema := rd b 24 2, schemaMin := rd b 26 2, pairFormat := rd b 20 2, pairFormatPrev := rd b 22 2
    release := slice b 32 16, baleId := sha3 (slice b 0 400) }

/-- Every image matches its DIGEST. -/
def imagesOk (b : Bytes) : Bool := (manifest b).all (fun e => sha3 (slice b (rd e 8 4) (rd e 12 4)) == slice e 16 32)

/-- The first of the reasons 16, 10, 9, 12, 13, 14, 15, 11 that the staged bale meets (R432). -/
def baleFault (s : State) : Option Nat :=
  let b := staged s
  let x := baleInfo b
  let schema := (running s).schema
  if !layoutOk s.update.baleLen b then some 16
  else if x.baleId != fit 32 s.update.baleId then some 10
  else if !baleSigned s b then some 9
  else if rd b 8 2 != 0x9144 || !bit (rd b 10 1) (if s.ident.optionN then 1 else 0) then some 12
  else if x.svn < s.update.svnFloor then some 13
  else if schema < x.schemaMin || x.schema < schema then some 14
  else if s.pair.paired && peerFormat s != x.pairFormat && peerFormat s != x.pairFormatPrev then some 15
  else if !imagesOk b then some 11
  else none

/-- The parts of a bale that differ from the running ones, by VERSION or DIGEST (R436). -/
def changedParts (s : State) (x : BaleInfo) : List Nat :=
  (List.range 7).filter (fun k =>
    x.versions.getD k 0 != (running s).versions.getD k 0 || x.digests.getD k [] != (running s).digests.getD k [])

/-- SERDES is among them: the pause lasts up to 2.5 s (R437). -/
def pauseMs (s : State) (x : BaleInfo) : Nat := if (changedParts s x).contains 3 then 2500 else 350

/-- The bank that is not running. -/
def otherBank (s : State) : Nat := 1 - s.update.bank

/-- The bank-select word is written, copy 1 and then copy 2, each with the configuration that it replaces (R435). A write is one
step here; one that power cuts off reads as an invalid copy at the next start, notes/assumptions/38.md (DESIGN CHOICE). -/
def writeWord (u : Update) (bank attempt : Nat) : Update :=
  let w : BankWord := { bank, attempt, was := configOf u }
  { u with bank, attempt, word1 := w, word2 := w }

/-- An update ends with a RESULT and REASON (Table 15-7). -/
def updateEnds (s : State) (result reason : Nat) : State :=
  setUpdate s { s.update with phase := .idle, result, reason, deadline := 0, verified := false, chunks := []
                              baleLen := 0, baleId := [], staged := {}, saved := none }

/-- Return to the old bank (R442, R443): settings changes of the trial are discarded. -/
def revertBank (s : State) (reason : Nat) : State :=
  let s := match s.update.saved with
    | some x => putSettings s x
    | none => s
  updateEnds (setUpdate s (writeWord s.update (otherBank s) 0)) 2 reason

/-- The bank-select word is written: the new bank, trial, attempt 1 (R436 step 4, R448). The trial flag is an attempt
count above 0, and the settings region stays as it is (R439). -/
def commitBank (s : State) : State :=
  let b := otherBank s
  setUpdate s { writeWord s.update b 1 with
    banks := tblSet s.update.banks b s.update.staged, fallback := true, saved := some (takeSettings s), confirming := false
    testsPassed := [], attemptStart := s.now }

/-- The functions that exist (R28). -/
def liveFns (s : State) : List Nat := (List.range 64).filter (fnExists s)

/-- Step 11 of the start: capture ports negotiate and CAPTURE_READY is 1 (R446). -/
def captureStarts (s : State) : State :=
  if s.update.step == 10 && s.update.mbxReady && s.life.lifecycle != lcEndOfLife && s.power.state == .active then
    { s with update := { s.update with step := 11, captureReady := true } } else s

/-- Every mailbox reads IDLE. -/
def openMailboxes (s : State) : State :=
  (liveFns s).foldl (fun s f => setFn s f { fnOf s f with state := .idle }) s

/-- Every mailbox reads NOT_READY, and NOTICE is set (R436 step 5). -/
def shutMailboxes (s : State) : State :=
  (liveFns s).foldl (fun s f => raiseCause (setFn s f { fnOf s f with state := .notReady }) f .notice) s

/-- The confirmation (R441): CONFIRMING is recorded, the settings of the trial stay, the SVN floor rises, outside Blank and Test (R433),
and the word is written without the trial flag. -/
def confirmBank (s : State) : State :=
  let u := s.update
  let early := s.life.lifecycle == lcBlank || s.life.lifecycle == lcTest
  let svnFloor := if early then u.svnFloor else max u.svnFloor (running s).svn
  let u := { writeWord { u with svnFloor, confirming := true } u.bank 0 with confirming := false }
  raiseCause (updateEnds (setUpdate s u) 1 0) 0 .notice

/-- A trial attempt fails: a cold reset (R442). -/
def attemptFails (s : State) : State := coldReset s

end Sys2Proof.Machine
end

