-- ==== Sys2Proof/Machine/CtrlOps.lean ====
section
/-! DEFINITION. What the strand rows share: the CTRL frame that a strand's Hand takes up next (R21, R106), and its
knot. -/

namespace Sys2Proof.Machine

/-- The strand acts: the unit does, a Hand is in service to take the event, and no switchover or activation pause holds it (R21,
R393, R418, Table 4-12). -/
def handActs (s : State) : Bool :=
  powered s && acting s && (chooseHand s).isSome && !switching s && !sheafPaused s && !frozen s

/-- A Hand holds the strand until it has finished an event (R21): one that waits for what it asked of the engines, and a parked
instance (R385), hold up the strand's other events. -/
def strandHeld (s : State) (i : Nat) : Bool := (parkedOn s i).isSome || (strandOf s i).chip.any (·.asks.isSome)

/-- A Hand can take up an event of strand `i`. -/
def handFor (s : State) (i : Nat) : Bool := handActs s && !strandHeld s i

/-- The verified CTRL frame at NEXT, which an OPEN strand's Hand takes up in its turn. -/
def ctrlAtNext (s : State) (i : Nat) : Option WSlot :=
  let st := strandOf s i
  if st.state == .opened && handFor s i then (nextReady st).filter (fun w => hType w.header == 2) else none

/-- The MSG of a CTRL frame with its two reserved bytes zero. -/
def plainMsg (w : WSlot) : Option Nat := if allZero (slice w.payload 2 2) then some (msgOf w.payload) else none

/-- The body of a CTRL message. -/
def ctrlBody (w : WSlot) : Bytes := w.payload.drop 4

/-- Knot the frame at NEXT; its Bins are free. -/
def knotFrame (s : State) (i : Nat) (w : WSlot) (k : Knot) : State :=
  let s := pushKnot (setStrand s i (passNext (strandOf s i))) i { knot := k }
  freeHeld s i (frameBins w.payload)

/-- Knot a CTRL frame as a CTRL knot (Table 4-7). -/
def knotCtrl (s : State) (i : Nat) (w : WSlot) : State :=
  knotFrame s i w (frameKnot (strandOf s i) i kCtrl (msgOf w.payload) w (sha3 w.payload))

/-- Take up the CTRL frame at NEXT when its MSG is `msg`: `k` says whether the message is valid and what it does, after its
CTRL knot; an invalid one is knotted and otherwise ignored. -/
def onCtrl (s : State) (i msg : Nat) (valid : State → WSlot → Bool) (k : State → WSlot → State) : State :=
  match ctrlAtNext s i with
  | none => s
  | some w =>
    if msgOf w.payload != msg then s
    else if (plainMsg w).isSome && valid s w then advance (k s w) i
    else advance (knotCtrl s i w) i

end Sys2Proof.Machine
end

