-- ==== Sys2Proof/Machine/Opening.lean ====
section
/-! DEFINITION. The checks of an opening (R107, R109, R111): what an OPEN_REQ or a REKEY_REQ holds, and why an OPEN_REQ is
refused. -/

namespace Sys2Proof.Machine

/-- SHA-256 (FIPS 180-4). -/
def sha256 (b : Bytes) : Bytes := fit 32 (Config.digest 0x03 b)

/-- The SubjectPublicKeyInfo of a P-256 public key, DER (RFC 5480). -/
def spkiP256 (pub : Bytes) : Bytes :=
  [0x30, 0x59, 0x30, 0x13, 0x06, 0x07, 0x2A, 0x86, 0x48, 0xCE, 0x3D, 0x02, 0x01, 0x06, 0x08, 0x2A, 0x86, 0x48, 0xCE, 0x3D,
   0x03, 0x01, 0x07, 0x03, 0x42, 0x00] ++ pub

/-- The fields of an OPEN_REQ or REKEY_REQ body (Table 4-4). -/
def reqFixed (b : Bytes) : Bytes := slice b 4 4
/-- ECDH_PUB. -/
def reqEcdh (b : Bytes) : Bytes := slice b 40 65
/-- KEM_EK_LEN. -/
def reqKemLen (b : Bytes) : Nat := rd b 108 2
/-- KEM_EK. -/
def reqKem (b : Bytes) : Bytes := slice b 112 (reqKemLen b)
/-- CERT. -/
def reqCert (b : Bytes) : Bytes := slice b (112 + reqKemLen b) (rd b 110 2)

/-- A request body is well formed (R107, R109): `sig` is the length of its signature. -/
def reqFormed (i sig : Nat) (b : Bytes) : Bool :=
  112 ≤ b.length && rd b 0 2 == i && rd b 2 2 == 0 && allZero (slice b 105 3) && (reqKemLen b == 0 || reqKemLen b == 1184) &&
  b.length == 112 + reqKemLen b + rd b 110 2 + sig && (sig != 0 || rd b 110 2 == 0)

/-- The values of a request pass the checks of Table 7-5; an N part, which agrees classically, judges no ML-KEM key (R5,
R111). -/
def reqKeysOk (s : State) (b : Bytes) : Bool :=
  (reqEcdh b).head? == some 4 && Config.keyValid 0x11 1 (reqEcdh b) &&
  (reqKemLen b == 0 || s.ident.optionN || Config.keyValid 0x17 768 (reqKem b))

/-- CERT chains to a scanner CA, and both windows contain NOW (R111). -/
def scannerCertOk (s : State) (c : CertInfo) : Bool :=
  match nowUtc s with
  | none => false
  | some t =>
    inWindow t c && c.pub.length == 65 &&
    s.scannerCas.any (fun e => match readCert e.2 with
      | some a => a.subject == c.issuer && inWindow t a && certVerifies c.sigAlg c.sigHash a.pub c.tbs c.sig
      | none => false)

/-- Openings in KEYING device-wide. -/
def keyingCount (s : State) : Nat := (s.strands.filter (fun e => e.2.state == .keying)).length

/-- The REFUSE reason of the strand's state (R111): one that Freeze holds, and that R111's later checks would turn away, is
refused with reason 8 (Table 4-12); any other but ARMED and OPEN with reason 1. -/
def stateRefusal (st : Strand) : Option Nat :=
  match st.state with
  | .armed | .opened => none
  | .held => if st.heldFor == 9 then some 8 else some 1
  | _ => some 1

/-- The UNKEYED request that strand `st`'s Hand takes up next: its port, its source address and its body (R106). -/
def nextRequest (st : Strand) : Option (Nat × Bytes × Bytes) :=
  match st.ctrl.find? (fun c => (strandEvent c).isNone) with
  | some (.unkeyed slot src b) => some (slot, src, b)
  | _ => none

/-- The agreement on new keys (R108, R113): ECDH with an ephemeral pair, and the encapsulation of a hybrid one. -/
def agreeOps (s : State) (b : Bytes) : List HandOp :=
  { op := 0x0405, set := 1 } :: (if reqKemLen b == 0 || s.ident.optionN then [] else [{ op := 0x040C, set := 768 }])

/-- What the Hand asks of the Mill for an OPEN_REQ body from port `slot` and address `src` that the strand's state and its
configuration let through: the signatures of CERT and of the request, and the agreement, notes/assumptions/21.md (DESIGN CHOICE). -/
def openOps (s : State) (i slot : Nat) (src b : Bytes) : List HandOp :=
  let st := strandOf s i
  if (stateRefusal st).isSome || ingressOf st != slot || !(allZero st.cfg.scannerMac || st.cfg.scannerMac == src) then []
  else match readCert (reqCert b) with
  | none => []
  | some c =>
    (s.scannerCas.findSome? (fun e => (readCert e.2).filter (fun a => a.subject == c.issuer))).toList.flatMap
      (fun a => sigOps s c.sigAlg c.sigHash a) ++ { op := 0x0402, set := 1 } :: agreeOps s b

/-- A Hand in service takes up what waits for strands: not in an activation pause nor a switchover (R21, R418). -/
def handsTake (s : State) : Bool := (chooseHand s).isSome && !sheafPaused s && !switching s

/-- The REFUSE reason of the first check of R111 that an OPEN_REQ body from port `slot` and address `src` fails. -/
def refusal (s : State) (i slot : Nat) (src b : Bytes) : Option Nat :=
  let st := strandOf s i
  if (stateRefusal st).isSome then stateRefusal st
  else if ingressOf st != slot || !(allZero st.cfg.scannerMac || st.cfg.scannerMac == src) then some 6
  else match readCert (reqCert b) with
  | none => some 2
  | some c =>
    let id := sha3 (spkiP256 c.pub)
    let sig := b.drop (b.length - 64)
    if !scannerCertOk s c then some 2
    else if !allZero st.cfg.scannerId && st.cfg.scannerId != id then some 3
    else if s.scannerDenied.contains id then some 9
    else if !(Config.verify 0x0402 (le 2 1) c.pub (sha256 (b.take (b.length - 64))) sig && reqKeysOk s b) then some 5
    else if requiresPq st.cfg && reqKemLen b != 1184 then some 4
    else if !sealKeysSet s then some 10
    else if 3 ≤ alarmLevel s then some 8
    else if 256 ≤ keyingCount s then some 7
    else none

/-- A REKEY_REQ is well formed, and no rekey is under way. -/
def rekeyValid (i : Nat) (s : State) (w : WSlot) : Bool :=
  (strandOf s i).rekeySeq.isNone && reqFormed i 0 (ctrlBody w) && reqKeysOk s (ctrlBody w)

/-- The CTRL frame that strand `i`'s Hand takes up is a REKEY_REQ that it answers (R113). -/
def rekeyAsked (s : State) (i : Nat) (w : WSlot) : Bool :=
  msgOf w.payload == 4 && (plainMsg w).isSome && rekeyValid i s w

end Sys2Proof.Machine
end

