-- ==== Sys2Proof/Machine/OwnWork.lean ====
section
/-! DEFINITION. The work that the device itself asks of the Mill and the Flail (R193, R219, R220, R224): which there is, how it is asked
for, its time, and a release check that fails. -/

namespace Sys2Proof.Machine

/-- Microseconds of a time in ns. -/
def usOf (ns : Nat) : Nat := ceilDiv ns 1000

/-- The operation whose time a release check takes (Table 7-7). -/
def checkOp (op : Nat) : Nat :=
  match op with
  | 0x0401 => 0x0402
  | 0x0403 => 0x0404
  | 0x040A => 0x040B
  | _ => 0x0407

/-- The stone reaches the job's full-operation time (R215); that of MLDSA_SIGN depends on its iterations (R218). -/
def reachTime (s : State) (b : Job) : State :=
  if b.opcode == 0x040A then s else advanceTo s (b.since + usOf (kindTime s b))

/-- The time of a job's release check (Table 7-7). -/
def checkTime (s : State) (b : Job) : Nat := kindTime s { b with opcode := checkOp b.opcode, key := b.key }

/-! ### What the device asks of the engines (R193, R224) -/

/-- Signatures with ECDSA P-384, and for a hybrid one ML-DSA-65 too (R134, R252), by the keys of two handles. -/
def signNeeds (w : OwnWork) (ecdsa mldsa : Nat) (hybrid : Bool) : List OwnNeed :=
  { work := w, op := 0x0401, set := 2, key := ecdsa } ::
    (if hybrid then [{ work := w, op := 0x040A, set := 65, key := mldsa }] else [])

/-- What a Hand asks, with priority 2. -/
def handNeeds (w : Nat → OwnWork) (l : List HandOp) : List OwnNeed :=
  l.zipIdx.map (fun e => { work := w e.2, engine := e.1.engine, op := e.1.op, set := e.1.set, key := e.1.key, len := e.1.len, priority := 2 })

/-- The operations of a request's agreement (R108, R113), which the Hand asks of the Mill, and before them the checks of its
certificate and signature (R111). -/
def agreeNeeds (w : OwnWork) (l : List HandOp) : List OwnNeed := handNeeds (fun _ => w) l

/-- Strand `i`: its oldest seal; the checks and the agreement of an OPEN_REQ, and then its OPEN_RESP's signature (R111, R219); the
agreement of a REKEY_REQ (R113); what its chip session asks (R247). -/
def strandNeeds (s : State) (i : Nat) (st : Strand) : List OwnNeed :=
  (match st.sealQ with
   | x :: _ => signNeeds (.seal i) x.ecdsaKey x.mldsaKey (!bit x.flags 0)
   | [] => []) ++
  (match nextRequest st with
   | some (slot, src, b) =>
     if handsTake s && reqFormed i 64 b then
       agreeNeeds (.agree i) (openOps s i slot src b) ++
       (if (ownReady s (.agree i) || (openOps s i slot src b).isEmpty) && (refusal s i slot src b).isNone then
          signNeeds (.opening i) s.sealKeys.ecdsa 0 false else [])
     else []
   | none => []) ++
  (match ctrlAtNext s i with
   | some w => if rekeyAsked s i w then agreeNeeds (.rekey i) (agreeOps s (ctrlBody w)) else []
   | none => []) ++
  (match st.chip.bind (·.asks) with
   | some l => handNeeds (.chip i) l
   | none => [])

/-- An operation of function `f`: the key pair of a KEY_GENERATE, whose slot write has not begun, is work of priority 0,
notes/assumptions/29.md (DESIGN CHOICE). -/
def opNeeds (s : State) (f : Nat) (o : DefOp) : List OwnNeed :=
  let t := rd o.payload 4 1
  if o.code == 0x0101 && o.gone == 0 && !symType t && !publicType t && !s.writes.any (fun w => w.fn == f && w.op == some o.no) then
    [{ work := .keyPair f o.no, op := if latticeType t then 0x040D else 0x0405, set := rd o.payload 6 2, priority := 0 }]
  else []

/-- All the work that the device asks of the engines. -/
def ownNeeds (s : State) : List OwnNeed :=
  (if acting s then s.strands.flatMap (fun e => strandNeeds s e.1 e.2) else []) ++
  s.verdicts.flatMap (fun v => signNeeds (.verdict v.no) v.ecdsa v.mldsa (v.alg == 2)) ++
  s.instances.flatMap (fun e => e.2.asyncs.flatMap (fun a =>
    match a.verdict, a.done with
    | some v, none => signNeeds (.action e.1 a.tag) v.ecdsa v.mldsa v.hybrid
    | _, _ => [])) ++
  s.jobs.flatMap (fun b =>
    match b.asks with
    | some l => if b.stage == .running then handNeeds (.document b.id) l else []
    | none => []) ++
  s.fns.flatMap (fun e => e.2.ops.flatMap (opNeeds s e.1))

/-- The job does this work, and has not taken another key for it than the one now named. -/
def serves (n : OwnNeed) (b : Job) : Bool :=
  b.own == some n.work && b.opcode == n.op && b.engine == n.engine &&
  (b.req.desc.key == n.key || (b.stage != .queued && !isOpening n.work))
where
  /-- An OPEN_RESP is signed with the seal key in force. -/
  isOpening : OwnWork → Bool
    | .opening _ => true
    | _ => false

/-- A Hand that has taken up a document asks for what its verification needs. -/
def askDocuments (s : State) : State :=
  { s with jobs := s.jobs.map (fun b =>
      if b.engine == .hand && b.stage == .running && b.asks.isNone then { b with asks := some (docOps s (offlineDocument s b)) } else b) }

/-- The key of work of the device's own was gone when its stone took it up (R202): seals wait for new keys; a request, a verdict or an
action that was to be signed ends with the status; the Terminal Authentication of a chip session fails as R247 says. An OPEN_REQ is
then refused. -/
def keyGone (s : State) (b : Job) : State :=
  match b.own with
  | some (.seal i) => sealKeyGone s i
  | some (.verdict no) =>
    match s.verdicts.find? (fun v => v.no == no) with
    | some v => verdictKeyGone s v b.status
    | none => s
  | some (.action key tag) => actionKeyGone s key tag b.status
  | some (.chip i _) => chipKeyGone s i
  | _ => s

/-- The engines get the work that has come up, and lose what is wanted no more. -/
def serveOwn (s : State) : State :=
  if !powered s then s
  else
    let s := askDocuments ((s.jobs.filter (fun b => b.own.isSome && b.stage == .finished && b.status != sOk)).foldl
      (fun s b => dropJob (keyGone s b) b) s)
    let needs := ownNeeds s
    let stale := s.jobs.filter (fun b => b.own.isSome && !needs.any (fun n => serves n b))
    let fresh := needs.filter (fun n => !s.jobs.any (serves n))
    if stale.isEmpty && fresh.isEmpty then s
    else startJobs (fresh.foldl askWork (stale.foldl (fun s b => dropJob (abortStones s b) b) s))

/-- Chip sessions that waited for release space, or for what their Hand asked of the engines, go on, on a Hand (R224, R249). -/
def wakeWaiting (s : State) : State := if handsTake s then wakeChips s else s

/-! ### Its end -/

/-- The time of the work, with its release checks (Table 7-7), for the jobs that have not ended. -/
def ownTime (s : State) (w : OwnWork) : State :=
  (ownJobs s w).foldl (fun s b =>
    match b.stage with
    | .running => reachTime s b
    | .checking => advanceTo s (b.since + usOf (checkTime s b))
    | _ => s) s

/-- A stone is wiped and withdrawn until it passes its test; a job that it works on by now ends with E_FAULT (R220, R222). -/
def loseStone (s : State) (n monitor : Nat) : State :=
  let t := stoneOf s n
  let s : State := match t.state, t.job.bind (jobOf s) with
    | .busy, some b => cutJob s b eFault 0
    | .idle, _ => wipeStone s n .withdrawn
    | _, _ => s
  withdraw s (.stone n) monitor

/-- A release check fails: the stones that made and checked the result are wiped and withdrawn until they pass their test, and the
Scarecrow is notified (R220). -/
def checkLost (s : State) (b : Job) : State :=
  let s := (stonesOf b).foldl (fun s n => loseStone s n 0x19) (abortStones s b)
  report s 0x19 (b.stone.getD 0)

/-- The release check of a signature of the device's own fails: it is made again on another pair of stones (R220). Which of a
hybrid's two signatures it was is drawn, notes/assumptions/21.md (DESIGN CHOICE). -/
def ownFails (s : State) (w : OwnWork) : State :=
  let l := (ownJobs s w).filter (fun b => b.stage != .finished)
  match l[ofLe (randomBytes s 1) % max 1 l.length]? with
  | some b => startJobs (requeue (checkLost (ownTime (draw s) w) b) b)
  | none => s

end Sys2Proof.Machine
end

