-- ==== Sys2Proof/Machine/Alarm.lean ====
section
/-! DEFINITION. The Scarecrow's responses (R344–R356): Throttle, Freeze, the purges, and what every command does at its
end: Series-7 decisions are settled, sheaf instances get their strand events, NOTICE follows DEVICE_STATUS. -/

namespace Sys2Proof.Machine

/-! ### Slot writes and seals that a purge cuts -/

/-- The write of a slot ends with a status: the mailbox or the operation that waits for it ends; where a reset has taken the
mailbox, the outcome still goes to the Ledger (R64). -/
def endWrite (s : State) (w : SlotWrite) (status detail : Nat) (reply : Bytes) : State :=
  match w.op with
  | some no => match opOf s w.fn no with
    | some o => endOp s w.fn o status detail reply
    | none => s
  | none =>
  let waits : Bool := match (fnOf s w.fn).held with
    | some h => h.why == .commit w.index
    | none => false
  if waits then finishHeld s w.fn status detail reply
  else if isLogged w.code then logCommand s w.code w.fn w.tag status detail w.payload else s

/-- Commands that wait for slot `i` end with the purge, notes/assumptions/39.md (DESIGN CHOICE). -/
def endRetries (s : State) (i lvl : Nat) : State :=
  (tblKeys s.fns).foldl (fun s f =>
    match (fnOf s f).held with
    | some h => if h.why == .retry i then finishHeld s f eKeyGone lvl [] else s
    | none => s) s

/-- Slot writes of the purged class that have not committed are not committed (R153). -/
def dropWrites (s : State) (lvl : Nat) : State :=
  let hit := fun (w : SlotWrite) => lvl == 5 || w.purgeClass == clsCustody
  let ws := s.writes.filter hit
  ws.foldl (fun s w => endRetries (endWrite s w eKeyGone lvl []) w.index lvl)
    { s with writes := s.writes.filter (fun w => !hit w) }

/-- A key generation that runs is reached by a purge of its class (R153). -/
def markOps (s : State) (lvl : Nat) : State :=
  let hit := fun (o : DefOp) => o.code == 0x0101 && (lvl == 5 || hClass (rd o.payload 0 4) == clsCustody)
  { s with fns := tblMap s.fns (fun _ w =>
      { w with ops := w.ops.map (fun o => if hit o then { o with gone := lvl } else o) }) }

/-! ### Debug (R381, R385, R386) -/

/-- Parked instances continue (R385). -/
def unparkAll (s : State) : State :=
  let s := { s with instances := tblMap s.instances (fun _ x => { x with halt := false }) }
  (tblKeys (s.instances.filter (fun e => e.2.parked.isSome))).foldl (fun s k => unpark s k false) s

/-- The debug level falls to Closed: every breakpoint is cleared, parked instances continue, halted processors run again
and a halted Steward's watchdog restarts (R385, R386). -/
def closeDebug (s : State) : State :=
  if s.life.debug == 0 then s
  else
    let halted := s.lanyard.halted.contains 0
    let s := { s with life := { s.life with debug := 0, debugExpires := 0 }
                      lanyard := { s.lanyard with sheafBps := [], procBps := [], halted := [] } }
    let s := unparkAll s
    if halted then setScarecrow s { s.scarecrow with lastRefresh := s.now } else s

/-! ### Purges (R347, R348) -/

/-- A zero-fill of level `lvl` is to run, at most 0.3 s or 1.2 s; one of level 5 restarts or keeps all (R348, R353). -/
def startFill (s : State) (lvl : Nat) : State :=
  let c := s.scarecrow
  let l := max lvl c.zerofill
  setScarecrow s { c with reload := max lvl c.reload, zerofill := l
                          zerofillEnd := s.now + (if l == 5 then 1200000 else 300000) }

/-- What the custody purge erases (R347, Table 12-4): keys, key registers, the Loft custody key with the pair key, and
what was being signed. The number of slots erased comes with it. -/
def purgeCustody (s : State) : State × Nat :=
  let s := endChips s 7
  let s := purgeVerdicts (purgeDocs s)
  let s := markOps (dropWrites (purgeJobs s 4) 4) 4
  let n := (s.keys.filter (fun e => e.2.cls == clsCustody)).length
  let s := { s with keys := tblDrop s.keys (fun _ k => k.cls == clsCustody), strands := tblMap s.strands (fun _ st => unsealQueue st) }
  let s := setPair s { s.pair with pairKey := [], keyGone := s.pair.paired, identity := none }
  let s := if s.pair.keyGone then pathEnds (pathEnds s .a s.pair.pathA.link) .b s.pair.pathB.link else s
  let s := setScarecrow (deactivateSlots s 4) { s.scarecrow with custodyValid := false }
  (startFill s 4, n)

/-- Every strand becomes UNUSED, with reason 14 and no CLOSE knot; its frames are zeroised (Table 4-12). -/
def dropStrands (s : State) : State :=
  let s := (strandIds s).foldl (fun s i =>
    if (strandOf s i).state == .unused then s
    else
      let s := stateEvent s i (strandNo (strandOf s i).state) 0 14
      setStrand s i {}) s
  { s with strands := [], durable := [], floors := tblMap s.floors (fun _ f => { f with used := 0, pausing := false }) }

/-- Every port returns to its never-configured state (R82). -/
def dropPorts (s : State) : State :=
  let s := (tblKeys s.ports).foldl takeDown s
  { s with ports := tblMap s.ports (fun _ w => { w with cfg := {}, absorbed := false, lead := 0, ctrlQ := [], dataQ := [] }) }

/-- Sessions are closed and contexts released. -/
def dropSessions (s : State) : State :=
  let s := (tblKeys s.fns).foldl (fun s f => closeSessions s f (fun _ => true)) s
  { s with contexts := [] }

/-- Staging and Staged become Idle; a Trial reverts to the old bank, with a cold reset after the zero-fill (R451). -/
def purgeUpdate (s : State) : State :=
  let s := setUpdate s { s.update with lock := false, fallback := false }
  if s.update.attempt != 0 then
    let s := revertBank (setUpdate s { s.update with saved := none }) 7
    setUpdate s { s.update with resetAfterFill := true }
  else
    let u := { s.update with phase := .idle, chunks := [], verified := false, baleLen := 0, baleId := [] }
    setUpdate s { u with staged := {} }

/-- What a purge of all erases (R347, Table 12-4): everything under the root key, every key register, Bins and working
memory. The number of slots erased comes with it. -/
def purgeAll (s : State) : State × Nat :=
  let s := dropChips s
  let s := markOps (dropWrites (purgeJobs s 5) 5) 5
  let n := s.keys.length
  let s := purgeHatch s eKeyGone
  let s := dropSessions (dropPorts (dropStrands s))
  let s := settleFloors (deactivateSlots (dropSettings s) 5)
  let s := setScarecrow s { s.scarecrow with rootValid := false, custodyValid := false }
  (startFill s 5, n)

/-! ### Responses (R344–R346) -/

/-- A Ledger entry of the Scarecrow (Table 10-7: SOURCE 1). -/
def scarecrowNote (s : State) (type : Nat) (data : Bytes) : State := ledger s type 1 0xFF 0 0 0 data

/-- The ACTION bits of an event at level `l` (R363). -/
def actionBits (l : Nat) (escalated suppressed vigil : Bool) : Nat :=
  pack [(1, 0, 1), (ofBool (2 ≤ l), 1, 1), (ofBool (3 ≤ l), 2, 1), (ofBool (4 ≤ l), 3, 1), (ofBool (l == 5), 4, 1),
    (ofBool suppressed, 5, 1), (ofBool escalated, 6, 1), (ofBool vigil, 7, 1)]

/-- Level 2: Throttle, for 10 s after the last cause (R345). -/
def enterThrottle (s : State) : State :=
  setScarecrow s { s.scarecrow with throttled := true, throttleEnd := s.now + 10000000 }

/-- Level 3: jobs that have not started end with E_FROZEN, and strands act as Table 4-12 gives (R346). -/
def enterFreeze (s : State) (lvl : Nat) : State :=
  (strandIds s).foldl (fun s i => freezeStrand s lvl i) (freezeEmits (freezeJobs s))

/-- Latch a level: ALARM_LATCH_SRC holds the monitors that set it (Table 12-8). -/
def latch (s : State) (m lvl : Nat) : State :=
  let c := s.scarecrow
  let src := if c.latched < lvl then 2 ^ m else if c.latched == lvl then c.latchSrc ||| 2 ^ m else c.latchSrc
  setScarecrow s { c with latched := max c.latched lvl, latchSrc := src }

/-- The monitors whose event ends a trial attempt (R440): LOCKSTEP, TWIN, ARITH, KEYBUS, RBG. -/
def trialFault (m : Nat) : Bool := [0x15, 0x16, 0x19, 0x1A, 0x1B].contains m

/-- What an event's log holds goes out: the Ledger entries, and the ALARM event (R344, R363). -/
def logAlarm (s : State) (x : AlarmLog) : State :=
  let s := scarecrowNote s 0xF003 x.entry
  let s := match x.purge with | some p => scarecrowNote s 0xF004 p | none => s
  postEvent s 0 0 x.event

/-- Events are logged in the order of their detection (R353): the logs that wait and that no event still to be decided precedes. -/
def flushLogs : Nat → State → State
  | 0, s => s
  | fuel + 1, s =>
    match s.scarecrow.unlogged with
    | [] => s
    | x :: rest =>
      if s.scarecrow.decisions.any (fun d => detectedFirst d x.decision) then s
      else flushLogs fuel (logAlarm (setScarecrow s { s.scarecrow with unlogged := rest }) x)

/-- A log waits, in the order of detection. -/
def queueLog (s : State) (x : AlarmLog) : State :=
  let l := s.scarecrow.unlogged
  let before := l.filter (fun y => !detectedFirst x.decision y.decision)
  setScarecrow s { s.scarecrow with unlogged := before ++ [x] ++ l.filter (fun y => detectedFirst x.decision y.decision) }

/-- What level `lvl` adds to the log: throttling, latching and erasing, with the slots erased (R344, R346, R347). -/
def takeLevel (s : State) (m lvl : Nat) : State × Nat :=
  let was := frozen s || s.life.purged
  let s := if 2 ≤ lvl then enterThrottle s else s
  let s := if 3 ≤ lvl then dropApprovals (latch s m lvl) else s
  let (s, n) := if lvl == 4 then purgeCustody s else if lvl == 5 then purgeAll s else (s, 0)
  let s := if lvl == 5 && s.life.lifecycle == lcProduction then { s with life := { s.life with purged := true } } else s
  (if 3 ≤ lvl && !was && frozen s then enterFreeze s lvl else s, n)

/-- The alarm part of a response: its Ledger entry, the level's effects, and the ALARM event (R344, R347, R363); where an event detected
earlier is still to be decided, the log waits for it (R353). -/
def alarmPart (s : State) (d : Decision) (lvl : Nat) : State :=
  let act := actionBits lvl d.escalated false false
  let entry := le 1 lvl ++ le 1 d.monitor ++ le 1 act
  let waits := s.scarecrow.decisions.any (fun e => detectedFirst e d) || !s.scarecrow.unlogged.isEmpty
  let s := if waits then s else scarecrowNote s 0xF003 entry
  let (s, n) := takeLevel s d.monitor lvl
  let purge := if 4 ≤ lvl then some (le 1 lvl ++ zeros 3 ++ le 4 n) else none
  let event : Event := { type := tAlarm, detail := alarmSummary s,
                         inline := le 1 d.monitor ++ le 1 lvl ++ le 1 d.configured ++ le 1 act ++ le 4 d.value ++
                           le 4 s.scarecrow.count ++ le 8 d.detect ++ zeros 8 }
  if waits then queueLog s { decision := d, entry, purge, event }
  else postEvent (match purge with | some p => scarecrowNote s 0xF004 p | none => s) 0 0 event

/-- Carry out a decision at level `lvl` (R344, R472): the alarm, then pair role, update phase and debug level. -/
def respondTo (s : State) (d : Decision) (lvl : Nat) : State :=
  let w := monitorOf s d.monitor
  let s := setMonitor s d.monitor { w with events := sat 0xFFFF (w.events + 1), applied := if w.active && d.cause then lvl else w.applied }
  let s := setScarecrow s { s.scarecrow with count := sat32 (s.scarecrow.count + 1), seen := s.scarecrow.seen ||| 2 ^ d.monitor }
  let s := alarmPart s d lvl
  let s := if lvl == 5 then
      let s := if s.pair.paired then unpair s 9 else setPair s { s.pair with driven := 0 }
      purgeUpdate s
    else if 3 ≤ lvl then pairAlarm s lvl
    else s
  let s := if 2 ≤ lvl then closeDebug s else s
  let s := flushLogs (s.scarecrow.unlogged.length + 1) s
  if s.update.phase == .trial && s.update.activation == .none && trialFault d.monitor then attemptFails s else s

/-! ### Vigil (R360, R361) -/

/-- Write a Vigil log entry: a full log overwrites its oldest entry of level 1–3 (R361). -/
def logVigil (s : State) (m lvl action value : Nat) : State :=
  let c := s.scarecrow
  let e : VigilEntry := { tick := s.now, seq := c.vigilSeq + 1, monitor := m, level := lvl, action, supply := ofBool c.onVbat
                          value, tj := tj s, vbatMv := (vbatMv s).toNat }
  let c := { c with vigilSeq := c.vigilSeq + 1 }
  if c.vigil.length < 128 then setScarecrow s { c with vigil := c.vigil ++ [e] }
  else
    let c := { c with vigilLost := c.vigilLost + 1 }
    match c.vigil.find? (fun x => x.level ≤ 3) with
    | some x => setScarecrow s { c with vigil := c.vigil.erase x ++ [e] }
    | none => setScarecrow s c

/-- Every monitor at its default level and threshold, in the always-on registers (R343). -/
def defaultMonitors (s : State) : State :=
  setScarecrow s { s.scarecrow with monitors := tblMap s.scarecrow.monitors (fun m w =>
    { w with level := monitorDefault m, threshold := thresholdDefault s.ident.gradeE m }) }

/-- A purge taken in Vigil: the Loft keys go and the level is latched; the fresh key and the zero-fill are the next start's (R348,
R360). -/
def vigilPurge (s : State) (m lvl : Nat) : State :=
  let s := latch s m lvl
  let c := s.scarecrow
  let s := setScarecrow s { c with custodyValid := false, rootValid := c.rootValid && lvl != 5, zerofill := max lvl c.zerofill }
  if lvl == 5 then defaultMonitors s else s

/-- A decision taken in Vigil is carried out there: the event is logged, and level 4 or 5 erases and is latched (R360). -/
def respondInVigil (s : State) (d : Decision) (lvl : Nat) : State :=
  let w := monitorOf s d.monitor
  let s := setMonitor s d.monitor { w with events := sat 0xFFFF (w.events + 1), applied := if w.active && d.cause then lvl else w.applied }
  let s := setScarecrow s { s.scarecrow with count := sat32 (s.scarecrow.count + 1), seen := s.scarecrow.seen ||| 2 ^ d.monitor }
  let act := pack [(1, 0, 1), (ofBool (4 ≤ lvl), 3, 1), (ofBool (lvl == 5), 4, 1), (ofBool d.escalated, 6, 1), (1, 7, 1)]
  let s := logVigil s d.monitor lvl act d.value
  if lvl < 4 then s else vigilPurge s d.monitor lvl

/-- Carry out a decision where the device stands. -/
def carryOut (s : State) (d : Decision) (lvl : Nat) : State :=
  if s.power.state == .vigil then respondInVigil s d lvl else respondTo s d lvl

/-- Series-7 decides once, without delay (R356): what is pending is carried out. -/
def settleNow : Nat → State → State
  | 0, s => s
  | fuel + 1, s =>
    if s.scarecrow.compat != 1 then s
    else match s.scarecrow.decisions with
      | [] => s
      | d :: rest => settleNow fuel (carryOut (setScarecrow s { s.scarecrow with decisions := rest }) d d.level)

/-- The decision whose second evaluation comes next: each has its own delay (R353, R355). -/
def nextEvaluated (l : List Decision) : Option Decision :=
  l.foldl (fun b d => match b with | some x => if d.due < x.due then some d else b | none => some d) none

/-- A second evaluation comes to level `second` (R355): after 1 to 32 periods of the 4 MHz oscillator the more severe outcome is taken,
as far as the event's cap and the life-cycle state let it (R359, R369), and a disagreement is itself reported. -/
def secondEvaluation (s : State) (second : Nat) : State :=
  match nextEvaluated s.scarecrow.decisions with
  | none => s
  | some d =>
    let s := advanceTo s (d.due / 4)
    let s := setScarecrow s { s.scarecrow with decisions := s.scarecrow.decisions.erase d }
    let lvl := max d.level (min 5 second)
    let s := carryOut s d (if levelsCapped s then min 1 lvl else min d.cap lvl)
    if second == d.level then s else report s 0x1F 1

/-! ### Thaw (R354) -/

/-- The lowest monitor configured at level 3 or above whose cause is present (R354). -/
def thawBlocker (s : State) : Option Nat :=
  (List.range 32).find? (fun m => 3 ≤ (monitorOf s m).level && (monitorOf s m).active)

/-- The latch is cleared and strands return (R354, Table 4-12). -/
def thawAll (s : State) : State :=
  let s := setScarecrow s { s.scarecrow with latched := 0, latchSrc := 0 }
  startJobs ((strandIds s).foldl releaseWaiting ((strandIds s).foldl thawStrand s))

/-! ### The end of every command -/

/-- What watches a strand's keys: R117's limits of the reverse key, and an archive key that nears its end (Table 4-12). -/
def watchKeys (s₀ s : State) : State :=
  let s := watchReverse s
  if acting s then (strandIds s).foldl (nearArchive s₀) s else s

/-- What follows every effect `s` of a command that found `s₀`: Series-7 decisions, a Hatch START that waits, the limits of
strand keys, the floors' Bins, the strand events of sheaf instances, chip sessions that wait for space, a hand-over, the Mill work of the
device itself, and NOTICE. -/
def finish (s₀ s : State) : State :=
  noteStatus (deviceStatus s₀)
    (serveOwn (handOver (wakeWaiting (drainSheafEvents (watchBins (watchKeys s₀ (settleHatch (settleNow 64 s))))))))

/-- A command ends with its effect, and what follows every effect. -/
def done (s₀ s : State) : Out := .next (finish s₀ s)

/-- The Steward works: powered, and it runs. -/
def stewardWorks (s : State) : Bool := powered s && stewardServes s

/-- The command waits in its mailbox, BUSY, for a Steward that does not run (R39, R386). What it was to bring beside its bytes is a
free value when it is taken, notes/assumptions/10.md. -/
def holdGo (code : Nat) (q : MbxReq) (s : State) : State :=
  let h : Held := { code, tag := q.tag, payload := q.payload, why := .go q, turn := s.turnNo, session := q.session }
  setFn { s with turnNo := s.turnNo + 1 } q.fn { fnOf s q.fn with state := .busy, held := some h }

/-- GO with a mailbox command (R36–R39): a mailbox that exists and is IDLE runs it; on one that is not IDLE, GO is
rejected. Nothing reaches a mailbox while the main domain has no power; a Steward that is halted or stopped takes nothing, and the
command waits (R386, R478). -/
def goMbx (c : CmdSpec) (body : MbxReq → State → Reply) (q : MbxReq) (s : State) : State :=
  if !powered s || !fnExists s q.fn then s
  else if (fnOf s q.fn).state != .idle then rejectGo s q.fn
  else if !stewardServes s then holdGo c.code q s
  else runIdle c body q s

/-- A mailbox command. -/
def runMbx (c : CmdSpec) (body : MbxReq → State → Reply) (q : MbxReq) (s : State) : Out := done s (goMbx c body q s)

end Sys2Proof.Machine
end

