-- ==== Sys2Proof/Machine/AlarmCmds.lean ====
section
/-! DEFINITION. The alarm commands (Table 12-9), the monitors' events and clearances, the zero-fill, the Vigil log and the
watchdog. -/

namespace Sys2Proof.Machine

/-! ### Commands -/

/-- ALARM_STATUS (0x0C01). -/
def specAlarmStatus : CmdSpec := { code := 0x0C01, pf := true, inFreeze := fun _ => true, inPurge := true }

/-- ALARM_STATUS: the alarm window (R365). -/
def bodyAlarmStatus (q : MbxReq) (s : State) : Reply :=
  withFormat q 0 [] s <|
    accept s (le 4 (alarmSummary s) ++ le 4 (alarmActive s) ++ le 4 s.scarecrow.seen ++ le 4 s.scarecrow.latchSrc ++
      le 4 s.scarecrow.count ++ le 4 (loftStatus s) ++ le 4 (sense s) ++ le 4 (series7State s) ++
      (List.range 32).flatMap (fun m => le 4 (monitorWord s m)))

/-- ALARM_STATUS. -/
def execAlarmStatus (q : MbxReq) (s : State) : Out := runMbx specAlarmStatus bodyAlarmStatus q s

/-- MONITOR_CONFIG (0x0C02). -/
def specMonitorConfig : CmdSpec :=
  { code := 0x0C02, access := .q, pf := true, inFreeze := fun _ => true, region := fillingAll, active := true }

/-- A THRESHOLD word keeps the current value, or lies in the monitor's range (R341, Table 12-2). -/
def thresholdOk (s : State) (m v : Nat) : Bool :=
  v == 0x80000000 ||
  match thresholdRange s.ident.gradeE m with
  | some (lo, hi) => lo ≤ toSigned 4 v && toSigned 4 v ≤ hi
  | none => false

/-- MONITOR_CONFIG (R341, R342). -/
def bodyMonitorConfig (q : MbxReq) (s : State) : Reply :=
  let m := fld q 0 1
  let l := fld q 1 1
  let v := fld q 4 4
  withFormat q 12 [(2, 2), (8, 4)] s <|
    if 32 ≤ m then reject s eFormat 32
    else if 5 < l then reject s eFormat 33
    else if !thresholdOk s m v then reject s eFormat 36
    else if l < monitorFloor m then reject s eDenied 0
    else
      let w := monitorOf s m
      let w := { w with level := l, threshold := if v == 0x80000000 then w.threshold else toSigned 4 v }
      accept (share (setMonitor s m w) (.monitor m l w.threshold)) []

/-- MONITOR_CONFIG. -/
def execMonitorConfig (q : MbxReq) (s : State) : Out := runMbx specMonitorConfig bodyMonitorConfig q s

/-- SELF_TEST (0x0C03). -/
def specSelfTest : CmdSpec :=
  { code := 0x0C03, pf := true, deferred := true, inFreeze := fun _ => true, inPurge := true }

/-- The Steward takes the Hatch lock as INTERNAL (R181); where a tag of the host holds it, it waits for the release, and the test with
it, notes/assumptions/14.md (DEDUCED). -/
def holdInternal (s : State) : State :=
  if s.hatch.held then { s with hatch := { s.hatch with wanted := !s.hatch.internal } } else { s with hatch := { s.hatch with held := true, internal := true, tag := 0xFFFF, client := 0 } }

/-- The Steward gives up the lock it holds as INTERNAL, and waits for it no more. -/
def freeInternal (s : State) : State :=
  let s := { s with hatch := { s.hatch with wanted := false } }
  if s.hatch.internal then releaseLock s else s

/-- SELF_TEST begins (R358); with ENGINES it covers the Hatch core (R181). -/
def bodySelfTest (q : MbxReq) (s : State) : Reply :=
  withFormat q 8 [] s <|
    if 2 ≤ fld q 4 4 then reject s eFormat 36
    else
      let s := setScarecrow s { s.scarecrow with testing := true }
      accept (if fld q 4 4 == 1 then holdInternal s else s) []

/-- SELF_TEST. -/
def execSelfTest (q : MbxReq) (s : State) : Out := runMbx specSelfTest bodySelfTest q s

/-- The monitors of a SELF_TEST: asked for, and tested (R358, R359). -/
def testMask (mask flags : Nat) : List Nat × List Nat :=
  let asked := (List.range 32).filter (fun m => if mask == 0 then monitorTestable m || flags == 1 else bit mask m)
  (asked, asked.filter (fun m => monitorTestable m || flags == 1))

/-- One monitor's test: its event is logged, with its response suppressed; a failure raises an event of its own at the
configured level, capped at 3 (R358, R359). -/
def testOne (failed : Nat → Bool) (s : State) (m : Nat) : State :=
  let s := scarecrowNote s 0xF003 (le 1 (monitorOf s m).level ++ le 1 m ++ le 1 0x21)
  if failed m then reportFailed s m
  else setUpdate s { s.update with testsPassed := addNew s.update.testsPassed m }

/-- The end of SELF_TEST; one that waits for the Hatch lock goes on. Whether a monitor's hardware passes is a free value (notes/assumptions/41.md). -/
def endSelfTest (s : State) (f : Nat) (o : DefOp) : State :=
  if s.hatch.wanted then s else
  let (asked, tested) := testMask (rd o.payload 0 4) (rd o.payload 4 4)
  let bad := Config.free 0x0C03 s.rng
  let failed := fun m => bit bad m
  let s := tested.foldl (testOne failed) (draw s)
  let s := freeInternal (setScarecrow s { s.scarecrow with testing := false })
  let mask := fun (l : List Nat) => le 4 (maskOf l 32)
  endOp s f o sOk 0 (mask (tested.filter (fun m => !failed m)) ++ mask (tested.filter failed) ++
    mask (asked.filter (fun m => !tested.contains m)) ++ zeros 4)

/-- THAW (0x0C04). -/
def specThaw : CmdSpec := { code := 0x0C04, access := .q, pf := true, inFreeze := fun _ => true }

/-- The evaluations of a THAW disagree: it fails, with a DETAIL that is a FREE VALUE, notes/assumptions/40.md, and DECISION raises an
event (R355). Series-7 evaluates once (R356). -/
def thawRefused (s : State) : Reply :=
  reject (draw (report s 0x1F 1)) eState (Config.free 0x0C04 s.rng % 32)

/-- THAW (R354); a level 5 latched in Test stays (R351). -/
def bodyThaw (q : MbxReq) (s : State) : Reply :=
  withFormat q 0 [] s <|
    if s.scarecrow.latched == 5 then reject s eState (deviceStatus s)
    else match thawBlocker s with
      | some m => reject s eState m
      | none =>
        if s.scarecrow.compat != 1 && Config.thawDisagrees s.rng then thawRefused s else accept (thawAll s) []

/-- THAW. -/
def execThaw (q : MbxReq) (s : State) : Out := runMbx specThaw bodyThaw q s

/-- A Vigil log entry's 32 bytes (Table 12-7). -/
def vigilBytes (e : VigilEntry) : Bytes :=
  le 8 e.tick ++ le 4 e.seq ++ le 1 e.monitor ++ le 1 e.level ++ le 1 e.action ++ le 1 e.supply ++ le 4 e.value ++
  leInt 2 e.tj ++ le 2 e.vbatMv ++ zeros 8

/-- VIGIL_LOG_READ (0x0C05). -/
def specVigilLogRead : CmdSpec := { code := 0x0C05, pf := true, inFreeze := fun _ => true, inPurge := true }

/-- VIGIL_LOG_READ: up to 126 entries from FIRST, oldest first (R365). -/
def bodyVigilLogRead (q : MbxReq) (s : State) : Reply :=
  withFormat q 4 [(1, 3)] s <|
    let es := (s.scarecrow.vigil.drop (fld q 0 1)).take 126
    accept s (le 2 es.length ++ le 2 (sat 0xFFFF s.scarecrow.vigilLost) ++ zeros 4 ++ es.flatMap vigilBytes)

/-- VIGIL_LOG_READ. -/
def execVigilLogRead (q : MbxReq) (s : State) : Out := runMbx specVigilLogRead bodyVigilLogRead q s

/-! ### Events -/

/-- What an operation leaves that ends before its work does (R22, R486): a slot write, a key
agreement, a drain or a SELF_TEST under way stops. -/
def stopOp (s : State) (f : Nat) (o : DefOp) : State :=
  match o.code with
  | 0x0101 => { s with writes := s.writes.filter (fun w => !(w.fn == f && w.op == some o.no)) }
  | 0x0902 => setPair s { s.pair with keyex := none }
  | 0x0A05 => match s.update.activation with
    | .draining _ _ _ => setUpdate s { s.update with activation := .none }
    | _ => s
  | 0x0C03 => freeInternal (setScarecrow s { s.scarecrow with testing := false })
  | _ => s

/-- An activation pause under way, which the old bank no longer governs, does not time out. -/
def pastDrain (s : State) (o : DefOp) : Bool :=
  o.code == 0x0A05 && (match s.update.activation with | .pause _ _ _ => true | _ => false)

/-- A life-cycle transition in its burn window, or past it: no alarm interrupts it (R375). -/
def pastBurn (s : State) (o : DefOp) : Bool := (o.code == 0x0D02 || o.code == 0x0D07) && 2 ≤ transitionStep s

/-- What the Steward does for function `f` ends with E_FAULT: the command that its mailbox holds and its deferred operations. -/
def faultCommands (s : State) (f : Nat) : State :=
  let s := if (fnOf s f).state == .busy then finishHeld s f eFault 0 [] else s
  (fnOf s f).ops.foldl (fun s o => if pastBurn s o then s else endOp (stopOp s f o) f o eFault 0 []) s

/-- A lockstep mismatch stops the Steward before the access takes effect: its work ends with E_FAULT, and no slot write of its
commands commits (R22, R478), notes/assumptions/25.md (DEDUCED). -/
def stopSteward (s : State) : State :=
  let s := s.writes.foldl (fun s w => endWrite s w eFault 0 []) { s with writes := [] }
  let s := (tblKeys s.fns).foldl faultCommands s
  startJobs (setScarecrow s { s.scarecrow with stopped := true })

/-- What a monitor's event means beyond its response: motion is remembered for R429; a lockstep mismatch stops the Steward, or
ends the work of a Hand with E_FAULT and withdraws it (R22, R478, R479). -/
def monitorSide (s : State) (m value : Nat) : State :=
  if m == 0x14 then setScarecrow s { s.scarecrow with motion := some (s.now + 600000000) }
  else if m == 0x15 then (if value < 8 then startJobs (withdraw (faultEvents (faultHand s value) value) (.hand value) 0x15) else stopSteward s)
  else s

/-- In Series-7 and Both a stored state with no valid code raises DECISION with VALUE 2, and its level is taken as 5, whether or not
another cause of DECISION is present (R356, R357), notes/assumptions/40.md (DEDUCED). -/
def badCode (s : State) : State :=
  let w := monitorOf s 0x1F
  toDecide (setMonitor s 0x1F { w with active := true }) { monitor := 0x1F, value := 2, level := 5, detect := 0, configured := 0 }

/-- The event of a monitor's sample: of DECISION, one that reports an invalid code (R356, R357). -/
def sampled (s : State) (m value : Nat) : State :=
  if m == 0x1F && value == 2 && s.scarecrow.compat != 0 then badCode s else report s m value

/-- A monitor's condition begins to hold (R339, R344). In Vigil and Off the main sampling does not run, and VIGIL_COLD holds in
Vigil alone (Table 12-1). -/
def execMonitorEvent (monitor value : Nat) (s : State) : Out :=
  done s (if 32 ≤ monitor || monitor == 0x0F || !powered s then s else monitorSide (sampled s monitor value) monitor value)

/-- The second evaluation of a decision (R355). -/
def execDecisionSecondEvaluation (second : Nat) (s : State) : Out := done s (secondEvaluation s second)

/-- A monitor's condition stops holding (R339): Throttle lasts 10 s from there (R345). -/
def execMonitorCauseCleared (monitor : Nat) (s : State) : Out :=
  done s (
    let w := monitorOf s monitor
    if 32 ≤ monitor || !w.active then s
    else
      let s := setMonitor s monitor { w with active := false, applied := 0 }
      let s := if monitor == 0x14 then setScarecrow s { s.scarecrow with motion := some (s.now + 600000000) } else s
      if 2 ≤ w.applied then enterThrottle s else s)

/-- 10 s after the last cause of level 2 or above, Throttle ends (R345). -/
def execThrottleEnd (s : State) : Out :=
  done s (
    if s.scarecrow.throttled && causesLevel s < 2 then
      let s := advanceTo s s.scarecrow.throttleEnd
      setScarecrow s { s.scarecrow with throttled := false }
    else s)

/-- A monitor's oldest event leaves the window of 10 s (R340). -/
def execEscalationWindowEnd (monitor : Nat) (s : State) : Out :=
  done s (
    match (monitorOf s monitor).recent with
    | [] => s
    | t :: _ =>
      let s := advanceTo s t
      let w := monitorOf s monitor
      setMonitor s monitor { w with recent := w.recent.filter (s.now < ·) })

/-- A fresh Loft key of each kind erased is loaded (R348); after a purge in Vigil that waits for the start. -/
def execLoftKeyReload (s : State) : Out :=
  done s (
    let c := s.scarecrow
    if c.reload == 0 || !powered s then s
    else setScarecrow (draw s) { c with custodyValid := true, rootValid := c.rootValid || c.reload == 5, reload := 0 })

/-- The zero-fill under way ends (R348, R349, R451); one that waits for the start is the start's: writes are admitted again, card slots come back, and a reversion's cold reset
follows. -/
def execZerofillDone (s : State) : Out :=
  done s (
    let c := s.scarecrow
    if c.zerofill == 0 || c.zerofillEnd == 0 || c.reload != 0 || !powered s then s
    else
      let s := reactivateSlots (setScarecrow s { c with zerofill := 0, zerofillEnd := 0 })
      if s.update.resetAfterFill then coldReset s else s)

/-! ### Vigil (R360) -/

/-- A monitor that samples in Vigil raises an event (R360; a crystal that stops leaves TIME_LOST, R459): it is decided as every event
is (R355–R357), and carried out by `respondInVigil`. -/
def execVigilMonitorEvent (monitor value : Nat) (s : State) : Out :=
  done s (
    if s.power.state != .vigil || 32 ≤ monitor || !monitorVigil monitor then s
    else
      let s := if monitor == 0x14 then setScarecrow s { s.scarecrow with motion := some (s.now + 600000000) } else s
      let s := if monitor == 0x0A then { s with almanac := { s.almanac with timeLost := true } } else s
      sampled s monitor value)

/-! ### The watchdog (R403, R478) -/

/-- The Steward refreshes the watchdog, every 100 µs (R478). -/
def execWatchdogRefresh (s : State) : Out :=
  done s (
    if s.scarecrow.wdogArmed && stewardWorks s then
      let s := advanceTo s (s.scarecrow.lastRefresh + 100)
      setScarecrow s { s.scarecrow with lastRefresh := s.now }
    else s)

/-- The watchdog's entry in the Vigil log (R403). Tables 12-1 and 12-7 give it no MONITOR, LEVEL, ACTION or VALUE: FREE VALUES,
notes/assumptions/40.md. -/
def logWatchdog (s : State) : State :=
  let v := fun k => Config.free (0x4030 + k) s.rng
  logVigil (draw s) (v 0 % 2 ^ 8) (v 1 % 6) (v 2 % 2 ^ 8) (v 3 % 2 ^ 32)

/-- No refresh for 1 ms (R403): the Hitch is released, outputs and transmitters go off, the Vigil log records it, and a
cold reset follows 10 ms later. -/
def execWatchdogExpiry (s : State) : Out :=
  done s (
    if s.scarecrow.wdogArmed && powered s && !s.lanyard.halted.contains 0 then
      let s := advanceTo s (s.scarecrow.lastRefresh + 1000)
      let s := releaseHitch s
      let s := setPair s { s.pair with driven := 0 }
      let s := setScarecrow s { s.scarecrow with wdogArmed := false, wdogFired := true }
      let s := logWatchdog s
      setPower s { s.power with resetPending := true, resetAt := s.now + 10000 }
    else s)

end Sys2Proof.Machine
end

