-- ==== Sys2Proof/Machine/PairCmds.lean ====
section
/-! DEFINITION. The pairing commands (R413, R416–R421) and how their deferred operations end. -/

namespace Sys2Proof.Machine

/-- E_PEER with a reason code (R421). -/
def peerFail (s : State) (reason : Nat) : Reply := reject s ePeer (peerWord s reason)

/-- The paths' links, either of them. -/
def anyLink (s : State) : Bool := s.pair.pathA.link || s.pair.pathB.link

/-- The path that carries the key agreement: A, or B when A is down (R417). -/
def keyexPath (s : State) : Path := if s.pair.pathA.link then .a else .b

/-- The peer's HELLO, from either path. -/
def peerHello (s : State) : Option Hello :=
  match s.pair.pathA.hello with
  | some h => some h
  | none => s.pair.pathB.hello

/-- A Hawser port is enabled as a capture port (R72). -/
def hawserEnabled (s : State) : Bool := s.ports.any (fun e => hawserPort e.1 && e.2.cfg.admin == 1)

/-! ### PAIR_BEGIN (R416) -/

/-- The conditions of R416 that this unit sees of itself. -/
def pairModes (_ : MbxReq) (s : State) : Option Nat :=
  if s.pair.role != .solo || s.pair.keyex.isSome || !s.life.claimed || s.update.phase != .idle || 2 ≤ alarmLevel s ||
    hawserEnabled s then some (deviceStatus s) else none

/-- PAIR_BEGIN (0x0901). -/
def specPairBegin : CmdSpec :=
  { code := 0x0901, access := .q, pf := true, deferred := true, modes := pairModes
    region := fun _ s => s.scarecrow.zerofill != 0 }

/-- PAIR_BEGIN's format. -/
def bodyPairBegin (q : MbxReq) (s : State) : Reply :=
  withFormat q 16 [(9, 7)] s <| if 2 ≤ fld q 8 1 then reject s eFormat 40 else accept s []

/-- PAIR_BEGIN. -/
def execPairBegin (q : MbxReq) (s : State) : Out := runMbx specPairBegin bodyPairBegin q s

/-- What the peer's HELLO refuses (R416, R421): equal seats, another serial, or a PAIR_KID other than this unit's, which is paired with
none. -/
def helloFault (s : State) (peer : Nat) : Option Nat :=
  match peerHello s with
  | none => none
  | some h => if h.seat == s.pair.seat then some 2 else if h.serial != peer then some 9
              else if fit 8 h.kid != fit 8 s.pair.pairKid then some 11 else none

/-- The end of PAIR_BEGIN: the pairing identity keys are made and their public halves returned. -/
def endPairBegin (s : State) (f : Nat) (o : DefOp) : State :=
  let peer := rd o.payload 0 8
  let join := rd o.payload 8 1
  if !anyLink s then endOp s f o ePeer (peerWord s 1) []
  else match helloFault s peer with
  | some r => endOp s f o ePeer (peerWord s r) []
  | none =>
    let ec := fit 48 (Config.keyGen 0x10 2 s.rng)
    let ml := if s.ident.optionN then [] else fit 32 (Config.keyGen 0x14 65 s.rng)
    let ecPub := fit 97 (Config.publicHalf 0x10 2 ec)
    let mlPub := if s.ident.optionN then [] else fit 1952 (Config.publicHalf 0x14 65 ml)
    let s := draw s
    let s := setPair s { s.pair with identity := some { peer, join := join == 1, begun := s.now, ecdsa := ec, mldsa := ml }, early := none }
    endOp s f o sOk 0 (le 8 s.ident.serial ++ le 1 s.pair.seat ++ le 1 join ++ le 2 mlPub.length ++ zeros 4 ++ ecPub ++
      zeros 3 ++ mlPub)

/-! ### PAIR_COMPLETE (R417) -/

/-- PAIR_COMPLETE follows PAIR_BEGIN on a unit that still meets R416. -/
def completeModes (q : MbxReq) (s : State) : Option Nat :=
  if s.pair.identity.isNone then some (deviceStatus s) else pairModes q s

/-- PAIR_COMPLETE (0x0902). -/
def specPairComplete : CmdSpec :=
  { code := 0x0902, access := .q, pf := true, deferred := true, modes := completeModes
    region := fun _ s => s.scarecrow.zerofill != 0 }

/-- MLDSA_LEN of this part. -/
def mldsaPubLen (s : State) : Nat := if s.ident.optionN then 0 else 1952

/-- What a KEYEX message signs: its layout is the model's, notes/assumptions/43.md (DEDUCED). NONCE, ephemeral key, and on
H parts the encapsulation key or ciphertext. -/
def keyexPart (s : State) (nonce eph kem : Bytes) : Bytes :=
  fit 32 nonce ++ fit 97 eph ++ (if s.ident.optionN then [] else kem)

/-- The two signatures over "OPM-PAIR", the message and, in the source's answer, the joiner's message. -/
def keyexSigned (s : State) (i : PairIdentity) (msg cover : Bytes) : Bytes :=
  let m := ascii "OPM-PAIR" ++ msg ++ cover
  msg ++ signP384 s i.ecdsa m ++ (if s.ident.optionN then [] else signMldsa65 s i.mldsa m)

/-- The joiner sends its message (R417 step 1). -/
def sendJoiner (s : State) (i : PairIdentity) (k : KeyEx) : State :=
  let nonce := randomBytes s 32
  let eph := fit 48 (Config.keyGen 0x10 2 s.rng)
  let dk := fit 64 (Config.keyGen 0x16 768 s.rng)
  let msg := keyexPart s nonce (Config.publicHalf 0x10 2 eph) (fit 1184 (Config.publicHalf 0x16 768 dk))
  let k := { k with mine := msg, ephemeral := eph, kem := if s.ident.optionN then [] else dk }
  let out := keyexSigned s i msg []
  let s := setPair (draw s) { s.pair with keyex := some k }
  sendHawser s (keyexPath s) hwKeyex out

/-- PAIR_COMPLETE: format, then the key agreement starts. MLDSA_LEN 1,952 on an N part is a value that Table 14-9 does not give that
part, E_FORMAT, and not a request for ML-DSA that R5 would end with E_STATE, notes/assumptions/67.md (DESIGN CHOICE). -/
def bodyPairComplete (q : MbxReq) (s : State) : Reply :=
  let n := mldsaPubLen s
  if q.payload.length < 116 then reject s eLengthMismatch q.payload.length
  else if fld q 8 2 != n then reject s eFormat 40
  else withFormat q (116 + n) [(10, 6), (113, 3)] s <|
    match s.pair.identity with
    | none => reject s eState (deviceStatus s)
    | some i =>
      if i.peer != fld q 0 8 then peerFail s 9
      else if !anyLink s then peerFail s 1
      else match helloFault s i.peer with
      | some r => peerFail s r
      | none =>
        let k : KeyEx := { fn := q.fn, op := (fnOf s q.fn).opNo + 1, peer := i.peer, peerEcdsa := slice q.payload 16 97
                           peerMldsa := slice q.payload 116 n, started := s.now }
        accept (if i.join then sendJoiner s i k else setPair s { s.pair with keyex := some k }) []

/-- The operation of the key agreement ends with E_PEER (R420, R421); PAIR_BEGIN's identity stays until its lapse. -/
def keyexFails (s : State) (k : KeyEx) (reason : Nat) : State :=
  let s := setPair s { s.pair with keyex := none }
  match opOf s k.fn k.op with
  | some o => endOp s k.fn o ePeer (peerWord s reason) []
  | none => s

/-- The operation ends well (Table 14-9). -/
def keyexEnds (s : State) (k : KeyEx) : State :=
  let s := setPair s { s.pair with keyex := none }
  match opOf s k.fn k.op with
  | some o =>
    endOp s k.fn o sOk 0 (le 8 s.pair.peerSerial ++ fit 8 s.pair.pairKid ++ le 1 (roleNo s.pair.role) ++ zeros 7)
  | none => s

/-- The peer's signatures verify under the keys that PAIR_COMPLETE gave (R417 step 4). -/
def keyexSignedOk (s : State) (k : KeyEx) (msg cover sigs : Bytes) : Bool :=
  let m := ascii "OPM-PAIR" ++ msg ++ cover
  verifyP384 k.peerEcdsa m (sigs.take 96) && (s.ident.optionN || verifyMldsa65 k.peerMldsa m (sigs.drop 96))

/-- The pair key (R417): both secrets, both messages, both serials. -/
def makePairKey (s : State) (zec zkem joiner source : Bytes) (peer : Nat) : Bytes :=
  let a := if s.pair.seat == 0 then s.ident.serial else peer
  let b := if s.pair.seat == 0 then peer else s.ident.serial
  shake256 32 (ascii "OPM-PAIR" ++ fit 48 zec ++ zkem ++ sha3 (joiner ++ source) ++ le 8 a ++ le 8 b)

/-- The unit is paired under a pair key; its paths start sessions under the new PAIR_KID. -/
def recordPair (s : State) (peer : Nat) (key : Bytes) : State :=
  let s := setPair s { s.pair with paired := true, peerSerial := peer, pairKey := key, pairKid := kidOfPair key, keyGone := false
                                   copy := .own, peerMayClaim := false, peerRole := 7, takeovers := 0, identity := none }
  let s := if s.pair.pathA.link then pathBegins s .a else s
  if s.pair.pathB.link then pathBegins s .b else s

/-- The source writes into every stored port configuration the address the port uses (R410). -/
def fixMacs (s : State) : State :=
  (List.range 128).foldl (fun s p => storePort s p { (portOf s p).cfg with mac := macOf s p }) s

/-- The source answers the joiner's message (R417 step 2), records the pair and claims the Hitch (R416). -/
def answerJoiner (s : State) (i : PairIdentity) (k : KeyEx) (p : Path) (msg : Bytes) : State :=
  let eph := fit 48 (Config.keyGen 0x10 2 s.rng)
  let c := Config.encaps (le 2 768) (fit 1184 (msg.drop 129)) s.rng
  let mine := keyexPart s (randomBytes s 32) (Config.publicHalf 0x10 2 eph) (fit 1088 c.1)
  match Config.agree 0x0405 (le 2 2) eph (slice msg 32 97) with
  | none => keyexFails s k 6
  | some z =>
    let out := keyexSigned s i mine msg
    let key := makePairKey s z (if s.ident.optionN then [] else fit 32 c.2) msg mine k.peer
    let s := sendHawser (draw s) p hwKeyex out
    let s := fixMacs (recordPair s k.peer key)
    beginClaim (setPair s { s.pair with keyex := some { k with agreed := true } })

/-- The joiner takes the source's answer: it records the pair and goes to Resync (R414, R416). -/
def takeAnswer (s : State) (k : KeyEx) (msg : Bytes) : State :=
  match Config.agree 0x0405 (le 2 2) k.ephemeral (slice msg 32 97) with
  | none => keyexFails s k 6
  | some z =>
    let zkem := if s.ident.optionN then [] else fit 32 (Config.decaps (le 2 768) k.kem (fit 1088 (msg.drop 129)))
    let key := makePairKey s z zkem k.mine msg k.peer
    keyexEnds (goResync (recordPair s k.peer key) 1) k

/-- The reason for which the peer is no match (R416, R421): another member or option, another owner, other part versions. -/
def peerDiffers (s : State) (who : PeerUnit) : Option Nat :=
  if who.member != 0x9144 || who.optionN != s.ident.optionN then some 3
  else if fit 8 who.ownerKid != fit 8 s.life.ownerDigest then some 4
  else if fit 8 who.partsId != fit 8 (partsId s) then some 5
  else none

/-- A KEYEX frame (R417): the joiner's message has 1,184 bytes of encapsulation key, the source's 1,088 of ciphertext. One that comes between
this unit's PAIR_BEGIN and its PAIR_COMPLETE is kept for it. -/
def keyexFrame (s : State) (p : Path) (who : PeerUnit) (body : Bytes) : State :=
  match s.pair.keyex, s.pair.identity with
  | none, some _ => setPair s { s.pair with early := some (p, { peer := who, body }) }
  | some k, some i =>
    let sigs := if s.ident.optionN then 96 else 3405
    let kem := if s.ident.optionN then 0 else if i.join then 1088 else 1184
    let msg := body.take (body.length - sigs)
    if k.agreed then s
    else if let some r := peerDiffers s who then keyexFails s k r
    else if body.length != 129 + kem + sigs then keyexFails s k 7
    else if !keyexSignedOk s k msg (if i.join then k.mine else []) (body.drop msg.length) then keyexFails s k 6
    else if i.join then takeAnswer s k msg else answerJoiner s i k p msg
  | _, _ => s

/-- A KEYEX frame that came before PAIR_COMPLETE is taken with it (R417). -/
def takeEarly (s : State) : State :=
  match s.pair.keyex, s.pair.early with
  | some _, some (p, x) => keyexFrame (setPair s { s.pair with early := none }) p x.peer x.body
  | _, _ => s

/-- PAIR_COMPLETE. -/
def execPairComplete (q : MbxReq) (s : State) : Out := done s (takeEarly (goMbx specPairComplete bodyPairComplete q s))

/-! ### PAIR_STATUS (R420) -/

/-- PAIR_STATUS (0x0903). -/
def specPairStatus : CmdSpec := { code := 0x0903, inFreeze := fun _ => true, inPurge := true }

/-- PAIR_STATUS. -/
def bodyPairStatus (q : MbxReq) (s : State) : Reply :=
  let p := s.pair
  withFormat q 0 [] s <|
    accept s (le 1 (roleNo p.role) ++ le 1 (pairFlags s + pack [(ofBool p.hitchOut, 4, 1), (ofBool p.hitchIn, 5, 1)]) ++
      le 1 p.seat ++ le 1 (copyNo p.copy) ++ le 1 p.peerRole ++ le 1 (pathsUp s) ++ zeros 2 ++ le 8 p.peerSerial ++
      le 8 p.epoch ++ le 8 (ackedField s) ++ le 4 p.takeovers ++ le 4 p.gap ++ fit 8 p.pairKid ++ le 2 p.driven ++ zeros 2 ++
      leInt 8 p.tickOffset ++ zeros 4)

/-- PAIR_STATUS. -/
def execPairStatus (q : MbxReq) (s : State) : Out := runMbx specPairStatus bodyPairStatus q s

/-! ### PAIR_SWITCHOVER (R418) -/

/-- PAIR_SWITCHOVER (0x0904). -/
def specPairSwitchover : CmdSpec :=
  { code := 0x0904, access := .q, pf := true
    modes := fun _ s => if s.pair.role == .active then none else some (deviceStatus s) }

/-- PAIR_SWITCHOVER: knotting stops, what is knotted is released, and the mailbox waits: for the frames to leave, then for the last epoch to be
acknowledged. -/
def bodyPairSwitchover (q : MbxReq) (s : State) : Reply :=
  withFormat q 8 [] s <|
    if fld q 0 8 != s.pair.peerSerial then peerFail s 9
    else if !healthy s then peerFail s 8
    else { st := releaseKnotted s, hold := some (.switchover none) }

/-- PAIR_SWITCHOVER. -/
def execPairSwitchover (q : MbxReq) (s : State) : Out := runMbx specPairSwitchover bodyPairSwitchover q s

/-- Step 4 of R418: the Hitch is released and the unit is Standby, with its field outputs in shadow. A POWER_STATE_SET that
asked for it goes on to Vigil (R462). -/
def switchOver (s : State) : State :=
  let off := match (fnOf s 0).held with | some h => h.code == 0x0B01 | none => false
  let s := releaseHitch s
  let p := { s.pair with copy := .current, degraded := false, peerMayClaim := false, incoming := [], sentEpochs := [] }
  let s := setPair s { p with ackedValues := [], changes := [] }
  let s := finishHeld (setRole s .standby 3) 0 sOk 0 []
  if off then shutdown s else s

/-- The switchover comes to nothing: the unit goes on as Active. -/
def switchFails (s : State) : State :=
  let s := finishHeld s 0 ePeer (peerWord s 8) []
  (strandIds s).foldl advance ((tblKeys s.ports).foldl startTx s)

/-- The switchover goes on when its epoch has been acknowledged, and fails when the pair no longer serves it. -/
def switchCheck (s : State) : State :=
  match (fnOf s 0).held with
  | some { why := .switchover e, .. } =>
    if s.pair.role != .active then finishHeld s 0 ePeer (peerWord s 8) []
    else if e.any (· ≤ s.pair.acked) then switchOver s
    else if !s.pair.peerReachable || s.pair.peerRole != 2 then switchFails s
    else s
  | _ => s

/-! ### What R405 holds back -/

/-- Hub frames that waited go out in order as far as the acknowledged values allow (R405). -/
def releaseHub : Nat → State → Nat → State
  | 0, s, _ => s
  | fuel + 1, s, i =>
    let st := strandOf s i
    match st.hubWait with
    | [] => s
    | m :: rest =>
      if hubMustWait s i m.epoch then s
      else releaseHub fuel (emitHub (setStrand s i { st with hubWait := rest }) i m) i

/-- A COUNTER_ADVANCE or COUNTER_READ that waits for an epoch answers (R405). -/
def releaseAdvance (s : State) (f : Nat) : State :=
  match (fnOf s f).held with
  | some { why := .epoch id v, code, .. } =>
    if beyondAcked s id v then s else finishHeld s f sOk 0 (if code == 0x0110 then counterReply s id else le 8 v)
  | _ => s

/-- What R405 holds back goes on as far as it may. -/
def releaseWaits (s : State) : State :=
  let s := (tblKeys s.fns).foldl releaseAdvance s
  let s := (strandIds s).foldl (fun s i => advance (releaseHub (strandOf s i).hubWait.length s i) i) s
  startJobs s

/-! ### PAIR_DISSOLVE (R419) -/

/-- PAIR_DISSOLVE (0x0905). -/
def specPairDissolve : CmdSpec :=
  { code := 0x0905, access := .q, pf := true
    modes := fun _ s => if s.pair.role == .solo then some (deviceStatus s) else none
    region := fillingAll }

/-- The Active unit becomes Solo with its state: it goes on driving its outputs, and what waited for the peer's acknowledgement goes on. -/
def dissolveActive (s : State) : State :=
  let driven := s.pair.driven
  let seq := s.pair.fieldSeq
  let s := if s.pair.peerReachable then notice s 2 else s
  let s := unpair s 9
  releaseWaits (setPair s { s.pair with driven, fieldSeq := seq })

/-- PAIR_DISSOLVE. -/
def bodyPairDissolve (q : MbxReq) (s : State) : Reply :=
  withFormat q 8 [] s <|
    if fld q 0 8 != s.pair.peerSerial then peerFail s 9
    else if s.pair.role == .active then accept (dissolveActive s) []
    else accept (depart s) []

/-- PAIR_DISSOLVE. -/
def execPairDissolve (q : MbxReq) (s : State) : Out := runMbx specPairDissolve bodyPairDissolve q s

/-! ### Field outputs (R412, R413) -/

/-- FIELD_OUTPUT_SET (0x0906). -/
def specFieldOutputSet : CmdSpec := { code := 0x0906, pf := true, active := true }

/-- The response of FIELD_OUTPUT_SET (Table 14-9). -/
def fieldReply (s : State) (us : Nat) : Bytes := le 2 s.pair.driven ++ zeros 2 ++ le 4 us

/-- FIELD_OUTPUT_SET (R413): with a Standby the mailbox waits for its SHADOW_ACK. -/
def bodyFieldOutputSet (q : MbxReq) (s : State) : Reply :=
  let mask := fld q 0 2
  let v := (s.pair.driven &&& (0xFFFF ^^^ mask)) ||| (fld q 2 2 &&& mask)
  let seq := nextSeq s.pair.fieldSeq
  withFormat q 4 [] s <|
    let s := share (applyField s v seq) (.fieldOut v)
    if s.pair.role == .active && !s.pair.degraded && s.pair.peerReachable then
      { st := sendBoth s hwShadow (le 2 v ++ le 2 seq ++ zeros 4), hold := some (.shadow seq s.now) }
    else accept s (fieldReply s 0)

/-- FIELD_OUTPUT_SET. -/
def execFieldOutputSet (q : MbxReq) (s : State) : Out := runMbx specFieldOutputSet bodyFieldOutputSet q s

/-- FIELD_OUTPUT_READ (0x0907). -/
def specFieldOutputRead : CmdSpec := { code := 0x0907, inFreeze := fun _ => true }

/-- FIELD_OUTPUT_READ (Table 14-9). -/
def bodyFieldOutputRead (q : MbxReq) (s : State) : Reply :=
  withFormat q 0 [] s <| accept s (le 2 s.pair.driven ++ le 2 (fieldSensed s) ++ le 2 s.pair.peerField ++ zeros 2)

/-- FIELD_OUTPUT_READ. -/
def execFieldOutputRead (q : MbxReq) (s : State) : Out := runMbx specFieldOutputRead bodyFieldOutputRead q s

end Sys2Proof.Machine
end

