-- ==== Sys2Proof/Machine/Bales.lean ====
section
/-! DEFINITION. The bale commands (R428–R434, R449), activation (R436–R438) and the trial (R440–R443). -/

namespace Sys2Proof.Machine

/-! ### GET_INFO (R428) -/

/-- GET_INFO (0x0001). -/
def specGetInfo : CmdSpec := { code := 0x0001, access := .n, inFreeze := fun _ => true, inPurge := true, inRecovery := true }

/-- GET_INFO (Table 15-3). -/
def bodyGetInfo (q : MbxReq) (s : State) : Reply :=
  let r := running s
  let u := s.update
  withFormat q 0 [] s <|
    accept s (le 8 s.ident.serial ++ le 2 0x9144 ++ le 1 1 ++
      le 1 (pack [(u.bank, 0, 1), (ofBool (u.phase == .trial), 1, 1), (ofBool u.recovery, 2, 1), (ofBool (u.code == 1), 3, 1),
        (ofBool s.ident.optionN, 4, 1)]) ++
      le 4 r.svn ++ (List.range 7).flatMap (fun k => le 4 (r.versions.getD k 0)) ++ le 2 r.schema ++ le 2 (pairFormat s) ++
      fit 8 (partsId s) ++ fit 16 r.release ++ fit 32 r.baleId)

/-- GET_INFO. -/
def execGetInfo (q : MbxReq) (s : State) : Out := runMbx specGetInfo bodyGetInfo q s

/-! ### Download (R429–R431) -/

/-- E_UPDATE_REFUSED with a reason (R429). -/
def refuse (s : State) (r : Nat) : Reply := reject s eUpdateRefused r

/-- The command runs in some phases only. -/
def inPhases (ps : List Phase) (_ : MbxReq) (s : State) : Option Nat :=
  if ps.contains s.update.phase then none else some (deviceStatus s)

/-- BALE_BEGIN (0x0A01). -/
def specBaleBegin : CmdSpec :=
  { code := 0x0A01, pf := true, inRecovery := true, modes := inPhases [.idle, .staging, .staged], region := fillingAll }

/-- The response of BALE_BEGIN. -/
def beginReply (s : State) (resumed : Nat) : Reply :=
  accept s (le 2 (chunkCount s) ++ le 2 (chunksReceived s) ++ le 1 resumed ++ zeros 3)

/-- BALE_BEGIN (R430). -/
def bodyBaleBegin (q : MbxReq) (s : State) : Reply :=
  let len := fld q 0 4
  let id := slice q.payload 8 32
  let u := s.update
  withFormat q 40 [(4, 4)] s <|
    if len == 0 || 8388608 < len then reject s eLength 32
    else match firstRefusal s 6 with
    | some r => refuse s r
    | none =>
      if u.phase == .idle then
        let u := { u with phase := .staging, baleLen := len, baleId := id, chunks := [], verified := false, fallback := false
                          staged := {} }
        beginReply (setUpdate s u) 0
      else if u.baleLen == len && u.baleId == id then beginReply s 1
      else reject s eState (deviceStatus s)

/-- BALE_BEGIN. -/
def execBaleBegin (q : MbxReq) (s : State) : Out := runMbx specBaleBegin bodyBaleBegin q s

/-- BALE_CHUNK (0x0A02). -/
def specBaleChunk : CmdSpec := { code := 0x0A02, pf := true, inRecovery := true, modes := inPhases [.staging], region := fillingAll }

/-- The length of chunk `k`: 64 KiB, or the remainder for the last one. -/
def chunkLen (s : State) (k : Nat) : Nat := min 65536 (s.update.baleLen - 65536 * k)

/-- BALE_CHUNK (R431): `file` is what its DMA reads. -/
def bodyBaleChunk (file : Option Bytes) (q : MbxReq) (s : State) : Reply :=
  let k := fld q 8 2
  withFormat q 16 [(10, 2)] s <|
    if chunkCount s ≤ k then reject s eFormat 40
    else if fld q 12 4 != chunkLen s k then reject s eLengthMismatch (fld q 12 4)
    else match file with
      | none => reject s eDma 0
      | some b =>
        let s := setUpdate s { s.update with chunks := tblSet s.update.chunks k (fit (chunkLen s k) b) }
        accept s (le 2 (chunksReceived s) ++ le 2 (chunkCount s))

/-- BALE_CHUNK. -/
def execBaleChunk (q : MbxReq) (file : Option Bytes) (s : State) : Out := runMbx specBaleChunk (bodyBaleChunk file) q s

/-- BALE_CHUNK_MAP (0x0A03). -/
def specBaleChunkMap : CmdSpec := { code := 0x0A03, pf := true, inRecovery := true }

/-- BALE_CHUNK_MAP (Table 15-7). -/
def bodyBaleChunkMap (q : MbxReq) (s : State) : Reply :=
  withFormat q 0 [] s <|
    accept s (le 1 (phaseNo s.update.phase) ++ zeros 1 ++ le 2 (chunkCount s) ++ le 2 (chunksReceived s) ++ zeros 2 ++
      le 4 s.update.baleLen ++ fit 32 s.update.baleId ++ le 16 (maskOf (tblKeys s.update.chunks) 128))

/-- BALE_CHUNK_MAP. -/
def execBaleChunkMap (q : MbxReq) (s : State) : Out := runMbx specBaleChunkMap bodyBaleChunkMap q s

/-! ### BALE_VERIFY (R432) -/

/-- Staging, with every chunk received. -/
def verifyModes (_ : MbxReq) (s : State) : Option Nat :=
  if s.update.phase == .staging && chunksReceived s == chunkCount s then none else some (deviceStatus s)

/-- BALE_VERIFY (0x0A04). -/
def specBaleVerify : CmdSpec :=
  { code := 0x0A04, pf := true, deferred := true, inRecovery := true, modes := verifyModes, region := fillingAll }

/-- BALE_VERIFY begins: conditions 1–6. -/
def bodyBaleVerify (q : MbxReq) (s : State) : Reply :=
  withFormat q 0 [] s <|
    match firstRefusal s 6 with
    | some r => refuse s r
    | none => accept s []

/-- BALE_VERIFY. -/
def execBaleVerify (q : MbxReq) (s : State) : Out := runMbx specBaleVerify bodyBaleVerify q s

/-- The end of BALE_VERIFY: nothing is persisted until every check has passed. In recovery mode the new bank is committed
and a cold reset follows (R448). -/
def endBaleVerify (s : State) (f : Nat) (o : DefOp) : State :=
  if (verifyModes { fn := f } s).isSome then endOp s f o eState (deviceStatus s) []
  else match (firstRefusal s 6).orElse (fun _ => baleFault s) with
    | some r => endOp s f o eUpdateRefused r []
    | none =>
      let x := baleInfo (staged s)
      let rec_ := le 4 x.svn ++ le 1 (maskOf (changedParts s x) 7) ++ zeros 1 ++ le 2 (pauseMs s x) ++
        fit 8 (partsIdOf x.versions)
      let s := setUpdate s { s.update with phase := .staged, verified := true, staged := x }
      let s := endOp s f o sOk 0 rec_
      if s.update.recovery then coldReset (commitBank s) else s

/-! ### Status and the lock -/

/-- BALE_STATUS (0x0A06). -/
def specBaleStatus : CmdSpec := { code := 0x0A06, inFreeze := fun _ => true, inPurge := true, inRecovery := true }

/-- BALE_STATUS (Table 15-7). -/
def bodyBaleStatus (q : MbxReq) (s : State) : Reply :=
  let u := s.update
  withFormat q 0 [] s <|
    accept s (le 1 (phaseNo u.phase) ++ le 1 u.result ++ le 1 u.reason ++ le 1 u.attempt ++ le 2 (chunkCount s) ++
      le 2 (chunksReceived s) ++ le 4 (trialLeftMs s) ++ le 4 u.svnFloor ++ le 4 (if u.verified then u.staged.svn else 0) ++
      zeros 4 ++ fit 32 u.baleId)

/-- BALE_STATUS. -/
def execBaleStatus (q : MbxReq) (s : State) : Out := runMbx specBaleStatus bodyBaleStatus q s

/-- BALE_ABANDON (0x0A07). -/
def specBaleAbandon : CmdSpec :=
  { code := 0x0A07, pf := true, inRecovery := true, modes := inPhases [.staging, .staged, .trial], region := fillingAll }

/-- BALE_ABANDON (R434): in Trial the device reverts at once, and the old release starts. -/
def bodyBaleAbandon (q : MbxReq) (s : State) : Reply :=
  withFormat q 0 [] s <|
    if s.update.phase == .trial then accept (revertBank s 6) []
    else accept (updateEnds s 3 0) []

/-- BALE_ABANDON: the reversion's cold reset follows the response. -/
def execBaleAbandon (q : MbxReq) (s : State) : Out :=
  done s (
    let t := goMbx specBaleAbandon bodyBaleAbandon q s
    if s.update.phase == .trial && t.update.phase == .idle then coldReset t else t)

/-- UPDATE_LOCK_SET (0x0A08). -/
def specUpdateLockSet : CmdSpec := { code := 0x0A08, access := .q, pf := true, region := fillingAll }

/-- UPDATE_LOCK_SET (R449). -/
def bodyUpdateLockSet (q : MbxReq) (s : State) : Reply :=
  let v := fld q 0 1
  withFormat q 4 [(1, 3)] s <|
    if 2 ≤ v then reject s eFormat 32 else accept (setUpdate s { s.update with lock := v == 1 }) []

/-- UPDATE_LOCK_SET. -/
def execUpdateLockSet (q : MbxReq) (s : State) : Out := runMbx specUpdateLockSet bodyUpdateLockSet q s

/-! ### Activation (R436–R438) -/

/-- BALE_ACTIVATE (0x0A05). Drowse has no Trial (Table 16-9), so it is refused there, notes/assumptions/38.md (DEDUCED). -/
def specBaleActivate : CmdSpec :=
  { code := 0x0A05, access := .q, pf := true, deferred := true, region := fillingAll
    modes := fun q s => if s.power.state == .drowse then some (deviceStatus s) else inPhases [.staged] q s }

/-- BALE_ACTIVATE begins (R436 steps 1 and 2). -/
def bodyBaleActivate (q : MbxReq) (s : State) : Reply :=
  withFormat q 40 [(32, 8)] s <|
    if slice q.payload 0 32 != s.update.staged.baleId then reject s eState (deviceStatus s)
    else match firstRefusal s 8 with
      | some r => refuse s r
      | none => accept (setUpdate s { s.update with activation := .draining q.fn ((fnOf s q.fn).opNo + 1) s.now }) []

/-- BALE_ACTIVATE. -/
def execBaleActivate (q : MbxReq) (s : State) : Out := runMbx specBaleActivate bodyBaleActivate q s

/-- Every mailbox command and deferred operation but this one has ended. -/
def drained (s : State) (f op : Nat) : Bool :=
  s.fns.all (fun e => e.2.state != .busy && e.2.ops.all (fun o => e.1 == f && o.no == op))

/-- End the BALE_ACTIVATE operation, if its function still has it. -/
def endActivate (s : State) (f op status detail : Nat) (record : Bytes) : State :=
  match opOf s f op with
  | some o => endOp s f o status detail record
  | none => s

/-- What the second check finds (R436 step 3). -/
def secondCheck (s : State) : Option Nat := if imagesOk (staged s) then firstRefusal s 8 else some 11

/-- The changed SERDES part takes every link of quads Q04–Q35 down (Table 15-5). -/
def serdesDown (s : State) : State :=
  let s := settleFloors ((tblKeys s.ports).foldl takeDown s)
  pathEnds (pathEnds s .a false) .b false

/-- The activation pause begins (R436 step 5): a Standby enters Resync (R444). -/
def pauseBegins (s : State) (f op : Nat) (changed : List Nat) : State :=
  let s := shutMailboxes (setUpdate s { s.update with activation := .pause f op s.now, changed })
  let s := if s.pair.role == .standby then goResync s 15 else s
  if changed.contains 3 then serdesDown s else s

/-- The drain has ended (R436 steps 3 to 5). -/
def execActivationDrainEnd (s : State) : Out :=
  done s (
    match s.update.activation with
    | .draining f op _ =>
      if !powered s || !drained s f op then s
      else match secondCheck s with
        | some r => endActivate (setUpdate s { s.update with activation := .none }) f op eUpdateRefused r []
        | none =>
          let changed := changedParts s s.update.staged
          pauseBegins (commitBank s) f op changed
    | _ => s)

/-- A drain that has not ended after 200 ms (R436 step 2). -/
def execActivationDrainTimeout (s : State) : Out :=
  done s (
    match s.update.activation with
    | .draining f op since =>
      if !powered s || drained s f op then s
      else
        let s := advanceTo s (since + 200000)
        endActivate (setUpdate s { s.update with activation := .none }) f op eBusy 0 []
    | _ => s)

/-- Sheaf timers and the timers of chip sessions were suspended for `d` µs (Tables 8-10, 9-13). -/
def shiftTimers (s : State) (d : Nat) : State :=
  let later := fun (c : ChipSession) => { c with begun := c.begun + d, cmdTick := c.cmdTick + d }
  { s with
    instances := tblMap s.instances (fun _ x => { x with timers := tblMap x.timers (fun _ t => t + d) })
    strands := tblMap s.strands (fun _ st => { st with chip := st.chip.map later }) }

/-- The changed parts have started: the trial attempt begins, with its deadline (R436 step 6, R440). Chip sessions end where the HANDS part
changed (Table 8-10), a Resync unit asks for its copy again, and what waited goes on. -/
def pauseEnds (s : State) (f op since : Nat) : State :=
  let us := s.now - since
  let hands := s.update.changed.contains 1
  let deadline := s.now + 120000000
  let s := setUpdate s
    { s.update with activation := .none, phase := .trial, deadline, changed := [], testsPassed := [], attemptStart := s.now }
  let s := shiftTimers (openMailboxes s) us
  let s := endActivate s f op sOk 0 (le 4 us ++ le 1 s.update.attempt ++ zeros 3 ++ le 8 deadline)
  let s := if hands then endChips s 10 else s
  startJobs (if s.pair.role == .resync then notice s 3 else s)

/-- A job that the Mill runs or checks is still to complete before the Mill's microcode is replaced (R226). -/
def millHolds (s : State) : Bool :=
  s.update.changed.contains 4 && s.jobs.any (fun b => b.engine == .mill && (b.stage == .running || b.stage == .checking))

/-- The end of the activation pause (R436, R438, R439). A purge in the pause has already gone back to the old bank. -/
def execActivationPauseEnd (loaded migrated : Bool) (s : State) : Out :=
  done s (
    match s.update.activation with
    | .pause f op since =>
      if !stewardWorks s || millHolds s then s
      else if s.update.attempt == 0 then
        let s := setUpdate s { s.update with activation := .none, changed := [] }
        startJobs (endActivate (openMailboxes s) f op ePurged 0 [])
      else if !loaded then coldReset (revertBank s 4)
      else if !migrated then coldReset (revertBank s 2)
      else pauseEnds s f op since
    | _ => s)

/-! ### The trial (R440–R442) -/

/-- The release confirms itself (R440, R441). -/
def execTrialConfirm (s : State) : Out :=
  done s (
    let t := max s.now (s.update.attemptStart + 30000000)
    if powered s && trialHolds s && t < s.update.deadline then confirmBank (advanceTo s t) else s)

/-- The attempt fails at its deadline (R440, R442). -/
def execTrialDeadline (s : State) : Out :=
  done s (
    if powered s && s.update.phase == .trial && s.update.deadline != 0 then attemptFails (advanceTo s s.update.deadline) else s)

end Sys2Proof.Machine
end

