-- ==== Sys2Proof/Machine/Cards.lean ====
section
/-! DEFINITION. The card and quorum commands (R326–R336) and the events of the card slots (R317–R319). -/

namespace Sys2Proof.Machine

/-! ### Slot events -/

/-- A card that has been present for 50 ms: in an empty slot its activation begins, and in one that is activating it ends, with the card
answering as the operand says (R317), notes/assumptions/26.md (DESIGN CHOICE). Nothing while the slots have no supply, nor during the
zero-fill after which R349 activates them. -/
def execCardActivation (slot : Nat) (card : Card) (s : State) : Out :=
  let w := cardSlotOf s slot
  done s (
    if 3 < slot || !slotsPowered s || s.scarecrow.zerofill != 0 then s
    else match w.status, w.card with
    | .empty, _ => setCardSlot s slot { status := .activating, card := some card }
    | .activating, some c =>
      activateCard s slot { c with atrC := card.atrC, atrB := card.atrB, ppsOk := card.ppsOk, modeSw := card.modeSw, links := card.links }
    | _, _ => s)

/-- A card is removed: it is deactivated in order and the slot is empty (R318). -/
def execCardRemoved (slot : Nat) (s : State) : Out := done s (if slot < 4 then setCardSlot s slot {} else s)

/-- VCC current beyond its limit: the slot reports FAULT and stays unpowered until the card is removed (R319). -/
def execCardOvercurrent (slot : Nat) (s : State) : Out :=
  let w := cardSlotOf s slot
  done s (if slot < 4 && w.card.isSome then setCardSlot s slot { status := .fault, card := w.card } else s)

/-! ### CARD_STATUS and CUSTODY_JOURNAL_READ -/

/-- SLOT_STATE numbers (Table 11-5). -/
def slotStatusNo : SlotStatus → Nat
  | .empty => 0 | .activating => 1 | .ready => 2 | .mute => 3 | .refused => 4 | .fault => 5

/-- CARD_STATUS (0x0801). -/
def specCardStatus : CmdSpec := { code := 0x0801, pf := true, inFreeze := fun _ => true }

/-- The CARD_STATUS response of a slot: the card's fields only while it is ready. -/
def cardStatusBytes (s : State) (n : Nat) : Bytes :=
  let w := cardSlotOf s n
  match readyCard s n with
  | none => le 1 n ++ le 1 (slotStatusNo w.status) ++ zeros 5 ++ le 1 0xFF ++ zeros 80
  | some c =>
    let off := ((officerByCard s c.cardId).map (·.1)).getD 0xFF
    let flags := pack [(ofBool (hasEntry s c.cardId jConflict), 0, 1), (ofBool (hasEntry s c.cardId jIndeterminate), 1, 1)]
    le 1 n ++ le 1 2 ++ le 1 w.cls ++ le 1 (if w.twoLine then 2 else 1) ++ le 1 (slotAtr w).ta1 ++ le 1 c.state ++ le 1 c.pinTries ++
    le 1 off ++ le 4 (baudOf w) ++ le 4 c.commit ++ fit 16 c.cardId ++ le 1 flags ++ le 1 (min 33 w.atr.length) ++
    zeros 2 ++ fit 33 w.atr ++ zeros 19

/-- CARD_STATUS (R336). -/
def bodyCardStatus (q : MbxReq) (s : State) : Reply :=
  withFormat q 4 [(1, 3)] s <|
    if 3 < fld q 0 1 then reject s eFormat 32 else accept s (cardStatusBytes s (fld q 0 1))

/-- CARD_STATUS. -/
def execCardStatus (q : MbxReq) (s : State) : Out := runMbx specCardStatus bodyCardStatus q s

/-- CUSTODY_JOURNAL_READ (0x0809). -/
def specCustodyJournalRead : CmdSpec := { code := 0x0809, pf := true, inFreeze := fun _ => true }

/-- CUSTODY_JOURNAL_READ: up to 60 entries from FIRST (R336). -/
def bodyCustodyJournalRead (q : MbxReq) (s : State) : Reply :=
  withFormat q 4 [] s <|
    let es := s.journal.filter (fun e => fld q 0 4 ≤ e.jno)
    let out := es.take 60
    accept s (le 2 out.length ++ le 2 (ofBool (60 < es.length)) ++ zeros 4 ++ out.flatMap journalBytes)

/-- CUSTODY_JOURNAL_READ. -/
def execCustodyJournalRead (q : MbxReq) (s : State) : Out := runMbx specCustodyJournalRead bodyCustodyJournalRead q s

/-! ### Officers -/

/-- OFFICER_ENROL (0x0802). -/
def specOfficerEnrol : CmdSpec := { code := 0x0802, access := .q, pf := true, region := fillingAll, active := true }

/-- The lowest officer number without a record, or the one asked for. -/
def enrolNumber (s : State) (n : Nat) : Option Nat :=
  if n == 0xFF then firstFrom 0 16 (fun i => !tblHas s.officers i) else some n

/-- A card that may not be enrolled: it belongs to a record, is locked, or has a CONFLICT entry (R324, R327). -/
def enrolDenied (s : State) (c : Card) : Bool :=
  s.officers.any (fun e => e.2.cardId == c.cardId || e.2.pub == c.pub) || c.state == 2 || hasEntry s c.cardId jConflict

/-- The PIN field: a length of 6 to 12 digits, the rest zero (R327). -/
def badPin (len : Nat) (pin : Bytes) : Bool :=
  len < 6 || 12 < len || !allDigits (pin.take len) || !allZero (pin.drop len)

/-- OFFICER_ENROL (R327). -/
def bodyOfficerEnrol (link : CardLink) (q : MbxReq) (s : State) : Reply :=
  let slot := fld q 0 1
  let n := fld q 1 1
  let len := fld q 2 1
  let pin := slice q.payload 4 12
  withFormat q 16 [(3, 1)] s <|
    if 3 < slot then reject s eFormat 32
    else if 15 < n && n != 0xFF then reject s eFormat 33
    else if len < 6 || 12 < len then reject s eFormat 34
    else if badPin len pin then reject s eFormat 36
    else match readyCard s slot with
    | none => reject s eCard slot
    | some c =>
      match enrolNumber s n with
      | none => reject s eLimit 16
      | some n =>
        if tblHas s.officers n || enrolDenied s c then reject s eDenied 0
        else
          let apdu := le 4 c.commit ++ le 8 s.ident.serial ++ le 1 n ++ le 1 len ++ fit 12 pin
          let (e, s) := beginJournal s 1 slot n c apdu
          let (e, s) := sendWrite s slot e (linkAt link 0)
          let rec_ := fun st => some ({ cardId := c.cardId, pub := c.pub, state := st } : Officer)
          if e.state == jIndeterminate then reject (setOfficer s n (rec_ .pending)) eCard slot
          else if e.state == jDone && e.sw == swOk then
            accept (setOfficer s n (rec_ .active)) (le 1 n ++ zeros 3 ++ le 4 e.jno)
          else reject s eCard slot

/-- OFFICER_ENROL. -/
def execOfficerEnrol (q : MbxReq) (link : CardLink) (s : State) : Out :=
  runMbx specOfficerEnrol (bodyOfficerEnrol link) q s

/-- OFFICER_REMOVE (0x0803). -/
def specOfficerRemove : CmdSpec := { code := 0x0803, access := .q, pf := true, region := fillingAll, active := true }

/-- OFFICER_REMOVE (R329, R330, R334). -/
def bodyOfficerRemove (q : MbxReq) (s : State) : Reply :=
  let n := fld q 0 1
  withFormat q 4 [(1, 3)] s <|
    if 15 < n then reject s eFormat 32
    else match tblFind s.officers n with
    | none => reject s eState (deviceStatus s)
    | some _ =>
      let s' := setOfficer s n none
      if usableOfficers s' < s.quorumM then reject s eState (deviceStatus s) else accept (dropApprovals s') []

/-- OFFICER_REMOVE. -/
def execOfficerRemove (q : MbxReq) (s : State) : Out := runMbx specOfficerRemove bodyOfficerRemove q s

/-- QUORUM_SET (0x0804). -/
def specQuorumSet : CmdSpec := { code := 0x0804, access := .q, pf := true, region := fillingAll, active := true }

/-- QUORUM_SET (R330, R334). -/
def bodyQuorumSet (q : MbxReq) (s : State) : Reply :=
  let m := fld q 0 1
  withFormat q 4 [(1, 3)] s <|
    if m == 0 || 8 < m then reject s eFormat 32
    else if usableOfficers s < m then reject s eState (deviceStatus s)
    else accept (share (dropApprovals { s with quorumM := m }) (.quorum m)) []

/-- QUORUM_SET. -/
def execQuorumSet (q : MbxReq) (s : State) : Out := runMbx specQuorumSet bodyQuorumSet q s

/-! ### Approvals -/

/-- The codes of Table 11-4. -/
def guardedCodes : List Nat :=
  [0x0005, 0x0006, 0x0101, 0x0103, 0x0105, 0x0107, 0x0230, 0x0506, 0x0507, 0x0508, 0x0602, 0x0604, 0x0606, 0x0607,
   0x0609, 0x0701, 0x0703, 0x0705, 0x0802, 0x0803, 0x0804, 0x0808, 0x0901, 0x0902, 0x0904, 0x0905, 0x0A05, 0x0A08,
   0x0B04, 0x0C02, 0x0C04, 0x0D02, 0x0D07, 0x0E02, 0x0E03]

/-- The guarded commands that run during Freeze (Table 12-5). -/
def freezeCodes : List Nat := [0x0101, 0x0105, 0x0508, 0x0607, 0x0C02, 0x0C04, 0x0D07]

/-- Approvals that have not expired. -/
def liveApprovals (s : State) : Nat := (s.approvals.filter (fun a => s.now < a.expires)).length

/-- QUORUM_BEGIN (0x0805). -/
def specQuorumBegin : CmdSpec := { code := 0x0805, pf := true, inFreeze := fun _ => true }

/-- QUORUM_BEGIN (R332, R334). -/
def bodyQuorumBegin (q : MbxReq) (s : State) : Reply :=
  let code := fld q 0 2
  let valid := fld q 4 2
  withFormat q 40 [(3, 1), (6, 2)] s <|
    if !guardedCodes.contains code then reject s eFormat 32
    else if 63 < fld q 2 1 then reject s eFormat 34
    else if valid != 0 && (valid < 10 || 3600 < valid) then reject s eFormat 36
    else if frozen s && !freezeCodes.contains code then reject s eFrozen (alarmLevel s)
    else if 4 ≤ liveApprovals s then reject s eLimit 4
    else
      let a : Approval := { no := s.approvalNo, code, client := fld q 2 1, digest := slice q.payload 8 32
                            expires := s.now + (if valid == 0 then 600 else valid) * 1000000
                            challenge := randomBytes s 32 }
      let s := draw { s with approvals := s.approvals ++ [a], approvalNo := s.approvalNo + 1 }
      accept s (le 4 a.no ++ le 1 s.quorumM ++ zeros 3 ++ le 8 a.expires ++ a.challenge)

/-- QUORUM_BEGIN. -/
def execQuorumBegin (q : MbxReq) (s : State) : Out := runMbx specQuorumBegin bodyQuorumBegin q s

/-- What an officer's card signs for an approval (R332). -/
def approvalMessage (s : State) (a : Approval) : Bytes :=
  ascii "OPM-QUORUM" ++ le 8 s.ident.serial ++ le 4 a.no ++ le 2 a.code ++ le 1 a.client ++ a.digest ++ a.challenge

/-- A signature counts: the officer joins the approval, which is APPROVED at m (R332). -/
def addSigner (s : State) (a : Approval) (n : Nat) : Reply :=
  let a := { a with signers := a.signers ++ [n] }
  let a := { a with approved := s.quorumM ≤ a.signers.length }
  let s := { s with approvals := s.approvals.map (fun b => if b.no == a.no then a else b) }
  accept s (le 1 a.signers.length ++ le 1 s.quorumM ++ le 1 (if a.approved then 2 else 1) ++ le 1 n)

/-- The tick at which an exchange of two APDUs with a card ends: a conforming card completes each within 40 ms (R321); the time that it
takes is a FREE VALUE, notes/assumptions/26.md. -/
def exchangeEnd (s : State) : Nat := s.now + Config.free 0x0806 s.rng % 80001

/-- The signature over an approval's message counts where it verifies and the approval has not expired in the time that the exchanges
took (R332, Table 11-6). -/
def countSignature (s : State) (a : Approval) (n : Nat) (o : Officer) (sig : Bytes) : Reply :=
  let msg := approvalMessage s a
  let s := draw (advanceTo s (exchangeEnd s))
  if a.expires ≤ s.now then reject s eTooLate 0
  else if verifyP384 o.pub msg sig then addSigner s a n
  else reject s eAuth 0

/-- The card answers VERIFY, then SIGN (R328, R332); one that is removed or lost in either gains the approval nothing, and a try that
it has taken stands (Table 11-6). -/
def approveWith (s : State) (a : Approval) (slot n : Nat) (o : Officer) (c : Card) (pin : Bytes) (link : CardLink) :
    Reply :=
  match exchange s slot (linkAt link 0) (some (verifyApdu pin)) (fun c => cardVerify c pin) with
  | (none, s) => reject s eCard slot
  | (some sw, s) =>
    if sw == swLocked || sw == 0x63C0 then reject (lockOfficer s c.cardId) ePin 0
    else if sw / 16 == 0x63C then reject s ePin (sw % 16)
    else if sw != swOk then reject s eCard slot
    else
      let s := setCardSlot s slot { cardSlotOf s slot with verified := true }
      let msg := approvalMessage s a
      match exchange s slot (linkAt link 1) (some (signApdu (sha384 msg))) (fun c => (swOk, c)) with
      | (none, s) => reject s eCard slot
      | (some _, s) => countSignature s a n o (cardSign s c msg)

/-- QUORUM_APPROVE (0x0806). -/
def specQuorumApprove : CmdSpec := { code := 0x0806, pf := true, inFreeze := fun _ => true }

/-- QUORUM_APPROVE (R332, R336, R337). -/
def bodyQuorumApprove (link : CardLink) (q : MbxReq) (s : State) : Reply :=
  let slot := fld q 4 1
  let len := fld q 5 1
  let pin := slice q.payload 8 12
  withFormat q 20 [(6, 2)] s <|
    if 3 < slot then reject s eFormat 36
    else if 12 < len then reject s eFormat 37
    else if !allZero (pin.drop len) then reject s eFormat 40
    else match s.approvals.find? (fun a => a.no == fld q 0 4) with
    | none => reject s eState (deviceStatus s)
    | some a =>
      if a.expires ≤ s.now then reject s eTooLate 0
      else if a.approved then reject s eState (deviceStatus s)
      else match readyCard s slot with
      | none => reject s eCard slot
      | some c =>
        match officerByCard s c.cardId with
        | none => reject s eDenied 0
        | some (n, o) =>
          if o.pub != c.pub || o.state != .active || a.signers.contains n || hasEntry s c.cardId jConflict then
            reject s eDenied 0
          else approveWith s a slot n o c (pin.take len) link

/-- QUORUM_APPROVE. -/
def execQuorumApprove (q : MbxReq) (link : CardLink) (s : State) : Out :=
  runMbx specQuorumApprove (bodyQuorumApprove link) q s

/-- QUORUM_CANCEL (0x0807). -/
def specQuorumCancel : CmdSpec := { code := 0x0807, pf := true, inFreeze := fun _ => true }

/-- QUORUM_CANCEL (R334). -/
def bodyQuorumCancel (q : MbxReq) (s : State) : Reply :=
  withFormat q 4 [] s <|
    match s.approvals.find? (fun a => a.no == fld q 0 4) with
    | none => reject s eState (deviceStatus s)
    | some a => accept (consumeApproval s a) []

/-- QUORUM_CANCEL. -/
def execQuorumCancel (q : MbxReq) (s : State) : Out := runMbx specQuorumCancel bodyQuorumCancel q s

/-! ### CARD_FORCE_ERASE (R329) -/

/-- CARD_FORCE_ERASE (0x0808). -/
def specCardForceErase : CmdSpec :=
  { code := 0x0808, access := .q, pf := true, deferred := true, region := fillingAll, active := true }

/-- Step 10 of CARD_FORCE_ERASE, and the card it names, which the response reports, notes/assumptions/53.md (DEDUCED). -/
def bodyCardForceErase (link : CardLink) (q : MbxReq) (s : State) : Reply :=
  withFormat q 20 [(1, 3)] s <|
    if 3 < fld q 0 1 then reject s eFormat 32
    else match readyCard s (fld q 0 1) with
    | none => reject s eCard (fld q 0 1)
    | some c => if c.cardId != slice q.payload 4 16 then reject s eDenied 0 else { accept s [] with link }

/-- CARD_FORCE_ERASE starts; it ends at DEFERRED_OP_END. -/
def execCardForceErase (q : MbxReq) (link : CardLink) (s : State) : Out :=
  runMbx specCardForceErase (bodyCardForceErase link) q s

/-- The OP_DONE record of CARD_FORCE_ERASE. -/
def eraseRecord (jno officer verifies : Nat) : Bytes := le 4 jno ++ le 1 officer ++ le 1 verifies ++ zeros 2

/-- The PIN of 13 bytes that is malformed and can never be correct (R329). -/
def longPin : Bytes := List.replicate 13 0x30

/-- VERIFY with that PIN until the card answers otherwise than 63Cx (R329): the last answer, the exchanges sent, and the state. A lock
is taken over as R328 says. -/
def lockOut (n : Nat) (id : Bytes) (l : CardLink) : Nat → Nat → State → Option Nat × Nat × State
  | 0, k, s => (none, k, s)
  | fuel + 1, k, s =>
    match exchange s n (linkAt l k) (some (verifyApdu longPin)) (fun c => cardVerify c longPin) with
    | (none, s) => (none, k + 1, s)
    | (some sw, s) =>
      let s := if sw == swLocked || sw == 0x63C0 then lockOfficer s id else s
      if sw / 16 == 0x63C then lockOut n id l fuel (k + 1) s else (some sw, k + 1, s)

/-- Steps 2 and 3 of R329, after `k` exchanges. -/
def eraseCard (s : State) (f : Nat) (o : DefOp) (slot : Nat) (c : Card) (k : Nat) : State :=
  let off := ((officerByCard s c.cardId).map (·.1)).getD 0xFF
  let (e, s) := beginJournal s 2 slot off c (le 4 c.commit)
  let (e, s) := sendWrite s slot e (linkAt o.link k)
  if e.state == jDone && e.sw == swOk then endOp (completeWrite s e) f o sOk 0 (eraseRecord e.jno off k)
  else endOp s f o eCard slot []

/-- The end of CARD_FORCE_ERASE, where the card is judged again: VERIFY until the card is locked, then ERASE, then the records (R329).
A blank card answers VERIFY with no word that R321 names, and the command ends with E_CARD. -/
def endCardForceErase (s : State) (f : Nat) (o : DefOp) : State :=
  let slot := rd o.payload 0 1
  match readyCard s slot with
  | none => endOp s f o eCard slot []
  | some c =>
    if c.cardId != slice o.payload 4 16 then endOp s f o eDenied 0 []
    else if c.state == 2 then eraseCard s f o slot c 0
    else match lockOut slot c.cardId o.link 17 0 s with
    | (some 0x6983, k, s) => eraseCard s f o slot c k
    | (_, _, s) => endOp s f o eCard slot []

end Sys2Proof.Machine
end

