-- ==== Sys2Proof/Machine/Contexts.lean ====
section
/-! DEFINITION. Context commands (R168–R171, R190), TWIN_SET (R148) and CURVE_LIST (R206). -/

namespace Sys2Proof.Machine

/-- E_BUSY for an end that the device cannot foresee: the suggested wait is a free value. -/
def busyReply (s : State) : Reply := reject (draw s) eBusy (Config.free 0x0301 s.rng % 2 ^ 32)

/-- A job naming the context has been fetched and has not completed. -/
def contextBusy (s : State) (c : Nat) : Bool := s.jobs.any (fun b => b.context == some c)

/-! ### CONTEXT_CLAIM (R169, R171) -/

/-- CONTEXT_CLAIM (0x0220). -/
def specContextClaim : CmdSpec := { code := 0x0220 }

/-- The context's number and floor. -/
def claimReply (c f : Nat) : Bytes := le 4 c ++ le 1 f ++ zeros 3

/-- A free context becomes the client's, on the floor that the central Winnow chooses. -/
def claimContext (s : State) (f c : Nat) : Reply :=
  if 2048 ≤ (s.contexts.filter (fun e => e.2.holder == f)).length then reject s eLimit 2048
  else
    let fl := chooseFloor s
    accept (setContext s c { holder := f, floor := fl }) (claimReply c fl)

/-- CONTEXT_CLAIM's effect. -/
def bodyContextClaim (q : MbxReq) (s : State) : Reply :=
  withFormat q 4 [] s <|
    let c := fld q 0 4
    if c == 0xFFFFFFFF then
      match scanFrom (fun i => !tblHas s.contexts i) 16384 0 with
      | none => reject s eLimit 16384
      | some i => claimContext s q.fn i
    else if 16384 ≤ c then reject s eFormat 32
    else match tblFind s.contexts c with
      | none => claimContext s q.fn c
      | some x => if x.holder == q.fn then accept s (claimReply c x.floor) else reject s eHeld x.holder

/-- CONTEXT_CLAIM. -/
def execContextClaim (q : MbxReq) (s : State) : Out := runMbx specContextClaim bodyContextClaim q s

/-! ### CONTEXT_RELEASE (R170), DIGEST_CONTEXT_RESET (R190) -/

/-- Go on with a context that the client holds: E_DENIED where nobody does, E_HELD where another client does. -/
def withOwnContext (q : MbxReq) (s : State) (k : Nat → Context → Reply) : Reply :=
  let c := fld q 0 4
  withFormat q 4 [] s <|
    if 16384 ≤ c then reject s eFormat 32
    else match tblFind s.contexts c with
      | none => reject s eDenied 0
      | some x => if x.holder == q.fn then k c x else reject s eHeld x.holder

/-- CONTEXT_RELEASE (0x0221). -/
def specContextRelease : CmdSpec := { code := 0x0221, inFreeze := fun _ => true, flags := 1 }

/-- CONTEXT_RELEASE's effect: with FORCE the jobs of the context complete with E_STATE. -/
def bodyContextRelease (q : MbxReq) (s : State) : Reply :=
  withOwnContext q s fun c x =>
    if contextBusy s c && q.flags == 0 then busyReply s
    else
      let s := stopContext s c
      accept (startJobs (settleFloor { s with contexts := tblDel s.contexts c } x.floor)) []

/-- CONTEXT_RELEASE. -/
def execContextRelease (q : MbxReq) (s : State) : Out := runMbx specContextRelease bodyContextRelease q s

/-- DIGEST_CONTEXT_RESET (0x0310). -/
def specDigestContextReset : CmdSpec := { code := 0x0310 }

/-- The message is a digest message. -/
def digestMessage (m : Message) : Bool := m.opcode == 0x0301 || m.opcode == 0x0302

/-- DIGEST_CONTEXT_RESET's effect: the context stays claimed and remembers nothing; partial digest state is discarded, while a
cipher message, open or ended, is none of it (R190). -/
def bodyDigestContextReset (q : MbxReq) (s : State) : Reply :=
  withOwnContext q s fun c x =>
    if contextBusy s c then busyReply s
    else
      let msg := x.msg.filter (fun m => !digestMessage m)
      accept (setContext s c { x with msg, ended := if x.endedDigest then none else x.ended, remembered := none }) []

/-- DIGEST_CONTEXT_RESET. -/
def execDigestContextReset (q : MbxReq) (s : State) : Out := runMbx specDigestContextReset bodyDigestContextReset q s

/-! ### CONTEXT_INFO (R168) -/

/-- CONTEXT_INFO (0x0222). -/
def specContextInfo : CmdSpec := { code := 0x0222, inFreeze := fun _ => true }

/-- TAG_LEN of an open message; 0 where its operation has none. -/
def messageTagLen (m : Message) : Nat :=
  if gcmFamily m.opcode || m.opcode == 0x0208 || m.opcode == 0x0209 then tagLen m.param else 0

/-- The 32 bytes of CONTEXT_INFO; MESSAGE_BYTES counts data without AAD, notes/assumptions/46.md (DEDUCED). -/
def contextBytes (s : State) (f c : Nat) : Bytes :=
  match tblFind s.contexts c with
  | none => le 4 c ++ zeros 28
  | some x =>
    let st := if x.msg.isSome then 2 else 1
    if x.holder != f then le 4 c ++ le 1 st ++ zeros 1 ++ le 1 x.holder ++ zeros 25
    else
      let m : Message := x.msg.getD { opcode := 0 }
      le 4 c ++ le 1 st ++ le 1 x.floor ++ le 1 x.holder ++ zeros 1 ++ le 2 m.opcode ++ le 1 (messageTagLen m) ++ zeros 1 ++
      le 4 m.key ++ le 8 m.data.length ++
      le 4 (s.jobs.filter (fun b => b.context == some c && b.stage == .queued)).length ++ zeros 4

/-- CONTEXT_INFO's effect. -/
def bodyContextInfo (q : MbxReq) (s : State) : Reply :=
  withFormat q 4 [] s <|
    if 16384 ≤ fld q 0 4 then reject s eFormat 32 else accept s (contextBytes s q.fn (fld q 0 4))

/-- CONTEXT_INFO. -/
def execContextInfo (q : MbxReq) (s : State) : Out := runMbx specContextInfo bodyContextInfo q s

/-! ### TWIN_SET (R148) -/

/-- TWIN_SET (0x0230). -/
def specTwinSet : CmdSpec := { code := 0x0230, access := .q, pf := true, region := fillingAll, active := true }

/-- TWIN_SET's effect; the pair's copy follows. -/
def bodyTwinSet (q : MbxReq) (s : State) : Reply :=
  withFormat q 4 [(1, 3)] s <|
    let v := fld q 0 1
    if 1 < v then reject s eFormat 32
    else accept (startJobs ((List.range 6).foldl linkPauseCheck (share { s with twin := v == 1 } (.twin (v == 1))))) []

/-- TWIN_SET. -/
def execTwinSet (q : MbxReq) (s : State) : Out := runMbx specTwinSet bodyTwinSet q s

/-! ### CURVE_LIST (R206) -/

/-- CURVE_LIST (0x0420). -/
def specCurveList : CmdSpec := { code := 0x0420, inFreeze := fun _ => true }

/-- The IDs of Table 7-1 and of the base tables. -/
def fixedCurves : List Nat :=
  [0x0001, 0x0002, 0x0003, 0x0011, 0x0012, 0x0013, 0x0021, 0x0022, 0x0023, 0x0024, 0x0100, 0x0101, 0x0102, 0x0103, 0x0104]

/-- Every curve present, in ascending ID. -/
def allCurves (s : State) : List Nat := fixedCurves ++ tblKeys s.curves

/-- ORIGIN and TABLE_ID of a curve. -/
def curveSource (s : State) (id : Nat) : Nat × Bytes :=
  match tblFind s.curves id with
  | some c => (c.origin + 1, fit 4 c.tableId)
  | none => (0, if (baseCurve id).isSome then zeros 4 else (sha3 (Config.baseCurveTable id)).take 4)

/-- The 16 bytes of an entry (Table 7-2). -/
def curveEntry (s : State) (id : Nat) : Bytes :=
  match curveOf s id with
  | none => []
  | some c =>
    let src := curveSource s id
    le 2 id ++ le 1 c.form ++ le 1 c.cofactor ++ le 2 c.pBits ++ le 2 c.nBits ++ le 2 c.ops ++ le 2 src.1 ++ src.2

/-- CURVE_LIST's effect. -/
def bodyCurveList (q : MbxReq) (s : State) : Reply :=
  withFormat q 4 [(2, 2)] s <|
    let l := (allCurves s).filter (fun i => fld q 0 2 ≤ i)
    accept s (le 2 (l.take 200).length ++ le 2 (ofBool (200 < l.length)) ++ (l.take 200).flatMap (curveEntry s))

/-- CURVE_LIST. -/
def execCurveList (q : MbxReq) (s : State) : Out := runMbx specCurveList bodyCurveList q s

end Sys2Proof.Machine
end

