-- ==== Sys2Proof/Machine/Counters.lean ====
section
/-! DEFINITION. Monotonic counters (R299, R300, R514), the Almanac's commands and timers (R302–R307), and reading
the Ledger (R312). -/

namespace Sys2Proof.Machine

/-! ### Counters -/

/-- SHARED of a counter's ATTR. -/
def ctrShared (c : Counter) : Bool := bit c.attr 0
/-- SHEAF of a counter's ATTR. -/
def ctrSheaf (c : Counter) : Bool := bit c.attr 1

/-- ATTR bits a counter does not have (R299). -/
def ctrReserved (a : Nat) : Bool := bits a 15 2 != 0 || bits a 31 22 != 0

/-- COUNTER_READ (0x0110). -/
def specCounterRead : CmdSpec := { code := 0x0110, inFreeze := fun _ => true }

/-- COUNTER_READ (R514). A value too far ahead of the copy the Standby has acknowledged waits for an epoch (R405). -/
def bodyCounterRead (q : MbxReq) (s : State) : Reply :=
  let id := fld q 0 4
  let c := counterOf s id
  withFormat q 4 [] s <|
    if 0x80000 ≤ id then reject s eFormat 32
    else if c.allocated && !deviceCounter id && !(attrOwner c.attr == q.fn || q.fn == 0 || ctrShared c) then
      reject s eDenied 0
    else if c.damaged then reject s eParity 0
    else if beyondAcked s id (counterValue s id) then { st := s, hold := some (.epoch id (counterValue s id)) }
    else accept s (counterReply s id)

/-- COUNTER_READ. -/
def execCounterRead (q : MbxReq) (s : State) : Out := runMbx specCounterRead bodyCounterRead q s

/-- COUNTER_ADVANCE (0x0111). -/
def specCounterAdvance : CmdSpec := { code := 0x0111, active := true }

/-- COUNTER_ADVANCE (R300, R514). Where the value would run too far ahead of the copy the Standby has acknowledged,
the response waits for an epoch (R405). -/
def bodyCounterAdvance (q : MbxReq) (s : State) : Reply :=
  let id := fld q 0 4
  let step := fld q 4 4
  let c := counterOf s id
  withFormat q 8 [] s <|
    if 0x80000 ≤ id then reject s eFormat 32
    else if step == 0 then reject s eFormat 36
    else if deviceCounter id then reject s eDenied 0
    else if !c.allocated || !(attrOwner c.attr == q.fn || ctrShared c) then reject s eDenied 0
    else if c.damaged then reject s eParity 0
    else
      let v := advanced c.value step
      let s := setCounter (rememberAcked s id c.value) id { c with value := v }
      if v == counterTop then { st := s, status := eLimit, detail := id }
      else if beyondAcked s id v then { st := s, hold := some (.epoch id v) }
      else accept s (le 8 v)

/-- COUNTER_ADVANCE. -/
def execCounterAdvance (q : MbxReq) (s : State) : Out := runMbx specCounterAdvance bodyCounterAdvance q s

/-- A counter ID that COUNTER_ALLOCATE may give (R285, R299). -/
def counterFree (s : State) (id : Nat) : Bool := !(counterOf s id).allocated && !(counterOf s id).damaged

/-- COUNTER_ALLOCATE (0x0112). -/
def specCounterAllocate : CmdSpec := { code := 0x0112, active := true }

/-- The response of COUNTER_ALLOCATE. -/
def allocReply (s : State) (id : Nat) : Reply := accept s (le 4 id ++ zeros 4 ++ le 8 (counterOf s id).value)

/-- OP 1 on one ID (R299, R514). -/
def allocate (q : MbxReq) (s : State) (id attr : Nat) : Reply :=
  let c := counterOf s id
  if c.damaged then reject s eDenied 0
  else if c.allocated then
    if attrOwner c.attr == q.fn then allocReply s id else reject s eHeld (attrOwner c.attr)
  else allocReply (setCounter s id { c with allocated := true, attr }) id

/-- COUNTER_ALLOCATE (R299, R514). -/
def bodyCounterAllocate (q : MbxReq) (s : State) : Reply :=
  let op := fld q 0 1
  let id := fld q 4 4
  let attr := fld q 8 4
  withFormat q 12 [(1, 3)] s <|
    if op != 1 && op != 2 then reject s eFormat 32
    else if 0x80000 ≤ id && !(id == 0xFFFFFFFF && op == 1) then reject s eFormat 36
    else if op == 1 && ctrReserved attr then reject s eFormat 40
    else if deviceCounter id && id != 0xFFFFFFFF then reject s eDenied 0
    else if op == 2 then
      let c := counterOf s id
      if c.allocated && (attrOwner c.attr == q.fn || q.fn == 0) then
        allocReply (setCounter s id { c with allocated := false, attr := 0 }) id
      else reject s eDenied 0
    else if q.fn != 0 && attrOwner attr != q.fn then reject s eDenied 0
    else if id == 0xFFFFFFFF then
      match scanFrom (counterFree s) 0x7FF00 0 with
      | some i => allocate q s i attr
      | none => reject s eLimit 0x7FF00
    else allocate q s id attr

/-- COUNTER_ALLOCATE. -/
def execCounterAllocate (q : MbxReq) (s : State) : Out := runMbx specCounterAllocate bodyCounterAllocate q s

/-! ### Time (R302–R307) -/

/-- TIME_READ (0x0E01). -/
def specTimeRead : CmdSpec :=
  { code := 0x0E01, access := .n, inFreeze := fun _ => true, inPurge := true, inRecovery := true }

/-- TIME_READ (Table 10-9). -/
def bodyTimeRead (q : MbxReq) (s : State) : Reply :=
  let a := s.almanac
  withFormat q 0 [] s <|
    accept s (le 8 s.now ++ leInt 8 a.offset ++ le 2 a.leap ++
      le 2 (pack [(ofBool a.offsetSet, 0, 1), (ofBool a.timeLost, 1, 1), (ofBool a.lowRate, 2, 1)]) ++ zeros 4 ++
      le 8 ((nowUtc s).getD 0) ++ le 8 s.ident.serial)

/-- TIME_READ. -/
def execTimeRead (q : MbxReq) (s : State) : Out := runMbx specTimeRead bodyTimeRead q s

/-- TIME_SET (0x0E02). -/
def specTimeSet : CmdSpec := { code := 0x0E02, pf := true }

/-- The Almanac after an accepted time statement (R305). -/
def timeStatement (s : State) (ref tai leap : Nat) : Almanac :=
  let m := (ref + s.now) / 2
  { s.almanac with offset := (tai : Int) - m, leap, offsetSet := true, timeLost := false, lastRef := ref,
                   refSet := true, uncertainty := ceilDiv (s.now - ref) 2, setTick := s.now, pllUs := 0, crystalUs := 0,
                   store := s.now }

/-- The change in NOW an accepted statement makes; 0 at a first setting (Table 10-9). -/
def timeStep (s : State) (a : Almanac) : Int :=
  if s.almanac.offsetSet then utcAt a s.now - utcAt s.almanac s.now else 0

/-- The bytes a time statement's signature covers (R305). -/
def timeMessage (s : State) (payload : Bytes) : Bytes := ascii "OPM-TIME" ++ le 8 s.ident.serial ++ payload.take 24

/-- TIME_SET in the order of R305. -/
def bodyTimeSet (q : MbxReq) (s : State) : Reply :=
  let ref := fld q 0 8
  let leap := fld q 16 2
  withFormat q 120 [(20, 4)] s <|
    match ownKey s s.almanac.timeKey with
    | none => reject s eKeyAbsent 0
    | some k =>
      if !bit k.attr aVerify then reject s eDenied 0
      else if leap < 10 || 100 < leap then reject s eFormat 48
      else if fld q 18 2 != 0 then reject s eFormat 50
      else if !(ref ≤ s.now && s.now < ref + 10000000) || (s.almanac.refSet && ref ≤ s.almanac.lastRef) then
        reject s eTooLate 0
      else if !verifyP384 k.material (timeMessage s q.payload) (slice q.payload 24 96) then reject s eAuth 0
      else
        let a := timeStatement s ref (fld q 8 8) leap
        let d := timeStep s a
        let reply := leInt 8 a.offset ++ le 4 a.uncertainty ++ zeros 4 ++ leInt 8 d
        let ok := fun (s : State) => accept (share { s with almanac := a } (.time (timeCopy a))) reply
        if s.almanac.offsetSet && (300000000 < d || d < -300000000) then
          match coveringApproval s 0x0E02 q with
          | none => reject s eGuarded 0
          | some ap => ok (consumeApproval s ap)
        else ok s

/-- TIME_SET. -/
def execTimeSet (q : MbxReq) (s : State) : Out := runMbx specTimeSet bodyTimeSet q s

/-- TIME_KEY_SET (0x0E03). -/
def specTimeKeySet : CmdSpec := { code := 0x0E03, access := .q, pf := true, region := fillingAll, active := true }

/-- TIME_KEY_SET (R306): a public-class P-384 key with VERIFY. -/
def bodyTimeKeySet (q : MbxReq) (s : State) : Reply :=
  let h := fld q 0 4
  withFormat q 4 [] s <|
    if wrongIndex false h then reject s eFormat 32
    else if hClass h != clsPublic then reject s eDenied 0
    else match keyAt s h with
    | .error (st, d) => reject s st d
    | .ok k =>
      if k.type == 0x11 && k.set == 2 && bit k.attr aVerify then
        accept { s with almanac := { s.almanac with timeKey := h } } []
      else reject s eDenied 0

/-- TIME_KEY_SET. -/
def execTimeKeySet (q : MbxReq) (s : State) : Out := runMbx specTimeKeySet bodyTimeKeySet q s

/-- ERROR_US (R307). -/
def errorUs (a : Almanac) : Nat :=
  if !a.offsetSet || a.timeLost then 2 ^ 64 - 1
  else a.uncertainty + ceilDiv (100 * a.pllUs + 30 * a.crystalUs) 1000000

/-- DRIFT_READ (0x0E04). -/
def specDriftRead : CmdSpec := { code := 0x0E04, inFreeze := fun _ => true }

/-- DRIFT_READ (R307). -/
def bodyDriftRead (q : MbxReq) (s : State) : Reply :=
  let a := s.almanac
  withFormat q 0 [] s <|
    accept s (leInt 4 a.crystalPpb ++ le 4 a.uncertainty ++ le 8 a.setTick ++ le 8 a.pllUs ++ le 8 a.crystalUs ++
      le 8 (errorUs a))

/-- DRIFT_READ. -/
def execDriftRead (q : MbxReq) (s : State) : Out := runMbx specDriftRead bodyDriftRead q s

/-- The PLLs run: in Active, outside the holdover that the loss of ETHREF0 brings (R302, R458). -/
def pllsRun (s : State) : Bool := s.power.state == .active && !s.almanac.lowRate

/-- The once-per-second store of the tick, while the PLLs run (R303). Nothing is stored in Blank and Test (R302), nor in End of
life (Table 13-2). -/
def execAlmanacStore (s : State) : Out :=
  done s (if pllsRun s && s.life.lifecycle == lcProduction then { s with almanac := { s.almanac with store := s.now } } else s)

/-- The running mean of the crystal's ratio takes in one more measurement (R307): the mean of all of them since the Almanac
started, notes/assumptions/70.md (DESIGN CHOICE). -/
def measureCrystal (a : Almanac) (ppb : Int) : Almanac :=
  let sum := a.crystalSum + ppb
  let n := a.crystalCount + 1
  { a with crystalSum := sum, crystalCount := n, crystalPpb := sum / n }

/-- Another second on the PLL: the crystal is measured against it (R307). -/
def execCrystalCalibration (ppb : Int) (s : State) : Out :=
  done s (if pllsRun s then { s with almanac := measureCrystal s.almanac ppb } else s)

/-! ### The Ledger's commands (R312) -/

/-- LEDGER_READ (0x0C06). -/
def specLedgerRead : CmdSpec :=
  { code := 0x0C06, pf := true, inFreeze := fun _ => true, inPurge := true, inRecovery := true }

/-- LEDGER_READ: up to 31 entries from FIRST_SEQ upward (R312). -/
def bodyLedgerRead (q : MbxReq) (s : State) : Reply :=
  withFormat q 8 [] s <|
    let es := s.ledger.entries.filter (fun e => fld q 0 8 ≤ e.seq)
    let out := es.take 31
    accept s (le 2 out.length ++ le 2 (if 31 < es.length then 1 else 0) ++ zeros 4 ++ out.flatMap (ledgerRead s.ledger))

/-- LEDGER_READ. -/
def execLedgerRead (q : MbxReq) (s : State) : Out := runMbx specLedgerRead bodyLedgerRead q s

/-- LEDGER_HEAD (0x0C07). -/
def specLedgerHead : CmdSpec := { code := 0x0C07, inFreeze := fun _ => true, inPurge := true }

/-- LEDGER_HEAD: the head, signed with the seal ECDSA key (R312), which needs SIGN (R289). -/
def bodyLedgerHead (q : MbxReq) (s : State) : Reply :=
  withFormat q 32 [] s <|
    let oldest := match s.ledger.entries with
      | [] => 0
      | e :: _ => e.seq
    let b := le 8 s.ledger.seq ++ le 8 oldest ++ fit 32 (ledgerHead s.ledger) ++ le 8 s.ident.serial ++ le 8 s.now ++
      fit 32 q.payload
    match namedSealKey s with
    | none => accept s (b ++ le 2 0 ++ zeros 6 ++ zeros 96)
    | some k =>
      let b := b ++ le 2 1 ++ zeros 6
      if !bit k.attr aSign then reject s eDenied 0
      else accept (draw s) (b ++ signP384 s k.material (ascii "OPM-LEDGER" ++ b))

/-- LEDGER_HEAD. -/
def execLedgerHead (q : MbxReq) (s : State) : Out := runMbx specLedgerHead bodyLedgerHead q s

end Sys2Proof.Machine
end

