-- ==== Sys2Proof/Machine/KeyCmds.lean ====
section
/-! DEFINITION. The key commands (R292–R298) and the commit of a slot write. -/

namespace Sys2Proof.Machine

/-- The command's HANDLE, payload bytes 0–3. -/
def qHandle (q : MbxReq) : Nat := fld q 0 4

/-- The command names a custody-class handle: it is guarded, and may run in Freeze (Table 11-4, Table 12-5). -/
def namesCustody (q : MbxReq) : Bool := hClass (qHandle q) == clsCustody

/-- The zero-fill under way covers the slot the command writes (R348). -/
def fillingKey (q : MbxReq) (s : State) : Bool :=
  s.scarecrow.zerofill == 5 || (s.scarecrow.zerofill == 4 && namesCustody q)

/-- On an N part a lattice type is E_STATE (R5, R288). -/
def latticeRefused (t : Nat) (s : State) : Option Nat :=
  if s.ident.optionN && latticeType t then some (deviceStatus s) else none

/-! ### KEY_GENERATE -/

/-- KEY_GENERATE (0x0101). -/
def specKeyGenerate : CmdSpec :=
  { code := 0x0101, deferred := true, inFreeze := namesCustody, region := fillingKey, active := true,
    guard := fun q _ => namesCustody q, modes := fun q s => latticeRefused (fld q 4 1) s }

/-- The types KEY_GENERATE makes, with the public ones it turns away (R294). -/
def keyType (t : Nat) : Bool := symType t || (0x10 ≤ t && t ≤ 0x17)

/-- The fields of a key write that R294 turns away, by offset: HANDLE, TYPE, SET, ATTR. -/
def badKeyFields (q : MbxReq) (s : State) : List (Bool × Nat) :=
  let t := fld q 4 1
  let h := qHandle q
  [(if keyType t then badWriteHandle h t else badIndex (hIndex h) && hIndex h != 0xFFFFF, 32), (!keyType t, 36),
   ((keyLen s t (fld q 6 2)).isNone, 38), (attrReserved (fld q 8 4) || (namesCustody q && bit (fld q 8 4) aExportable), 40)]

/-- Step 10: lengths, reserved bytes, TYPE, SET, ATTR and the handle's range; then class, generation and slot, which the response
reports, notes/assumptions/53.md (DEDUCED). -/
def bodyKeyGenerate (q : MbxReq) (s : State) : Reply :=
  let t := fld q 4 1
  let attr := fld q 8 4
  withFormat q 16 [(5, 1), (12, 4)] s <|
    match firstField (badKeyFields q s) with
    | some d => reject s eFormat d
    | none =>
    awaitSlot s (hIndex (qHandle q)) <|
      if publicType t || !(typeClasses t).contains (hClass (qHandle q)) then reject s eDenied 0
      else match writeTarget s q.fn (qHandle q) t attr with
      | .error (st, d) => reject s st d
      | .ok _ => accept s []

/-- KEY_GENERATE (R292–R294): the operation starts; it ends at DEFERRED_OP_END, where the slot is judged again. -/
def execKeyGenerate (q : MbxReq) (s : State) : Out := runMbx specKeyGenerate bodyKeyGenerate q s

/-- A stone has made the key pair of an operation, and the key port of its group is in service to take it to its slot (R201);
a symmetric key needs none. -/
def pairMade (s : State) (f : Nat) (o : DefOp) : Bool :=
  symType (rd o.payload 4 1) ||
  (ownRuns s (.keyPair f o.no) &&
    (ownJobs s (.keyPair f o.no)).all (fun b => b.stone.toList.all (fun n => !s.groupFences.contains (groupOf n))))

/-- The work of KEY_GENERATE is done: a key drawn from the random bit generator goes to its slot, which is fenced until the write
commits, and the operation ends with the commit; or why not (R152, R293, R294). While the slot's earlier write has not committed,
the operation waits (R293). -/
def endKeyGenerate (s : State) (f : Nat) (o : DefOp) : State :=
  let h := rd o.payload 0 4
  let t := rd o.payload 4 1
  let set := rd o.payload 6 2
  let attr := rd o.payload 8 4
  if s.writes.any (fun w => w.fn == f && w.op == some o.no) || fenced s (hIndex h) then s
  else if publicType t || !(typeClasses t).contains (hClass h) then endOp s f o eDenied 0 []
  else match writeTarget s f h t attr with
  | .error (st, d) => endOp s f o st d []
  | .ok i =>
    if !pairMade s f o then s
    else
      let m := fit ((keyLen s t set).getD 0) (Config.keyGen t set s.rng)
      let w : SlotWrite := { index := i, content := some { cls := hClass h, type := t, set, attr, material := m }, newGen := true
                             fn := f, code := 0x0101, tag := o.tag, payload := o.payload, purgeClass := hClass h, op := some o.no
                             reply := le 4 (handle (hClass h) (nextGen (genOf s i)) i) ++ zeros 12 }
      let s := ownEnds (draw s) (.keyPair f o.no)
      { s with writes := s.writes ++ [w] }

/-! ### KEY_IMPORT -/

/-- KEY_IMPORT (0x0102). -/
def specKeyImport : CmdSpec :=
  { code := 0x0102, region := fillingKey, active := true, modes := fun q s => latticeRefused (fld q 4 1) s }

/-- Steps 10 and 11 of KEY_IMPORT (R293, R294). -/
def bodyKeyImport (q : MbxReq) (s : State) : Reply :=
  let t := fld q 4 1
  let set := fld q 6 2
  let attr := fld q 8 4
  let m := q.payload.drop 16
  let h := qHandle q
  withFormat q (16 + fld q 12 2) [(5, 1), (14, 2)] s <|
    match firstField (badKeyFields q s ++ [(keyLen s t set != some m.length, 44)]) with
    | some d => reject s eFormat d
    | none =>
    awaitSlot s (hIndex h) <|
      if !(hClass h == clsGeneral || hClass h == clsPublic) || !(typeClasses t).contains (hClass h) then
        reject s eDenied 0
      else match writeTarget s q.fn h t attr with
      | .error (st, d) => reject s st d
      | .ok i =>
        if !materialOk s t set m then reject s ePkReject 0
        else
          beginWrite s q 0x0102 i (hClass h) (some { cls := hClass h, type := t, set, attr, material := m }) true
            (le 4 (handle (hClass h) (nextGen (genOf s i)) i))

/-- KEY_IMPORT. -/
def execKeyImport (q : MbxReq) (s : State) : Out := runMbx specKeyImport bodyKeyImport q s

/-! ### Wrapped keys (R295, R296) -/

/-- The key-encryption key of METHODS 2 and 3. -/
def kekOf (secret enc : Bytes) : Bytes := shake256 32 (ascii "OPM-WRAP" ++ secret ++ enc)

/-- Length of an ML-KEM ciphertext (Table 7-4). -/
def kemCtLen (set : Nat) : Nat := match set with | 512 => 768 | 768 => 1088 | _ => 1568

/-- WRAPPER_KID (Table 10-6): METHOD 1 from the wrapper's cipher, else from its public key. -/
def wrapperKid (s : State) (method : Nat) (k : KeySlot) : Bytes :=
  if method == 1 then (fit 16 (Config.ecb true k.material (zeros 16))).take 8
  else (sha3 ((publicOf s k).getD [])).take 8

/-- The wrapper fits METHOD for export: a custody AES-256 key, or a public ML-KEM or P-384 key (R296). -/
def fitsExport (method : Nat) (k : KeySlot) : Bool :=
  match method with
  | 1 => k.cls == clsCustody && k.type == 0x01 && k.set == 256
  | 2 => k.cls == clsPublic && k.type == 0x17
  | 3 => k.cls == clsPublic && k.type == 0x11 && k.set == 0x0002
  | _ => false

/-- The wrapper fits METHOD for import: of custody class (R296). -/
def fitsImport (method : Nat) (k : KeySlot) : Bool :=
  k.cls == clsCustody &&
  match method with
  | 1 => k.type == 0x01 && k.set == 256
  | 2 => k.type == 0x16
  | 3 => k.type == 0x10 && k.set == 0x0002
  | _ => false

/-- ENC and the key-encryption key of an export; the ephemeral key or the encapsulation is drawn (R295). -/
def exportKek (s : State) (method : Nat) (w : KeySlot) : Bytes × Bytes :=
  match method with
  | 1 => ([], w.material)
  | 2 =>
    let c := Config.encaps (le 2 w.set) w.material s.rng
    let enc := fit (kemCtLen w.set) c.1
    (enc, kekOf (fit 32 c.2) enc)
  | _ =>
    let e := fit 48 (Config.keyGen 0x10 2 s.rng)
    let enc := fit 97 (Config.publicHalf 0x10 2 e)
    (enc, kekOf (fit 48 ((Config.agree 0x0405 (le 2 2) e w.material).getD [])) enc)

/-- Length of WRAPPED for a key of `n` bytes (R295). -/
def wrappedLen (n : Nat) : Nat := 8 * ceilDiv (16 + n) 8 + 8

/-- The blob of Table 10-6. -/
def blobOf (s : State) (method : Nat) (k w : KeySlot) : Bytes :=
  let (enc, kek) := exportKek s method w
  let n := k.material.length
  let hdr := le 1 1 ++ le 1 method ++ le 1 k.type ++ le 1 k.cls ++ le 2 k.set ++ le 2 n ++ le 4 k.attr ++ zeros 4
  let wrapped := fit (wrappedLen n) (Config.kwpWrap kek (hdr ++ k.material))
  hdr ++ fit 8 (wrapperKid s method w) ++ le 2 enc.length ++ le 2 wrapped.length ++ zeros 4 ++ enc ++ wrapped

/-- A wrap runs on a custody-class core of a floor with the inverse check of R147: where the check fails nothing is released, the
command answers E_TWIN with the floor, and the core is withdrawn (R149, R296). Whether it fails, and on which floor, are FREE VALUES,
notes/assumptions/30.md. -/
def onCustodyCore (q : MbxReq) (s : State) (k : State → Reply) : Reply :=
  if Config.inverseFails s.rng then
    let f := ofLe (randomBytes s 1) % 6
    reject (twinMismatch (draw s) f [] false q.tag) eTwin f
  else k (draw s)

/-- KEY_EXPORT_WRAPPED (0x0104). -/
def specKeyExportWrapped : CmdSpec :=
  { code := 0x0104
    modes := fun q s => if s.ident.optionN && fld q 8 1 == 2 then some (deviceStatus s) else none }

/-- Steps 10 and 11 of KEY_EXPORT_WRAPPED (R290, R296). -/
def bodyKeyExportWrapped (q : MbxReq) (s : State) : Reply :=
  let h := qHandle q
  let w := fld q 4 4
  let method := fld q 8 1
  withFormat q 12 [(9, 3)] s <|
    let known := method != 0 && method ≤ 3
    match firstField [(badIndex (hIndex h), 32), (if known then wrongIndex (method == 1) w else badIndex (hIndex w), 36),
        (!known, 40)] with
    | some d => reject s eFormat d
    | none =>
    if strandIndex (hIndex h) || strandIndex (hIndex w) then reject s eDenied 0
    else awaitSlot s (hIndex h) <| awaitSlot s (hIndex w) <|
      match keyAt s h with
      | .error (st, d) => reject s st d
      | .ok k =>
        match keyAt s w with
        | .error (st, d) => reject s st d
        | .ok wk =>
          if !mayManage k q.fn || !mayUse wk q.fn then reject s eDenied 0
          else if !(k.cls == clsGeneral || k.cls == clsEvidence) || !bit k.attr aExportable then reject s eDenied 0
          else if !bit wk.attr aWrap || !fitsExport method wk then reject s eDenied 0
          else if k.damaged || wk.damaged then reject s eParity 0
          else onCustodyCore q s fun s => accept (draw s) (blobOf s method k wk)

/-- KEY_EXPORT_WRAPPED. -/
def execKeyExportWrapped (q : MbxReq) (s : State) : Out := runMbx specKeyExportWrapped bodyKeyExportWrapped q s

/-- KEY_IMPORT_WRAPPED (0x0103). -/
def specKeyImportWrapped : CmdSpec :=
  { code := 0x0103, region := fillingKey, active := true, guard := fun q _ => namesCustody q
    modes := fun q s =>
      if s.ident.optionN && (fld q 13 1 == 2 || latticeType (fld q 14 1)) then some (deviceStatus s) else none }

/-- The key-encryption key of an import; `none` where the peer value is rejected. -/
def importKek (method : Nat) (w : KeySlot) (enc : Bytes) : Option Bytes :=
  match method with
  | 1 => some w.material
  | 2 => some (kekOf (fit 32 (Config.decaps (le 2 w.set) w.material enc)) enc)
  | _ => (Config.agree 0x0405 (le 2 2) w.material enc).map (fun z => kekOf (fit 48 z) enc)

/-- The length ENC must have. -/
def encLen (method set : Nat) : Nat := match method with | 1 => 0 | 2 => kemCtLen set | _ => 97

/-- A length that ENC may have under the method: the wrapper decides among those of method 2 (Table 10-6). -/
def encLens (method n : Nat) : Bool :=
  if method == 2 then [kemCtLen 512, kemCtLen 768, kemCtLen 1024].contains n else n == encLen method 0

/-- Steps 10 and 11 of KEY_IMPORT_WRAPPED (R293, R295, R296). The blob begins at payload byte 12. -/
def bodyKeyImportWrapped (q : MbxReq) (s : State) : Reply :=
  let h := qHandle q
  let w := fld q 4 4
  let b := q.payload.drop 12
  let method := rd b 1 1
  let t := rd b 2 1
  let cls := rd b 3 1
  let set := rd b 4 2
  let n := rd b 6 2
  let attr := rd b 8 4
  let encN := rd b 24 2
  let wrapN := rd b 26 2
  withFormat q (12 + fld q 8 2) [(10, 2), (24, 4), (40, 4)] s <|
    let typed := keyType t && !publicType t
    let known := method != 0 && method ≤ 3
    match firstField [(if typed then badWriteHandle h t else badIndex (hIndex h) && hIndex h != 0xFFFFF, 32),
        (if known then wrongIndex (method == 1) w else badIndex (hIndex w), 36), (b.length != 32 + encN + wrapN, 40),
        (rd b 0 1 != 1, 44), (!known, 45), (!typed, 46), (2 < cls, 47),
        ((keyLen s t set).isNone, 48), (keyLen s t set != some n, 50),
        (attrReserved attr || (cls == clsCustody && bit attr aExportable), 52), (!encLens method encN, 68),
        (wrapN != wrappedLen n, 70)] with
    | some d => reject s eFormat d
    | none =>
    if strandIndex (hIndex w) then reject s eDenied 0
    else awaitSlot s (hIndex h) <| awaitSlot s (hIndex w) <|
      match keyAt s w with
      | .error (st, d) => reject s st d
      | .ok wk =>
        if !mayUse wk q.fn || !bit wk.attr aUnwrap || !fitsImport method wk || cls != hClass h then reject s eDenied 0
        else if !(typeClasses t).contains cls then reject s eDenied 0
        else if wk.damaged then reject s eParity 0
        else if encN != encLen method wk.set then reject s eFormat 68
        else
          let attr := attr % 2 ^ 16 + q.fn * 2 ^ 16
          match writeTarget s q.fn h t attr with
          | .error (st, d) => reject s st d
          | .ok i =>
            if slice b 16 8 != fit 8 (wrapperKid s method wk) then reject s eAuth 0
            else onCustodyCore q s fun s =>
              let plain := (importKek method wk (slice b 32 encN)).bind
                (fun kek => Config.kwpUnwrap kek (slice b (32 + encN) wrapN))
              match plain with
              | none => reject s eAuth 0
              | some p =>
                if p.take 16 != b.take 16 || p.length != 16 + n then reject s eAuth 0
                else
                  beginWrite s q 0x0103 i cls (some { cls, type := t, set, attr, material := p.drop 16 }) true
                    (le 4 (handle cls (nextGen (genOf s i)) i))

/-- KEY_IMPORT_WRAPPED. -/
def execKeyImportWrapped (q : MbxReq) (s : State) : Out := runMbx specKeyImportWrapped bodyKeyImportWrapped q s

/-! ### KEY_DESTROY, KEY_INFO, KEY_SET_ATTR, KEY_PUBLIC_READ -/

/-- The handle's range, the strand-reserved slots and the fence, then `k` (R102, R287, R293). -/
def onSlot (q : MbxReq) (s : State) (k : Reply) : Reply :=
  let h := qHandle q
  if badIndex (hIndex h) then reject s eFormat 32
  else if strandIndex (hIndex h) then reject s eDenied 0
  else awaitSlot s (hIndex h) k

/-- The key the handle names when `may` admits the client, checked in that order (R290, R298). -/
def namedKey (q : MbxReq) (s : State) (may : KeySlot → Bool) (k : KeySlot → Reply) : Reply :=
  match tblFind s.keys (hIndex (qHandle q)) with
  | none => reject s eKeyAbsent 0
  | some slot =>
    if !may slot then reject s eDenied 0
    else match keyAt s (qHandle q) with
    | .error (st, d) => reject s st d
    | .ok slot => k slot

/-- KEY_DESTROY (0x0105). -/
def specKeyDestroy : CmdSpec :=
  { code := 0x0105, inFreeze := namesCustody, region := fillingKey, active := true, guard := fun q _ => namesCustody q }

/-- KEY_DESTROY (R298). -/
def bodyKeyDestroy (q : MbxReq) (s : State) : Reply :=
  withFormat q 4 [] s <| onSlot q s <| namedKey q s (fun k => mayManage k q.fn) <| fun k =>
    beginWrite s q 0x0105 (hIndex (qHandle q)) k.cls none false []

/-- KEY_DESTROY. -/
def execKeyDestroy (q : MbxReq) (s : State) : Out := runMbx specKeyDestroy bodyKeyDestroy q s

/-- KEY_SET_ATTR (0x0107). -/
def specKeySetAttr : CmdSpec :=
  { code := 0x0107, region := fillingKey, active := true, guard := fun q _ => namesCustody q }

/-- The attribute change R297 forbids: a bit set that may only be cleared, or OWNER changed by a client that is not
the PF. -/
def attrForbidden (old new c : Nat) : Bool :=
  [0, 1, 2, 3, 4, 5, 6, 7, 9].any (fun b => bit new b && !bit old b) || (attrOwner new != attrOwner old && c != 0)

/-- KEY_SET_ATTR (R297). -/
def bodyKeySetAttr (q : MbxReq) (s : State) : Reply :=
  withFormat q 8 [] s <|
    if badIndex (hIndex (qHandle q)) then reject s eFormat 32
    else if attrReserved (fld q 4 4) then reject s eFormat 36
    else onSlot q s <| namedKey q s (fun k => mayManage k q.fn) <| fun k =>
      if attrForbidden k.attr (fld q 4 4) q.fn then reject s eDenied 0
      else beginWrite s q 0x0107 (hIndex (qHandle q)) k.cls (some { k with attr := fld q 4 4 }) false []

/-- KEY_SET_ATTR. -/
def execKeySetAttr (q : MbxReq) (s : State) : Out := runMbx specKeySetAttr bodyKeySetAttr q s

/-- KEY_INFO (0x0106). -/
def specKeyInfo : CmdSpec := { code := 0x0106, inFreeze := fun _ => true }

/-- KEY_INFO STATE (Table 10-5). -/
def slotState (s : State) (i : Nat) : Nat :=
  match tblFind s.keys i with
  | none => if worn s i then 4 else 0
  | some k => if k.damaged then 3 else if retired k then 2 else 1

/-- The KEY_INFO response of slot `i`. -/
def keyInfoBytes (s : State) (i : Nat) : Bytes :=
  match tblFind s.keys i with
  | none =>
    le 4 (handle 0 (genOf s i) i) ++ le 1 0 ++ le 1 (slotState s i) ++ zeros 2 ++ zeros 4 ++ zeros 4 ++ zeros 8 ++
      le 8 (advancesOf s i)
  | some k =>
    le 4 (handle k.cls (genOf s i) i) ++ le 1 k.type ++ le 1 (slotState s i) ++ le 2 k.set ++ le 4 k.attr ++ zeros 4 ++
      le 8 k.invocation ++ le 8 (advancesOf s i)

/-- KEY_INFO (R290): open to the OWNER, the PF, and every client on a shared or empty slot. -/
def bodyKeyInfo (q : MbxReq) (s : State) : Reply :=
  let i := hIndex (qHandle q)
  withFormat q 4 [] s <| onSlot q s <|
    match tblFind s.keys i with
    | some k =>
      if !(mayManage k q.fn || bit k.attr aShared) then reject s eDenied 0 else accept s (keyInfoBytes s i)
    | none => accept s (keyInfoBytes s i)

/-- KEY_INFO. -/
def execKeyInfo (q : MbxReq) (s : State) : Out := runMbx specKeyInfo bodyKeyInfo q s

/-- KEY_PUBLIC_READ (0x0108). -/
def specKeyPublicRead : CmdSpec := { code := 0x0108, inFreeze := fun _ => true }

/-- KEY_PUBLIC_READ (R290). -/
def bodyKeyPublicRead (q : MbxReq) (s : State) : Reply :=
  withFormat q 4 [] s <| onSlot q s <| namedKey q s (fun k => mayManage k q.fn || bit k.attr aShared) <| fun k =>
    if k.damaged then reject s eParity 0
    else match publicOf s k with
    | none => reject s eDenied 0
    | some p => accept s (le 2 p.length ++ zeros 2 ++ p)

/-- KEY_PUBLIC_READ. -/
def execKeyPublicRead (q : MbxReq) (s : State) : Out := runMbx specKeyPublicRead bodyKeyPublicRead q s

/-! ### The commit (R152, R293) -/

/-- The key commands that wait for a slot, checked again against the slot as committed (R293). -/
def retryBody (code : Nat) (q : MbxReq) (s : State) : Reply :=
  match code with
  | 0x0101 => bodyKeyGenerate q s
  | 0x0102 => bodyKeyImport q s
  | 0x0103 => bodyKeyImportWrapped q s
  | 0x0104 => bodyKeyExportWrapped q s
  | 0x0105 => bodyKeyDestroy q s
  | 0x0106 => bodyKeyInfo q s
  | 0x0107 => bodyKeySetAttr q s
  | _ => bodyKeyPublicRead q s

/-- Run again a command of function `f` that waited for slot `i`. -/
def retryHeld (i : Nat) (s : State) (f : Nat) : State :=
  match (fnOf s f).held with
  | some h =>
    if h.why == .retry i then
      let q : MbxReq := { fn := f, tag := h.tag, len := h.payload.length, payload := h.payload, session := h.session }
      settleReply { code := h.code, deferred := h.code == 0x0101 } q (retryBody h.code q s)
    else s
  | none => s

/-- The functions whose commands are held, in the order in which the Steward took the commands (R293). -/
def heldOrder (s : State) : List Nat :=
  let turnOf := fun f => ((fnOf s f).held.map (·.turn)).getD 0
  let put := fun (l : List Nat) f => l.takeWhile (fun g => turnOf g ≤ turnOf f) ++ f :: l.dropWhile (fun g => turnOf g ≤ turnOf f)
  (s.fns.map (·.1)).foldl put []

/-- A slot's write commits: slot and wear table take the new content, the command answers, and the commands that
waited for the slot are checked against it in their order (R152, R293). Without a write under way nothing happens. -/
def execKeySlotCommit (index : Nat) (s : State) : Out :=
  done s (match s.writes.find? (fun w => w.index == index) with
    | none => s
    | some w =>
      let s := { s with writes := s.writes.filter (fun v => v.index != index) }
      let s := endWrite (applyWrite s w) w sOk 0 w.reply
      let s := (heldOrder s).foldl (retryHeld index) s
      startJobs (advanceOn s index))

end Sys2Proof.Machine
end

