-- ==== Sys2Proof/Machine/Engines.lean ====
section
/-! DEFINITION. How the engines serve jobs (chapters 05–07): completions (R53, R59), slices and queues (R172, R224), stones
with their full-operation times, release checks, wipes and power (R213–R226, R26). -/

namespace Sys2Proof.Machine

/-- A parity error: PARITY is reported with a VALUE that the spec leaves open. FREE VALUE, notes/assumptions/33.md. -/
def reportParity (s : State) : State := report (draw s) 0x17 (Config.free 0x0017 s.rng)

/-! ### JOB_COMPLETE (R53, R54, R59, R149, R194) -/

/-- A Hand has verified a document: its verdict is to be signed (R251, R252). -/
def offlineDone (s : State) (b : Job) : State :=
  let d := offlineDocument s b
  let s := setJob s { b with stage := .checking }
  startVerdict s d none b.req.desc.tag (fun v => { v with job := some b.id }) false (fun s e => failJob s b e.1 e.2)

/-- What the Hand that serves the request asks of the engines is known and done (R193, R224). -/
def askedDone (s : State) (b : Job) : Bool :=
  b.asks.any (fun l => (List.range l.length).all (fun k => ownReady s (.document b.id k)))

/-- The two datapaths of the Flail core that runs the job disagree: it is withdrawn (R194). Cores 16–31 are the SHA-2 cores. -/
def flailMismatch (s : State) (b : Job) : State :=
  match b.core with
  | some c => withdraw (report s 0x19 (c % 16)) (.flail c) 0x19
  | none => s

/-- A lockstep mismatch in the Hand that serves the job: the Hand is withdrawn, and all its work ends with E_FAULT (R22, R479). -/
def handMismatch (s : State) (b : Job) : State :=
  match b.hand with
  | some h => withdraw (report (faultHand s h) 0x15 h) (.hand h) 0x15
  | none => s

/-- A job ends with a status; work of the device's own is done again or ends what asked for it. -/
def spoil (s : State) (b : Job) (status detail : Nat) : State :=
  if b.own.isSome then workFails s b status else failJob s b status detail

/-- A fault of the engine: of a Flail core or a Hand. The other engines have no such end here. -/
def engineFault (s : State) (b : Job) : State :=
  match b.engine with
  | .flail => spoil (flailMismatch s b) b eFault 0
  | .hand => handMismatch s b
  | _ => s

/-- A twin or inverse mismatch of a Thresher job (R149). -/
def twinFault (s : State) (b : Job) : State :=
  if b.engine == .thresher && b.twinned then
    failJob (twinMismatch s b.floor b.cores (!b.custody) b.req.desc.tag) b eTwin b.floor
  else s

/-- A job ends well: what it computed goes out; a verified document, once what the Hand asked of the engines is done, goes to be
signed; a digest that a Hand asked for is made. -/
def endsWell (s : State) (b : Job) : State :=
  if b.own.isSome then setJob s { b with stage := .finished, onCore := false, core := none }
  else match b.engine with
  | .mill => endJob s b b.status b.detail false b.out b.inline
  | .hand => if askedDone s b then offlineDone s b else s
  | _ => completeJob s b

/-- The read of the slot whose key a job loads has failed in its check: the slot is damaged, and the job ends with E_PARITY (R285). -/
def keyFails (s : State) (b : Job) : State :=
  if b.stage == .running && usesSlot b then cutJob (damageSlot s (hIndex b.req.desc.key)) b eParity 0 else s

/-- The engine, or the host interface for a Mill result, has finished with a job. -/
def engineEnds (s : State) (b : Job) (o : JobOutcome) : State :=
  let ready : Bool := match b.engine with
    | .mill => b.stage == .finished && b.own.isNone
    | .hand => b.stage == .running && !b.hand.any (handHalted s)
    | _ => b.stage == .running && b.onCore
  if o == .keyParity then keyFails s b
  else if !ready then s
  else match o with
    | .good => endsWell s b
    | .twin => twinFault s b
    | .parity => spoil (reportParity s) b eParity 0
    | .keyParity => s
    | .fault => engineFault s b
    | .dma off => if b.own.isSome then s else failJob s b eDma off

/-- JOB_COMPLETE. -/
def execJobComplete (job : Nat) (outcome : JobOutcome) (s : State) : Out :=
  done s (match jobOf s job with
    | some b => if powered s then startJobs (engineEnds s b outcome) else s
    | none => s)

/-! ### Slices and age (R172, R193, R224) -/

/-- A job of the Thresher or the Flail. -/
def winnowed (b : Job) : Bool := b.engine == .thresher || b.engine == .flail

/-- A slice of at most 64 KiB ends: the core is free, and the entry returns to the tail of its own priority's queue. -/
def execWinnowSliceEnd (job : Nat) (bytes : Nat) (s : State) : Out :=
  done s (match jobOf s job with
    | some b =>
      if powered s && winnowed b && b.stage == .running && b.onCore then
        startJobs (toTail s { b with rest := b.rest - min bytes 65536, onCore := false, core := none, cores := [] } b.priority)
      else s
    | none => s)

/-- An entry has waited 100 µs in a queue: it moves to the tail of the next higher one (R172, R224). A job that waits behind an earlier
one of its context is no entry of its own. -/
def promote (s : State) (b : Job) : State :=
  if b.queue < 3 then startJobs (toTail (advanceTo s (b.since + 100)) b (b.queue + 1)) else s

/-- WINNOW_AGE_PROMOTION. -/
def execWinnowAgePromotion (job : Nat) (s : State) : Out :=
  done s (match jobOf s job with
    | some b =>
      if powered s && winnowed b && !heldByContext s b && (b.stage == .queued || (b.stage == .running && !b.onCore)) then promote s b
      else s
    | none => s)

/-- MILL_AGE_PROMOTION. -/
def execMillAgePromotion (job : Nat) (s : State) : Out :=
  done s (match jobOf s job with
    | some b => if powered s && millQueued b then promote s b else s
    | none => s)

/-! ### Stones (R213–R223) -/

/-- A stone has computed its job, and is free: where a second stone checks the result, the job waits for it, also a rejected one,
which is handed over at the same instant as any other (R215, R219, R227); else the result goes to the host interface, or to the
Hand or the Steward that asked for it. A key pair stays in its stone until its operation ends. -/
def stoneComputes (s : State) (b : Job) : State :=
  let s := reachTime s b
  if keyPairWork b then s
  else
    let r := millResult s b.opcode (dParam b.req.desc) b.key (srcData b.req)
    let r := if b.own.isSome then (sOk, [], []) else r
    let b := { b with status := r.1, detail := 0, out := r.2.1, inline := r.2.2, since := s.now, check := none }
    setJob (freeStones (if b.own.isSome then s else draw s) b) { b with stage := if secondStone b.opcode then .checking else .finished }

/-- A faulty stone ends its job: every stone of the job is wiped, this one is withdrawn (R221, R222). -/
def stoneFails (s : State) (b : Job) (n monitor status : Nat) : State :=
  let s := withdraw (abortStones s b) (.stone n) monitor
  spoil (report s monitor n) b status 0

/-- The operation uses random values (R216, R217). -/
def usesRandom (op : Nat) : Bool := !publicOp op && op != 0x0411 || op == 0x0409 || op == 0x040C

/-- What a stone at the end of its time gives. -/
def stoneDone (s : State) (b : Job) (n : Nat) (fault : StoneFault) : State :=
  match fault with
  | .clean => if b.stone == some n && b.stage == .running then stoneComputes s b else s
  | .residue => stoneFails s b n 0x19 eFault
  | .parity => stoneFails s b n 0x17 eParity
  | .point => if b.opcode == 0x0405 && b.stage == .running then stoneFails s b n 0x19 eFault else s
  | .iterations =>
    if b.opcode == 0x040A && b.stage == .running then
      spoil (freeStones s b) b eFault 0
    else s
  | .noRandom =>
    if usesRandom b.opcode && b.stage == .running then
      spoil (report (draw (freeStones s b)) 0x1B (Config.free 0x001B s.rng)) b eFault 0
    else s

/-- MILL_STONE_DONE. -/
def execMillStoneDone (stone : Nat) (fault : StoneFault) (s : State) : Out :=
  done s (
    let t := stoneOf s stone
    match t.job.bind (jobOf s) with
    | some b => if powered s && stone < 64 && t.state == .busy then startJobs (stoneDone s b stone fault) else s
    | none => s)

/-- A failed release check: both stones are wiped and withdrawn, and the job ends with E_FAULT; work of the device's own is made
again (R220). -/
def checkFails (s : State) (b : Job) : State := spoil (checkLost s b) b eFault 0

/-- MILL_RELEASE_CHECK_DONE. -/
def execMillReleaseCheckDone (job : Nat) (passed : Bool) (s : State) : Out :=
  done s (match jobOf s job with
    | some b =>
      if powered s && b.engine == .mill && checkRuns s b then
        let s := advanceTo s (b.since + usOf (checkTime s b))
        startJobs (if passed then setJob (freeStones s b) { b with stage := .finished } else checkFails s b)
      else s
    | none => s)

/-- A stone's wipe completes: it may start another job, or its withdrawal begins (R222, R476). -/
def execStoneWipeDone (stone : Nat) (s : State) : Out :=
  done s (
    let t := stoneOf s stone
    if powered s && stone < 64 && t.state == .wiping then
      startJobs (setStone s stone { t with state := t.afterWipe, afterWipe := .idle, since := s.now })
    else s)

/-- The stone is the last one awake of its group while a job is queued for the Mill (R26). -/
def lastAwake (s : State) (n : Nat) : Bool :=
  s.jobs.any (wantsStone s) && !(stoneNumbers.any (fun m => m != n && groupOf m == groupOf n && stoneAwake s m))

/-- A stone has been idle for 100 µs: it is gated (R26). -/
def execStoneIdleGate (stone : Nat) (s : State) : Out :=
  done s (
    let t := stoneOf s stone
    if powered s && stone < 64 && t.state == .idle && t.job.isNone && !lastAwake s stone then
      setStone (advanceTo s (t.since + 100)) stone { t with state := .gated, job := none }
    else s)

/-- A stone has woken, and takes the job assigned to it (R26). -/
def execStoneWakeDone (stone : Nat) (s : State) : Out :=
  done s (
    let t := stoneOf s stone
    if powered s && stone < 64 && t.state == .waking then
      startJobs (setStone s stone { t with state := .idle, since := s.now })
    else s)

end Sys2Proof.Machine
end

