-- ==== Sys2Proof/Machine/PortCmds.lean ====
section
/-! DEFINITION. Capture ports (chapter 03): the port commands, links, the ingress checks of Table 3-8, flow control and
the transmit direction. -/

namespace Sys2Proof.Machine

/-! ### Link modes (R73, R74, R76) -/

/-- Lanes a mode takes (Table 3-3). -/
def modeLanes (m : Nat) : Nat := if m == 5 then 2 else if m == 6 then 4 else 1

/-- The mode fits the lane count and the medium (R73, R76, R78). -/
def modeFits (lanes medium m : Nat) : Bool :=
  1 ≤ m && m ≤ 6 && modeLanes m == lanes && !(medium == 1 && m ≤ 2)

/-- The FEC kinds of a mode (Table 3-3). -/
def modeFecs (m : Nat) : List Nat :=
  match m with
  | 1 => [0]
  | 2 => [0, 1]
  | 3 => [0, 1, 2]
  | _ => [3]

/-- Gbit/s of a mode (Table 3-3). -/
def modeRate (m : Nat) : Nat := [0, 1, 10, 25, 50, 100, 200].getD m 0

/-- LANES that a slot may take (R74). -/
def lanesOk (p lanes : Nat) : Bool :=
  lanes == 1 || (!hawserPort p && ((lanes == 2 && p % 2 == 0) || (lanes == 4 && p % 4 == 0)))

/-! ### PORT_CONFIG (R80) -/

/-- PORT_CONFIG (0x0509). -/
def specPortConfig : CmdSpec :=
  { code := 0x0509, pf := true, region := fillingAll, active := true
    modes := fun q s =>
      match slotOf (fld q 0 1) with
      | some p =>
        if (hawserPort p && s.pair.role != .solo) || (portOf s p).absorbed then some (deviceStatus s) else none
      | none => none }

/-- The configuration a payload carries; a MAC of zeros keeps the address (Table 3-4). -/
def payloadCfg (q : MbxReq) (old : Bytes) : PortCfg :=
  let mac := slice q.payload 16 6
  { admin := fld q 1 1, lanes := fld q 2 1, an := fld q 3 1, medium := fld q 4 1, fecAllow := fld q 5 1,
    modeAllow := fld q 6 2, forcedMode := fld q 8 1, forcedFec := fld q 9 1, pauseRx := fld q 10 1,
    pauseTx := fld q 11 1, vlan := fld q 12 2, holdKib := fld q 14 2, mac := if allZero mac then old else mac }

/-- A forced mode that R78 turns away, or one beside AN = 1. -/
def badForcedMode (c : PortCfg) : Bool :=
  if c.an == 1 then c.forcedMode != 0 else !bit c.modeAllow c.forcedMode || !modeFits c.lanes c.medium c.forcedMode

/-- The offset of the first field of a configuration that R74, R78, R81 or Table 3-4 turns away. -/
def badPortCfg (p : Nat) (c : PortCfg) : Option Nat :=
  firstField [(1 < c.admin, 33), (!lanesOk p c.lanes, 34), (1 < c.an, 35), (1 < c.medium, 36), (7 < c.fecAllow, 37),
    (bit c.modeAllow 0 || 127 < c.modeAllow, 38), (badForcedMode c, 40),
    (3 < c.forcedFec || (c.an == 0 && !(modeFecs c.forcedMode).contains c.forcedFec), 41),
    (1 < c.pauseRx, 42), (1 < c.pauseTx, 43), (bit c.vlan 15 || c.vlan % 4096 == 0xFFF, 44),
    (c.holdKib != 0 && (c.holdKib < 64 || 4096 < c.holdKib), 46), ((c.mac.headD 0).toNat % 2 == 1, 48)]

/-- The Hawser path of a Hawser port's lane. -/
def portPath (p : Nat) : Path := if p < 124 then .a else .b

/-- A Hawser port that serves takes its path's lanes (R72). -/
def takeLanes (s : State) (p : Nat) (c : PortCfg) : State :=
  if hawserPort p && c.admin == 1 then pathEnds s (portPath p) false else s

/-- A change of STRAND_HOLD_KIB takes effect on the port's strands at once (R80, R90). -/
def recheckHolds (s : State) (p : Nat) : State :=
  ((s.strands.filter (fun e => e.2.state != .unused && slotOf e.2.cfg.ingress == some p)).map (·.1)).foldl pauseCheck s

/-- PORT_CONFIG's own checks and effect (R74, R75, R78, R80, R81). -/
def bodyPortConfig (q : MbxReq) (s : State) : Reply :=
  withFormat q 24 [(22, 2)] s <|
    match slotOf (fld q 0 1) with
    | none => reject s eFormat 32
    | some p =>
      let c := payloadCfg q (portOf s p).cfg.mac
      match badPortCfg p c with
      | some d => reject s eFormat d
      | none => accept (recheckHolds (settleFloor (takeLanes (storePort s p c) p c) (portFloor p)) p) []

/-- PORT_CONFIG. -/
def execPortConfig (q : MbxReq) (s : State) : Out := runMbx specPortConfig bodyPortConfig q s

/-! ### PORT_STATUS and PORT_COUNTERS (R101) -/

/-- PORT_STATUS (0x050A). -/
def specPortStatus : CmdSpec := { code := 0x050A, inFreeze := fun _ => true }

/-- The response of PORT_STATUS (Table 3-12). -/
def portStatusBytes (s : State) (p : Nat) : Bytes :=
  le 4 (portLink s p) ++ le 4 (portMode s p) ++ le 4 (portFlow s p) ++ le 4 (portOf s p).cfg.vlan ++ fit 6 (macOf s p) ++
  zeros 2 ++ le 8 (portOf s p).ability ++ portCfgBytes s p

/-- PORT_STATUS's effect. -/
def bodyPortStatus (q : MbxReq) (s : State) : Reply :=
  withFormat q 4 [(1, 3)] s <|
    match slotOf (fld q 0 1) with
    | none => reject s eFormat 32
    | some p => accept s (portStatusBytes s p)

/-- PORT_STATUS. -/
def execPortStatus (q : MbxReq) (s : State) : Out := runMbx specPortStatus bodyPortStatus q s

/-- PORT_COUNTERS (0x050B). -/
def specPortCounters : CmdSpec := { code := 0x050B, inFreeze := fun _ => true }

/-- PORT_COUNTERS's effect: with CLEAR the counters are zero after it. -/
def bodyPortCounters (q : MbxReq) (s : State) : Reply :=
  withFormat q 4 [(2, 2)] s <|
    match slotOf (fld q 0 1) with
    | none => reject s eFormat 32
    | some p =>
      let clear := fld q 1 1 == 1
      if 1 < fld q 1 1 then reject s eFormat 33
      else if clear && q.fn != 0 then reject s eDenied 0
      else
        let b := (List.range 24).flatMap (fun k => le 8 (counterOfPort s p k))
        accept (if clear then setPort s p { portOf s p with counters := [] } else s) b

/-- PORT_COUNTERS. -/
def execPortCounters (q : MbxReq) (s : State) : Out := runMbx specPortCounters bodyPortCounters q s

/-- A 32-bit read of a counter's low dword latches its high dword (R100). -/
def execPortCounterLatchRead (slot counter : Nat) (s : State) : Out :=
  done s (if slot < 128 && counter < 24 then
      let w := portOf s slot
      setPort s slot { w with latched := tblSet w.latched counter (tblGet w.counters counter 0 / 2 ^ 32) }
    else s)

/-! ### Links (R76–R79, R89) -/

/-- The bits of a Clause 73 base page (IEEE 802.3; PRESUMED, notes/assumptions/19.md): A0 to A22 from bit 21, the PAUSE
abilities C0 and C1, the FEC bits F0 to F3. -/
def pageA (k : Nat) : Nat := 21 + k
/-- C0, symmetric PAUSE. -/
abbrev pageSym : Nat := 10
/-- C1, asymmetric PAUSE. -/
abbrev pageAsym : Nat := 11
/-- F0, ability for BASE-R FEC at 10 Gbit/s. -/
abbrev pageF0 : Nat := 46
/-- F1, request for it. -/
abbrev pageF1 : Nat := 47
/-- F2, request for RS-FEC at 25 Gbit/s. -/
abbrev pageF2 : Nat := 44
/-- F3, request for BASE-R FEC at 25 Gbit/s. -/
abbrev pageF3 : Nat := 45

/-- The ability bits of a mode (Table 3-3). -/
def modeAbilities (m : Nat) : List Nat :=
  match m with
  | 1 => [0]
  | 2 => [2]
  | 3 => [9, 10]
  | 4 => [13]
  | 5 => [14]
  | 6 => [15]
  | _ => []

/-- The port advertises the mode (R76). -/
def advertises (c : PortCfg) (m : Nat) : Bool := bit c.modeAllow m && modeFits c.lanes c.medium m

/-- The base page the port sends (R76, R79): the modes it advertises, its PAUSE abilities, its FEC ability, and requests
for the FEC kinds of FEC_ALLOW alone. -/
def ownPage (c : PortCfg) : Nat :=
  let modes := ([1, 2, 3, 4, 5, 6].filter (advertises c)).flatMap modeAbilities
  pack (modes.map (fun k => (1, pageA k, 1)) ++
    [(ofBool (c.pauseRx == 1), pageSym, 1), (ofBool (c.pauseTx != c.pauseRx), pageAsym, 1), (1, pageF0, 1),
     (ofBool (bit c.fecAllow 1), pageF1, 1), (ofBool (bit c.fecAllow 2), pageF2, 1), (ofBool (bit c.fecAllow 1), pageF3, 1)])

/-- Both pages carry the bit. -/
def bothHave (a b k : Nat) : Bool := bit a k && bit b k
/-- Either page carries the bit. -/
def eitherHas (a b k : Nat) : Bool := bit a k || bit b k

/-- The mode two pages have in common, highest first (R76). -/
def commonMode (a b : Nat) : Option Nat :=
  [6, 5, 4, 3, 2, 1].find? (fun m => (modeAbilities m).any (fun k => bothHave a b (pageA k)))

/-- The FEC that Clause 73 resolves for a mode from two pages (R76; PRESUMED, notes/assumptions/19.md): at 10 Gbit/s BASE-R
where both are able and either asks; at 25 Gbit/s what either asks, RS before BASE-R, and BASE-R alone where only A9 is
common. -/
def resolvedFec (m a b : Nat) : Nat :=
  if 4 ≤ m then 3
  else if m == 3 then
    if bothHave a b (pageA 10) then
      if eitherHas a b pageF2 then 2 else if eitherHas a b pageF3 then 1 else 0
    else if eitherHas a b pageF2 || eitherHas a b pageF3 then 1 else 0
  else if m == 2 && bothHave a b pageF0 && eitherHas a b pageF1 then 1
  else 0

/-- The mode and FEC a negotiation comes to, when they let the link up (R76): a FEC kind outside FEC_ALLOW does not. -/
def negotiated (c : PortCfg) (page : Nat) : Option (Nat × Nat) :=
  match commonMode (ownPage c) page with
  | none => none
  | some m =>
    let f := resolvedFec m (ownPage c) page
    if 4 ≤ m || m == 1 || bit c.fecAllow f then some (m, f) else none

/-- The mode and FEC of a port with a partner: negotiated, or forced where the partner runs the same (R76, R78). -/
def linkMode (c : PortCfg) (x : Partner) : Option (Nat × Nat) :=
  if c.an == 1 then negotiated c x.page
  else if bit x.modes c.forcedMode && x.fec == c.forcedFec then some (c.forcedMode, c.forcedFec)
  else none

/-- The port can link: it is enabled, available, not absorbed, and clocked, and the device captures (R70, R75, R440). -/
def canLink (s : State) (p : Nat) : Bool :=
  let w := portOf s p
  p < 128 && s.power.state == .active && s.update.captureReady && w.cfg.admin == 1 && !w.absorbed && portAvailable s p &&
    refOk s p && !w.up

/-- A floor's link PAUSE in force reaches a port whose link comes up (R92). -/
def joinPause (s : State) (p : Nat) : State := if (floorOf s (portFloor p)).pausing then pausePort s p 0xFFFF else s

/-- What training with a partner leads to (R76–R79): the partner's base page is kept, and the link comes up in a
mode both have. The ANNOUNCE of R410 and what waited for the port follow (R89). -/
def linkUp (s : State) (p : Nat) (x : Partner) : State :=
  let w := portOf s p
  let neg := w.cfg.an == 1
  let w := if neg then { w with ability := x.page % 2 ^ 48, symPause := bit x.page pageSym, asymPause := bit x.page pageAsym }
    else { w with symPause := false, asymPause := false }
  match linkMode w.cfg x with
  | none => setPort s p w
  | some (m, f) =>
    let w := { setUp w true with mode := m, fec := f, anDone := neg, ltDone := true, pcsLock := true, fecLock := true
                                 hiBer := false }
    drainPort (startTx (joinPause (announce (setPort s p w) 2 p) p) p) p

/-- A partner answers on a port, which negotiates from step 11 of the start on (R446). -/
def execPortLinkUp (slot : Nat) (partner : Partner) (s : State) : Out :=
  done s (let s := captureStarts s; if canLink s slot then linkUp s slot partner else s)

/-- FEC codewords count, corrected or not (R100). -/
def countFec (s : State) (p corrected uncorrected : Nat) : State :=
  let s := if corrected == 0 then s else countPort s p cFecOk corrected
  if uncorrected == 0 then s else countPort s p cFecBad uncorrected

/-- A port loses its link (R89), for a high bit-error rate or another cause (Table 3-10); its floor may be gated (R25). -/
def execPortLinkDown (loss : LinkLoss) (s : State) : Out :=
  let p := loss.slot
  done s (if (portOf s p).up then
      let s := takeDown (countFec s p loss.corrected loss.uncorrected) p
      settleFloor (setPort s p { portOf s p with hiBer := loss.hiBer }) (portFloor p)
    else s)

/-! ### Arriving frames (Table 3-8) -/

/-- Bytes from destination address through FCS. -/
def frameLen (x : WireFrame) : Nat := 18 + 4 * x.tags.length + x.body.length

/-- UNKEYED of a strand header. -/
def unkeyedFrame (b : Bytes) : Bool := bit (hFlags b) 0

/-- Step 5: the destination. -/
def addressOk (s : State) (p : Nat) (x : WireFrame) : Bool :=
  x.dst == macOf s p ||
  (x.dst == List.replicate 6 0xFF && x.etherType == 0x88B5 && hType x.body == 6 && unkeyedFrame x.body) ||
  (x.etherType == 0x8808 && x.dst == [0x01, 0x80, 0xC2, 0, 0, 0x01])

/-- Step 6: the VLAN. -/
def vlanOk (c : PortCfg) (x : WireFrame) : Bool :=
  match x.tags with
  | [] => c.vlan % 4096 == 0 || x.etherType == 0x8808
  | [(tpid, tci)] => tpid == 0x8100 && tci % 4096 == c.vlan % 4096
  | _ => false

/-- The least and greatest PAYLOAD_LEN of a type that may come in (Table 3-7). -/
def lenRange (type : Nat) : Option (Nat × Nat) :=
  match type with
  | 1 => some (0, 9000)
  | 2 => some (4, 9000)
  | 6 => some (16, 1024)
  | _ => none

/-- Step 8: the strand header (Tables 3-6, 3-7). The tag field is the last 16 bytes before the FCS. -/
def headerOk (b : Bytes) : Bool :=
  match lenRange (hType b) with
  | none => false
  | some (lo, hi) =>
    48 ≤ b.length && rd b 0 1 == 1 && hFlags b < 8 && rd b 4 2 < 4096 && allZero (slice b 44 4) &&
    lo ≤ hLen b && hLen b ≤ hi && allZero (slice b 32 12) &&
    (!unkeyedFrame b || (hType b != 1 && allZero (b.drop (b.length - 16))))

/-- The counter of the first of steps 1 to 9 that a frame fails; a PAUSE passes to its own effect at step 7. -/
def ingressFault (s : State) (p : Nat) (x : WireFrame) : Option Nat :=
  let fails : List (Bool × Nat) :=
    [(freeBins s (portFloor p) < 9216 || (starved s (portFloor p) && x.etherType == 0x88B5), cBinsDrop),
     (frameLen x < 64 || !x.whole, cRunt), (9216 < frameLen x, cOversize),
     (!x.fcsOk || 0 < x.uncorrected, cFcs), (!addressOk s p x, cAddr), (!vlanOk (portOf s p).cfg x, cVlan)]
  match firstField fails with
  | some k => some k
  | none =>
    if x.etherType == 0x8808 && ofBe (slice x.body 0 2) == 1 then none
    else firstField [(x.etherType != 0x88B5, cEtherType), (!headerOk x.body, cHeader),
      (x.body.length != 64 + hLen x.body, cLength)]

/-- A received PAUSE holds the transmit direction for its quanta of 512 bit times, or ends the hold (R79, R94). The model's
clock counts µs, so the time is rounded up to one, notes/assumptions/19.md (DESIGN CHOICE). -/
def rxPause (s : State) (p quanta : Nat) : State :=
  let s := countPort s p cRxPause 1
  let w := portOf s p
  if w.cfg.pauseRx == 1 && w.symPause then
    let us := ceilDiv (quanta * 512) (modeRate w.mode * 1000)
    startTx (setPort s p { w with rxPaused := quanta != 0, rxPausedUntil := s.now + us }) p
  else s

/-- UNKEYED frames of the present second so far (step 10). -/
def unkeyedSoFar (s : State) (w : Port) : Nat := if w.unkeyedSec == s.now / 1000000 then w.unkeyed else 0

/-- A frame passes every check (R87). -/
def rxOk (s : State) (p : Nat) (x : WireFrame) : State := countPort (countPort s p cRxOk 1) p cRxBytes (frameLen x)

/-- An UNKEYED frame (steps 10, R106): an OPEN_REQ waits for the strand's Hand, every other is discarded. -/
def rxUnkeyed (s : State) (p : Nat) (x : WireFrame) : State :=
  let w := portOf s p
  let n := unkeyedSoFar s w
  if 1000 ≤ n then countPort s p cUnkeyed 1
  else
    let s := rxOk (setPort s p { w with unkeyed := n + 1, unkeyedSec := s.now / 1000000 }) p x
    let payload := slice x.body 48 (hLen x.body)
    let i := hStrand x.body
    if hType x.body == 2 && msgOf payload == 1 && allZero (slice payload 2 2) then
      let st := strandOf s i
      setStrand s i { st with ctrl := st.ctrl ++ [.unkeyed p x.src (payload.drop 4)] }
    else s

/-- The strand takes keyed frames from port `p` (step 11). -/
def takesKeyed (s : State) (i p : Nat) : Bool :=
  let st := strandOf s i
  (isOpen st || st.state == .keying) && ingressOf st == p

/-- The released gap knot that covers `q`. -/
def gapKnotOf (st : Strand) (q : Nat) : Option Knot :=
  st.gapKnots.find? (fun k => k.seq ≤ q && q ≤ knotCover k)

/-- A keyed frame of a SEQ that is knotted or covered by a gap (R118, R120). -/
def oldFrame (s : State) (i q : Nat) : State :=
  let st := strandOf s i
  if st.gapRuns.any (fun r => r.1 ≤ q && q < r.1 + r.2) then
    let s := countStrand s i (fun c => { c with late := sat32 (c.late + 1) })
    match gapKnotOf st q with
    | some k => sendAck s i k
    | none => s
  else
    let s := countStrand s i (fun c => { c with duplicates := sat32 (c.duplicates + 1) })
    match st.acked with
    | some k => sendAck s i k
    | none => s

/-- A keyed DATA or CTRL frame comes to the ordering window (R118, Table 4-12). -/
def toWindow (s : State) (i : Nat) (b : Bytes) : State :=
  let st := strandOf s i
  let q := hSeq b
  if frozen s then countStrand s i (fun c => { c with frozenDrop := sat32 (c.frozenDrop + 1) })
  else if q < st.next then oldFrame s i q
  else if st.next + 64 ≤ q then countStrand s i (fun c => { c with windowDrop := sat32 (c.windowDrop + 1) })
  else if st.window.any (fun w => w.seq == q) then
    countStrand s i (fun c => { c with duplicates := sat32 (c.duplicates + 1) })
  else
    let payload := slice b 48 (hLen b)
    let (cores, s) := captureTask s i (((slotKey s (strandSlot i (hEpoch b) 0)).map (·.material)).getD [])
    let w : WSlot := { seq := q, header := b.take 48, payload, tag := slice b (48 + hLen b) 16, arrival := s.now
                       twinned := s.twin, cores }
    let st := { st with window := st.window ++ [w], missing := st.missing.filter (fun m => m.1 != q) }
    addHeld (setStrand s i (watchSlots s.now st)) i (frameBins payload)

/-- What passes steps 1 to 9 (R87, R393, R410). -/
def rxStrand (s : State) (p : Nat) (x : WireFrame) : State :=
  let i := hStrand x.body
  if !acting s then countPort s p cNoStrand 1
  else if unkeyedFrame x.body then rxUnkeyed s p x
  else if !takesKeyed s i p then countPort s p cNoStrand 1
  else if hType x.body == 6 then rxOk s p x
  else toWindow (rxOk s p x) i x.body

/-- A frame on a port whose link is up (R87). A frame that needed a gated floor has waited for it (R25). -/
def rxFrame (s : State) (p : Nat) (x : WireFrame) : State :=
  let s := setFloor s (portFloor p) { floorOf s (portFloor p) with awake := true }
  let s := countFec s p (x.gapCorrected + x.corrected) (x.gapUncorrected + x.uncorrected)
  match ingressFault s p x with
  | some k => countPort s p k 1
  | none => if x.etherType == 0x8808 then rxPause s p (ofBe (slice x.body 2 2)) else rxStrand s p x

/-- An arriving frame. -/
def execRxFrame (slot : Nat) (frame : WireFrame) (s : State) : Out :=
  done s (if powered s && slot < 128 && (portOf s slot).up then rxFrame s slot frame else s)

/-- A new Almanac second begins (step 10 of Table 3-8). -/
def execUnkeyedWindowReset (s : State) : Out :=
  let s' := advanceTo s ((s.now / 1000000 + 1) * 1000000)
  done s { s' with ports := tblMap s'.ports (fun _ w => { w with unkeyed := 0, unkeyedSec := s'.now / 1000000 }) }

/-! ### The transmit direction (R89, R92, R94, R95) -/

/-- The last byte of the frame being sent has gone out: its Bins are free (R89), and the next frame starts (R95). -/
def frameSent (s : State) (p : Nat) (x : TxFrame) : State :=
  let s := setPort s p { portOf s p with sending := none }
  let s := if x.kind == 1 then drain (freeHeld s x.strand x.held) x.strand else s
  startTx s p

/-- FRAME_TRANSMITTED. -/
def execFrameTransmitted (slot : Nat) (s : State) : Out :=
  done s (match (portOf s slot).sending with
    | some x => if (portOf s slot).up then frameSent s slot x else s
    | none => s)

/-- The refresh of a link PAUSE in force, every 100 µs (R92). -/
def execLinkPauseRefresh (floor : Nat) (s : State) : Out :=
  done s (if floor < 6 && (floorOf s floor).pausing then
      linkPause (advanceTo s ((floorOf s floor).lastPause + 100)) floor 0xFFFF
    else s)

/-- The quanta of a received PAUSE have passed (R94). -/
def execPauseQuantaExpiry (slot : Nat) (s : State) : Out :=
  done s (if (portOf s slot).rxPaused then
      let s := advanceTo s (portOf s slot).rxPausedUntil
      startTx (setPort s slot { portOf s slot with rxPaused := false }) slot
    else s)

/-- A floor has woken (R25); jobs that waited for it start. -/
def execFloorWakeDone (floor : Nat) (s : State) : Out :=
  done s (if powered s && floor < 6 && floorNeeded s floor then
      startJobs (setFloor s floor { floorOf s floor with awake := true })
    else s)

end Sys2Proof.Machine
end

