-- ==== Sys2Proof/Machine/StrandCmds.lean ====
section
/-! DEFINITION. The strand and seal commands (R141–R143, Table 4-13). -/

namespace Sys2Proof.Machine

/-! ### STRAND_CONFIG (R142) -/

/-- The strand a payload names in its first two bytes. -/
def qStrand (q : MbxReq) : Nat := fld q 0 2

/-- The configuration a payload carries (Table 4-13). -/
def payloadStrand (q : MbxReq) : StrandCfg :=
  let p := fld q 12 4
  { ingress := fld q 3 1, egress := fld q 4 1, flags := fld q 5 1, archiveKey := fld q 8 4
    segPeriod := if p == 0 then 100000 else p, scannerMac := slice q.payload 16 6, archiveMac := slice q.payload 22 6
    rekeyS := fld q 28 4, scannerId := slice q.payload 32 32 }

/-- The part of a configuration that may not change while the strand is open (R142). -/
def fixedPart (c : StrandCfg) : Nat × Nat × Nat × Bytes × Bytes :=
  (c.ingress, c.egress, c.flags, fit 6 c.scannerMac, fit 32 c.scannerId)

/-- A port selector names a Hawser port. -/
def hawserSel (x : Nat) : Bool := 0x80 ≤ x && x < 0x88

/-- R142's E_STATE conditions for a new configuration. They rest on the payload and the strand, and are judged in R142's order,
last, notes/assumptions/54.md (DEDUCED). -/
def strandBarred (q : MbxReq) (s : State) : Bool :=
  let st := strandOf s (qStrand q)
  let c := payloadStrand q
  (requiresPq c && s.ident.optionN) || ((hawserSel c.ingress || hawserSel c.egress) && s.pair.role != .solo) ||
    (st.state != .unused && st.state != .armed && fixedPart st.cfg != fixedPart c)

/-- STRAND_CONFIG (0x0501). -/
def specStrandConfig : CmdSpec := { code := 0x0501, pf := true, region := fillingAll, active := true }

/-- The rate at which a port counts against the digest budget: its link rate, or 50 Gbit/s while it is down (R126). -/
def digestRate (s : State) (p : Nat) : Nat := if (portOf s p).up then modeRate (portOf s p).mode else 50

/-- The configurations of the configured strands but `i`. -/
def otherCfgs (s : State) (i : Nat) : List StrandCfg :=
  (s.strands.filter (fun e => e.1 != i && e.2.state != .unused)).map (·.2.cfg)

/-- The digest budget of R126 is exceeded by strands so configured. -/
def overDigest (s : State) (cs : List StrandCfg) : Bool :=
  2000 < (((cs.filter wantsDigest).filterMap (fun c : StrandCfg => slotOf c.ingress)).eraseDups.map (digestRate s)).sum

/-- Seals per second as a fraction, exactly: 10^6 over each period, summed (R135). -/
def sealRate (cs : List StrandCfg) : Nat × Nat :=
  cs.foldl (fun r c => (r.1 * c.segPeriod + 1000000 * r.2, r.2 * c.segPeriod)) (0, 1)

/-- The seal budget of R135 is exceeded. -/
def overSeals (cs : List StrandCfg) : Bool := 80000 * (sealRate cs).2 < (sealRate cs).1

/-- What is wrong with an archive handle named by client `c` (R142): in the strand-reserved range, empty or stale, or not an
AES-256 key of evidence class that the client may encrypt with. -/
def archiveFault (s : State) (c h : Nat) : Option (Nat × Nat) :=
  if strandIndex (hIndex h) then some (eDenied, 0)
  else match keyAt s h with
  | .error e => some e
  | .ok k =>
    if k.cls != clsEvidence || k.type != 1 || k.set != 256 || !mayUse k c || !bit k.attr aEncrypt then some (eDenied, 0)
    else if k.damaged then some (eParity, 0)
    else none

/-- The configuration is stored, and kept for the next start (R142). -/
def storeCfg (s : State) (i : Nat) (c : StrandCfg) : State :=
  let d := tblGet s.durable i {}
  let d := { d with cfg := c, state := if d.state == .unused then .armed else d.state }
  setStrand { s with durable := tblSet s.durable i d } i { strandOf s i with cfg := c }

/-- The strand takes a new configuration (Tables 4-2, 4-12): UNUSED becomes ARMED, and a strand held for its archive key
returns to OPEN. -/
def configure (s : State) (i : Nat) (c : StrandCfg) : State :=
  let s := storeCfg s i c
  let st := strandOf s i
  match st.state with
  | .unused => changeState s i .armed 1
  | .held =>
    let dead := match keyAt s c.archiveKey with | .ok k => retired k | .error _ => true
    if st.heldFor == 7 || st.heldFor == 18 || (st.heldFor == 8 && !dead) then unhold s i else s
  | .opened => advance s i
  | _ => s

/-- The configuration is removed (Table 4-2); KEY_EPOCH stays. -/
def unconfigure (s : State) (i : Nat) : State :=
  let s := changeState s i .unused 1
  let st := strandOf s i
  setStrand { s with durable := tblDel s.durable i } i { epoch := st.epoch, ctrl := st.ctrl }

/-- The offset of the first field out of range (R142). -/
def badStrandCfg (q : MbxReq) : Option Nat :=
  let p := fld q 12 4
  firstField [(4096 ≤ qStrand q, 32), (fld q 2 1 != 1 && fld q 2 1 != 2, 34), ((slotOf (fld q 3 1)).isNone, 35),
    ((slotOf (fld q 4 1)).isNone, 36), (3 < fld q 5 1, 37), (if fld q 2 1 == 1 then wrongIndex true (fld q 8 4) else badIndex (hIndex (fld q 8 4)), 40),
    (p != 0 && (p < 1000 || 10000000 < p), 44)]

/-- STRAND_CONFIG's own checks and effect (R142). -/
def bodyStrandConfig (q : MbxReq) (s : State) : Reply :=
  withFormat q 64 [(6, 2)] s <|
    let i := qStrand q
    let c := payloadStrand q
    match badStrandCfg q with
    | some d => reject s eFormat d
    | none =>
      if fld q 2 1 == 2 then
        if (strandOf s i).state == .armed then accept (unconfigure s i) [] else reject s eState (deviceStatus s)
      else
        match archiveFault s q.fn c.archiveKey with
        | some (e, d) => reject s e d
        | none =>
          if wantsDigest c && overDigest s (c :: otherCfgs s i) then reject s eLimit 2000
          else if overSeals (c :: otherCfgs s i) then reject s eLimit 80000
          else if strandBarred q s then reject s eState (deviceStatus s)
          else accept (configure s i c) []

/-- STRAND_CONFIG. -/
def execStrandConfig (q : MbxReq) (s : State) : Out := runMbx specStrandConfig bodyStrandConfig q s

/-! ### STRAND_LIST and STRAND_STATUS (R141) -/

/-- STRAND_LIST (0x0502). -/
def specStrandList : CmdSpec := { code := 0x0502, inFreeze := fun _ => true }

/-- The strands a list selects, in ascending order. -/
def listedStrands (s : State) (first mask : Nat) : List Nat :=
  (List.range 4096).filter (fun i => first ≤ i && bit mask (strandNo (strandOf s i).state))

/-- STRAND_LIST's effect. -/
def bodyStrandList (q : MbxReq) (s : State) : Reply :=
  withFormat q 4 [] s <|
    if 4096 ≤ fld q 0 2 then reject s eFormat 32
    else
      let l := listedStrands s (fld q 0 2) (fld q 2 2)
      let es := l.take 1000
      accept s (le 2 es.length ++ le 2 (ofBool (1000 < l.length)) ++
        es.flatMap (fun i => le 2 i ++ le 1 (strandNo (strandOf s i).state) ++ le 1 (strandOf s i).cfg.ingress))

/-- STRAND_LIST. -/
def execStrandList (q : MbxReq) (s : State) : Out := runMbx specStrandList bodyStrandList q s

/-- STRAND_STATUS (0x0503). -/
def specStrandStatus : CmdSpec := { code := 0x0503, inFreeze := fun _ => true }

/-- ARCHIVE_IV_LEFT: 2^48 minus the archive key's invocation counter; 0 once it has retired, or with no key. -/
def archiveIvLeft (s : State) (st : Strand) : Nat :=
  match keyAt s st.cfg.archiveKey with
  | .ok k => 2 ^ 48 - k.invocation
  | .error _ => 0

/-- The response of STRAND_STATUS, 136 bytes (Table 4-13). -/
def strandStatusBytes (s : State) (i : Nat) : Bytes :=
  let st := strandOf s i
  let c := st.counts
  le 2 i ++ le 1 (strandNo st.state) ++ le 1 (portFloor (ingressOf st)) ++ le 1 st.cfg.ingress ++ le 1 st.cfg.egress ++
  le 1 st.cfg.flags ++ zeros 1 ++ le 4 st.epoch ++ le 4 st.window.length ++ le 8 st.next ++ le 8 c.knots ++ le 8 c.seals ++
  le 8 st.lastSealTick ++ fit 32 st.head ++
  [c.tagFail, c.gaps, c.duplicates, c.late, c.windowDrop, c.frozenDrop, st.heldBytes].flatMap (le 4) ++
  fit 6 (scannerAddr st) ++ zeros 2 ++ le 4 c.twin ++ le 4 c.unknownCtrl ++ le 4 c.sealLate ++ le 8 (archiveIvLeft s st)

/-- STRAND_STATUS's effect. -/
def bodyStrandStatus (q : MbxReq) (s : State) : Reply :=
  withFormat q 4 [(2, 2)] s <|
    if 4096 ≤ qStrand q then reject s eFormat 32 else accept s (strandStatusBytes s (qStrand q))

/-- STRAND_STATUS. -/
def execStrandStatus (q : MbxReq) (s : State) : Out := runMbx specStrandStatus bodyStrandStatus q s

/-! ### STRAND_CLOSE (R114) -/

/-- STRAND_CLOSE (0x0504). -/
def specStrandClose : CmdSpec := { code := 0x0504, pf := true, inFreeze := fun _ => true, active := true }

/-- STRAND_CLOSE's effect: a strand that is not open is E_STATE, notes/assumptions/54.md (DEDUCED); else CLOSE_ASK and 100 ms of grace, or a close at once; a HELD strand closes at once. -/
def bodyStrandClose (q : MbxReq) (s : State) : Reply :=
  withFormat q 4 [(3, 1)] s <|
    let i := qStrand q
    if 4096 ≤ i then reject s eFormat 32
    else if 1 < fld q 2 1 then reject s eFormat 34
    else if !isOpen (strandOf s i) then reject s eState (deviceStatus s)
    else if fld q 2 1 == 0 && (strandOf s i).state == .opened then
      let s := sendMsg s i 0x000A []
      accept (setStrand s i { strandOf s i with closeEnd := some (s.now + 100000) }) []
    else accept (closeNow s i 5) []

/-- STRAND_CLOSE. -/
def execStrandClose (q : MbxReq) (s : State) : Out := runMbx specStrandClose bodyStrandClose q s

/-! ### STRAND_SUBSCRIBE (R143) -/

/-- STRAND_SUBSCRIBE (0x0505). -/
def specStrandSubscribe : CmdSpec := { code := 0x0505 }

/-- The subscription is that of a client with this FIRST and LAST. -/
def sameRange (c first last : Nat) (u : Subscription) : Bool := u.client == c && u.first == first && u.last == last

/-- STRAND_SUBSCRIBE's effect: KINDS 0 removes; else the client's subscription with this range is replaced or added. -/
def bodyStrandSubscribe (q : MbxReq) (s : State) : Reply :=
  withFormat q 8 [(6, 2)] s <|
    let first := fld q 0 2
    let last := fld q 2 2
    let kinds := fld q 5 1
    let others := s.subs.filter (fun u => !sameRange q.fn first last u)
    let u : Subscription := { client := q.fn, first, last, ring := fld q 4 1, kinds }
    match firstField [(4096 ≤ first, 32), (4096 ≤ last || last < first, 34), (3 < fld q 4 1, 36), (7 < kinds, 37)] with
    | some d => reject s eFormat d
    | none =>
      if kinds == 0 then accept { s with subs := others } []
      else if 16 ≤ (others.filter (fun u => u.client == q.fn)).length then reject s eLimit 16
      else accept { s with subs := others ++ [u] } []

/-- STRAND_SUBSCRIBE. -/
def execStrandSubscribe (q : MbxReq) (s : State) : Out := runMbx specStrandSubscribe bodyStrandSubscribe q s

/-! ### SCANNER_TRUST_IMPORT (R142) -/

/-- SCANNER_TRUST_IMPORT (0x0506). -/
def specScannerTrustImport : CmdSpec :=
  { code := 0x0506, access := .q, pf := true, deferred := true, region := fillingAll, active := true }

/-- Bytes the payload of an OP must have. -/
def scannerTrustLen (q : MbxReq) : Nat := if fld q 0 1 == 1 then 8 + fld q 4 2 else 36

/-- Step 10 of SCANNER_TRUST_IMPORT; the operation starts. -/
def bodyScannerTrustImport (q : MbxReq) (s : State) : Reply :=
  let op := fld q 0 1
  if q.payload.length < 4 then reject s eLengthMismatch q.payload.length
  else if op == 0 || 4 < op then reject s eFormat 32
  else if op == 1 && 4056 < fld q 4 2 then reject s eLength 36
  else withFormat q (scannerTrustLen q) (if op == 1 then [(1, 3), (6, 2)] else [(1, 3)]) s <|
    if op == 1 && (readCert (q.payload.drop 8)).isNone then reject s eFormat 40 else accept s []

/-- SCANNER_TRUST_IMPORT. -/
def execScannerTrustImport (q : MbxReq) (s : State) : Out := runMbx specScannerTrustImport bodyScannerTrustImport q s

/-- The end of SCANNER_TRUST_IMPORT (R142): a CA or a denied ID is added or removed. -/
def endScannerTrust (s : State) (f : Nat) (o : DefOp) : State :=
  let op := rd o.payload 0 1
  let der := slice o.payload 8 (rd o.payload 4 2)
  let caId := sha3 der
  let id := slice o.payload 4 32
  match op with
  | 1 =>
    if s.scannerCas.any (fun c => c.1 == caId) then endOp s f o sOk 0 []
    else if 64 ≤ s.scannerCas.length then endOp s f o eLimit 64 []
    else endOp (share { s with scannerCas := s.scannerCas ++ [(caId, der)] } (.scanner true caId true der)) f o sOk 0 []
  | 2 =>
    endOp (share { s with scannerCas := s.scannerCas.filter (fun c => c.1 != id) } (.scanner true id false [])) f o sOk 0 []
  | 3 =>
    if s.scannerDenied.contains id then endOp s f o sOk 0 []
    else if 4096 ≤ s.scannerDenied.length then endOp s f o eLimit 4096 []
    else endOp (share { s with scannerDenied := s.scannerDenied ++ [id] } (.scanner false id true [])) f o sOk 0 []
  | _ =>
    endOp (share { s with scannerDenied := s.scannerDenied.filter (· != id) } (.scanner false id false [])) f o sOk 0 []

/-! ### SEAL_CONFIG and SEAL_KEY_SET (R142) -/

/-- Seals that waited for keys are made on every strand. -/
def releaseAllWaiting (s : State) : State := (strandIds s).foldl releaseWaiting s

/-- SEAL_CONFIG (0x0507): hybrid seals on an N part are E_STATE. -/
def specSealConfig : CmdSpec :=
  { code := 0x0507, access := .q, pf := true, region := fillingAll, active := true
    modes := fun q s => if fld q 0 1 == 1 && s.ident.optionN then some (deviceStatus s) else none }

/-- SEAL_CONFIG's effect. -/
def bodySealConfig (q : MbxReq) (s : State) : Reply :=
  withFormat q 8 [(1, 1), (4, 4)] s <|
    let alg := fld q 0 1
    let idle := fld q 2 2
    if alg != 1 && alg != 2 then reject s eFormat 32
    else if 3600 < idle then reject s eFormat 34
    else
      let s := { s with sealKeys := { s.sealKeys with alg }, sealIdle := idle }
      accept (releaseAllWaiting (share s (.sealKeys s.sealKeys s.sealIdle))) []

/-- SEAL_CONFIG. -/
def execSealConfig (q : MbxReq) (s : State) : Out := runMbx specSealConfig bodySealConfig q s

/-- What is wrong with a signing key's handle: it names no custody-class asymmetric slot, its key is absent, or is not of the
type and SET with SIGN (R104, R236). -/
def signKeyFault (s : State) (h type set : Nat) : Option (Nat × Nat) :=
  if hClass h != clsCustody || !asymIndex (hIndex h) then some (eDenied, 0)
  else match keyAt s h with
  | .error e => some e
  | .ok k =>
    if k.session || k.cls != clsCustody || k.type != type || k.set != set || !bit k.attr aSign then some (eDenied, 0)
    else if k.damaged then some (eParity, 0)
    else none

/-- The certificate is for the key that the handle names. -/
def certFor (s : State) (h : Nat) (c : CertInfo) : Bool :=
  match ownKey s h with
  | some k => publicOf s k == some c.pub
  | none => false

/-- The checks SEAL_KEY_SET and VERDICT_KEY_SET share: the ECDSA key, the ML-DSA key where one goes with it, and the
certificate of the ECDSA key; `o` is the buffer offset of the first handle, and `mBad` says that ALG does not allow an ML-DSA key, or
its absence. -/
def withSignKeys (s : State) (o e m : Nat) (mBad hybrid : Bool) (cert : Bytes) (k : Reply) : Reply :=
  if wrongIndex false e then reject s eFormat o
  else if mBad || wrongIndex false m then reject s eFormat (o + 4)
  else
    match signKeyFault s e 0x10 0x0002 with
    | some (st, d) => reject s st d
    | none =>
      match (if hybrid then signKeyFault s m 0x14 65 else none) with
      | some (st, d) => reject s st d
      | none =>
        match readCert cert with
        | none => reject s eFormat (o + 12)
        | some c => if certFor s e c then k else reject s eDenied 0

/-- SEAL_KEY_SET (0x0508). -/
def specSealKeySet : CmdSpec :=
  { code := 0x0508, access := .q, pf := true, inFreeze := fun _ => true, region := fillingAll, active := true
    modes := fun q s => if fld q 4 4 != 0 && s.ident.optionN then some (deviceStatus s) else none }

/-- SEAL_KEY_SET's effect (R142): an ML-DSA key goes with hybrid seals alone. -/
def bodySealKeySet (q : MbxReq) (s : State) : Reply :=
  withFormat q (12 + fld q 8 2) [(10, 2)] s <|
    let m := fld q 4 4
    let cert := q.payload.drop 12
    withSignKeys s 32 (fld q 0 4) m ((m == 0) != classicalSeals s) (m != 0) cert <|
      let s := { s with sealKeys := { s.sealKeys with ecdsa := fld q 0 4, mldsa := m, cert, named := true } }
      accept (releaseAllWaiting (share s (.sealKeys s.sealKeys s.sealIdle))) []

/-- SEAL_KEY_SET. -/
def execSealKeySet (q : MbxReq) (s : State) : Out := runMbx specSealKeySet bodySealKeySet q s

end Sys2Proof.Machine
end

