-- ==== Sys2Proof/Machine/Trust.lean ====
section
/-! DEFINITION. The trust store, verification policies and verdict keys (R230–R238), the chip tunnel (R244–R248) and the
signature of a verdict (R252). -/

namespace Sys2Proof.Machine

/-- Put an entry under the next TRUST_ID (Table 8-4). -/
def addTrust (s : State) (e : TrustEntry) : State := setTrust { s with trustNo := s.trustNo + 1 } s.trustNo (some e)

/-- The record of an import (R231). -/
def importRecord (accepted rejected reason : Nat) : Bytes := le 4 accepted ++ le 4 rejected ++ le 2 reason ++ zeros 6

/-! ### TRUST_IMPORT_MASTERLIST (R232) -/

/-- TRUST_IMPORT_MASTERLIST (0x0602). -/
def specTrustImportMasterlist : CmdSpec :=
  { code := 0x0602, access := .q, pf := true, deferred := true, region := fillingAll, active := true }

/-- The operation of an import starts; its file comes by DMA. -/
def bodyImport (file : Option Bytes) (q : MbxReq) (s : State) : Reply :=
  withFormat q 16 [(12, 4)] s { accept s [] with file }

/-- TRUST_IMPORT_MASTERLIST. -/
def execTrustImportMasterlist (q : MbxReq) (file : Option Bytes) (s : State) : Out :=
  runMbx specTrustImportMasterlist (bodyImport file) q s

/-- The file of an import within its limit, or why not (R231): LENGTH is at payload byte 8. -/
def importFile (o : DefOp) (limit : Nat) : Except (Nat × Nat) Bytes :=
  let n := rd o.payload 8 4
  if limit < n then .error (eLength, 40)
  else match o.file with
  | none => .error (eDma, 0)
  | some b => .ok (fit n b)

/-- A list's certificates with their contents. -/
def parsedCerts (l : List Bytes) : List (Bytes × CertInfo) :=
  l.filterMap (fun d => (readCert d).map (fun c => (d, c)))

/-- A CSCA among the stored ones and those of a list that issued a certificate, by name and authority key identifier. -/
def issuerIn (s : State) (l : List (Bytes × CertInfo)) (c : CertInfo) : Option CertInfo :=
  match issuerOf s c with
  | some (_, _, i, _) => some i
  | none => (l.find? (fun e => e.2.subject == c.issuer && e.2.ski == c.aki)).map (·.2)

/-- The signer certificate chains to a CSCA and the SignerInfo signature verifies (R232). -/
def masterListSigned (s : State) (m : MasterList) : Bool :=
  match readCert m.signer with
  | none => false
  | some c =>
    match issuerIn s (parsedCerts m.certs) c with
    | none => false
    | some i =>
      sigListed s c.sigAlg c.sigHash i && certVerifies c.sigAlg c.sigHash i.pub c.tbs c.sig &&
      sigListed s m.sigAlg m.sigHash c && certVerifies m.sigAlg m.sigHash c.pub m.signed m.sig

/-- Why a CSCA certificate of a list is rejected (Table 8-9), if it is; an unknown NOW leaves every window in doubt. -/
def cscaFault (s : State) (l : List (Bytes × CertInfo)) (der : Bytes) : Option Nat :=
  match readCert der with
  | none => some 1
  | some c =>
    match (if c.selfSigned then some c else issuerIn s l c) with
    | none => some 4
    | some i =>
      if !sigListed s c.sigAlg c.sigHash i then some 2
      else if !certVerifies c.sigAlg c.sigHash i.pub c.tbs c.sig then some 3
      else match nowUtc s with
      | none => some 5
      | some t => if t < certEnd c then none else some 5

/-- The digest is that of a stored CSCA certificate. -/
def storedCsca (s : State) (der : Bytes) : Bool := (cscas s).any (fun e => sha3 e.2.1 == sha3 der)

/-- Add accepted certificates. -/
def addCscas (s : State) (l : List Bytes) : State :=
  l.foldl (fun s der =>
    match readCert der with
    | some c => addTrust s (.csca der c (!c.selfSigned))
    | none => s) s

/-- The limit of Table 8-2 that adding certificates would exceed; of two broken at once the one that stands first in the table,
notes/assumptions/64.md (DESIGN CHOICE). -/
def cscaLimit (s : State) (l : List Bytes) : Option Nat :=
  let bytes := ((cscas s).map (fun e => e.2.1.length)).sum + (l.map (·.length)).sum
  if l.any (fun d => 4096 < d.length) then some 4096
  else if 4096 < (cscas s).length + l.length then some 4096
  else if 8388608 < bytes then some 8388608
  else none

/-- The end of TRUST_IMPORT_MASTERLIST. A certificate that stands in the list twice counts once, notes/assumptions/69.md (DESIGN
CHOICE). -/
def endMasterList (s : State) (f : Nat) (o : DefOp) : State :=
  match importFile o 4194304 with
  | .error (st, d) => endOp s f o st d (importRecord 0 0 0)
  | .ok b =>
    match Config.parseMasterList b with
    | none => endOp s f o eAuth 0 (importRecord 0 0 1)
    | some m =>
      if !masterListSigned s m then endOp s f o eAuth 0 (importRecord 0 0 3)
      else
        let fresh := (m.certs.eraseDups).filter (fun d => !storedCsca s d)
        let l := parsedCerts m.certs
        let good := fresh.filter (fun d => (cscaFault s l d).isNone)
        let bad := fresh.filterMap (cscaFault s l)
        match cscaLimit s good with
        | some n => endOp s f o eLimit n (importRecord 0 0 0)
        | none => endOp (addCscas s good) f o sOk 0 (importRecord good.length bad.length (bad.headD 0))

/-! ### TRUST_IMPORT_CRL (R233) -/

/-- TRUST_IMPORT_CRL (0x0603). -/
def specTrustImportCrl : CmdSpec := { code := 0x0603, pf := true, deferred := true, region := fillingAll, active := true }

/-- TRUST_IMPORT_CRL. -/
def execTrustImportCrl (q : MbxReq) (file : Option Bytes) (s : State) : Out := runMbx specTrustImportCrl (bodyImport file) q s

/-- The stored CRLs: TRUST_ID, issuing CSCA, DER. -/
def crls (s : State) : List (Nat × Nat × Bytes) :=
  s.trust.filterMap (fun e => match e.2 with | .crl i der _ _ _ _ => some (e.1, i, der) | _ => none)

/-- The limit of Table 8-2 that a CRL for a CSCA would exceed, the first of the table's order, notes/assumptions/64.md (DESIGN
CHOICE); the one it replaces does not count. -/
def crlLimit (s : State) (csca : Nat) (der : Bytes) (c : CrlInfo) : Option Nat :=
  let others := (crls s).filter (fun e => e.2.1 != csca)
  if 512 ≤ others.length then some 512
  else if 65536 < c.serials.length then some 65536
  else if 6291456 < (others.map (fun e => e.2.2.length)).sum + der.length then some 6291456
  else none

/-- A verified CRL replaces the stored one of the same key. -/
def storeCrl (s : State) (csca : Nat) (der country : Bytes) (c : CrlInfo) : State :=
  let s := ((crls s).filter (fun e => e.2.1 == csca)).foldl (fun s e => setTrust s e.1 none) s
  addTrust s (.crl csca der country c.thisUpdate c.nextUpdate c.serials)

/-- The end of TRUST_IMPORT_CRL. -/
def endCrl (s : State) (f : Nat) (o : DefOp) : State :=
  match importFile o 1048576 with
  | .error (st, d) => endOp s f o st d (importRecord 0 0 0)
  | .ok b =>
    match readCrl b with
    | none => endOp s f o eAuth 0 (importRecord 0 1 1)
    | some c =>
      match (cscas s).find? (fun e => e.2.2.1.subject == c.issuer && e.2.2.1.ski == c.aki) with
      | none => endOp s f o eAuth 0 (importRecord 0 1 4)
      | some (id, _, i, _) =>
        let old : Bool := match crlOf s id with | some (_, _, t, _, _) => c.thisUpdate ≤ t | none => false
        if !sigListed s c.sigAlg c.sigHash i then endOp s f o eAuth 0 (importRecord 0 1 2)
        else if !certVerifies c.sigAlg c.sigHash i.pub c.tbs c.sig then endOp s f o eAuth 0 (importRecord 0 1 3)
        else if old then endOp s f o eTooLate 0 (importRecord 0 1 8)
        else match crlLimit s id b c with
        | some n => endOp s f o eLimit n (importRecord 0 0 0)
        | none => endOp (storeCrl s id b i.country c) f o sOk 0 (importRecord 1 0 0)

/-! ### TRUST_IMPORT_IS_KEY (R234) -/

/-- TRUST_IMPORT_IS_KEY (0x0604). -/
def specTrustImportIsKey : CmdSpec := { code := 0x0604, access := .q, pf := true, region := fillingAll, active := true }

/-- `n` length-prefixed certificates from `off`, and the offset after them. -/
def splitCerts (b : Bytes) : Nat → Nat → List Bytes × Nat
  | 0, off => ([], off)
  | n + 1, off =>
    let len := rd b off 2
    let r := splitCerts b n (off + 2 + len)
    (slice b (off + 2) len :: r.1, r.2)

/-- The signature algorithms of Terminal Authentication (Table 8-1): ECDSA with SHA-224 to SHA-512, RSA with SHA-256 or SHA-512; none
with SHA-1 (R234). -/
def cvListed (c : CvCert) : Bool :=
  (c.sigAlg == 1 && 2 ≤ c.sigHash && c.sigHash ≤ 5) || ((c.sigAlg == 2 || c.sigAlg == 3) && (c.sigHash == 3 || c.sigHash == 5))

/-- The certificates of a chain verify in order (R234). -/
def chainOk : List CvCert → Bool
  | [] => true
  | [c] => cvListed c
  | a :: b :: r => cvListed a && certVerifies b.sigAlg b.sigHash a.pub b.body b.sig && chainOk (b :: r)

/-- The stored chains with a top CAR and an inspection-system CHR. -/
def sameChains (s : State) (car chr : Bytes) : List Nat :=
  s.trust.filterMap (fun e => match e.2 with
    | .chain _ a h _ _ _ _ => if a == car && h == chr then some e.1 else none
    | _ => none)

/-- Chains stored. -/
def chainCount (s : State) : Nat := (s.trust.filter (fun e => match e.2 with | .chain _ _ _ _ _ _ _ => true | _ => false)).length

/-- Store a chain; one with the same top CAR and CHR is replaced. -/
def storeChain (s : State) (key : Nat) (top is_ : CvCert) (certs : List Bytes) : Reply :=
  let old := sameChains s top.car is_.chr
  if 256 ≤ chainCount s - old.length then reject s eLimit 256
  else
    let id := s.trustNo
    let s := old.foldl (fun s i => setTrust s i none) s
    let w := (cvWindow is_).getD (0, 0)
    accept (addTrust s (.chain key top.car is_.chr (top.car.take 2) w.1 w.2 certs)) (le 4 id)

/-- The key of a chain: a present custody-class private key (R234). -/
def withCustodyKey (s : State) (h : Nat) (k : KeySlot → Reply) : Reply :=
  match keyAt s h with
  | .error (st, d) => reject s st d
  | .ok x =>
    if x.session || x.cls != clsCustody || !asymIndex (hIndex h) then reject s eDenied 0
    else if x.damaged then reject s eParity 0
    else k x

/-- TRUST_IMPORT_IS_KEY's own checks and effect. -/
def bodyTrustImportIsKey (q : MbxReq) (s : State) : Reply :=
  let n := fld q 4 1
  let (certs, stop) := splitCerts q.payload n 8
  if q.payload.length < 8 then reject s eLengthMismatch q.payload.length
  else if wrongIndex false (fld q 0 4) then reject s eFormat 32
  else if n == 0 || 4 < n then reject s eFormat 36
  else withFormat q stop [(5, 3)] s <|
    if certs.any (fun c => 1024 < c.length) then reject s eLimit 1024
    else withCustodyKey s (fld q 0 4) fun k =>
      let cs := certs.filterMap Config.parseCvCert
      match cs.head?, cs.getLast? with
      | some top, some is_ =>
        if cs.length != n || cs.any (fun c => (cvWindow c).isNone) || !chainOk cs || publicOf s k != some is_.pub then reject s eAuth 0
        else storeChain s (fld q 0 4) top is_ certs
      | _, _ => reject s eAuth 0

/-- TRUST_IMPORT_IS_KEY. -/
def execTrustImportIsKey (q : MbxReq) (s : State) : Out := runMbx specTrustImportIsKey bodyTrustImportIsKey q s

/-! ### TRUST_LIST and TRUST_REMOVE (R235) -/

/-- TRUST_LIST (0x0605). -/
def specTrustList : CmdSpec := { code := 0x0605, inFreeze := fun _ => true }

/-- The KIND of an entry. -/
def trustKind : TrustEntry → Nat
  | .csca _ _ _ => 1 | .crl _ _ _ _ _ _ => 2 | .chain _ _ _ _ _ _ _ => 3

/-- The 64 bytes of a TRUST_LIST entry (Table 8-4). -/
def trustBytes (s : State) (id : Nat) (e : TrustEntry) : Bytes :=
  let mk := fun (flags : Nat) (country : Bytes) (start stop : Nat) (der : Bytes) (count : Nat) =>
    le 4 id ++ le 1 (trustKind e) ++ le 1 flags ++ fit 2 country ++ le 8 start ++ le 8 stop ++ sha3 der ++ le 4 count ++ zeros 4
  match e with
  | .csca der c link => mk (ofBool link) c.country c.notBefore (certEnd c) der 0
  | .crl _ der country start stop serials =>
    let stale : Bool := match nowUtc s with | some t => stop ≤ t | none => false
    mk (if stale then 2 else 0) country start stop der serials.length
  | .chain _ _ _ country start stop certs => mk 0 country start stop (certs.getLast?.getD []) certs.length

/-- TRUST_LIST's effect. -/
def bodyTrustList (q : MbxReq) (s : State) : Reply :=
  withFormat q 8 [(1, 3)] s <|
    let kind := fld q 0 1
    if kind == 0 || 3 < kind then reject s eFormat 32
    else
      let l := s.trust.filter (fun e => trustKind e.2 == kind && fld q 4 4 ≤ e.1)
      let es := l.take 62
      accept s (le 2 es.length ++ le 2 (ofBool (62 < l.length)) ++ es.flatMap (fun e => trustBytes s e.1 e.2))

/-- TRUST_LIST. -/
def execTrustList (q : MbxReq) (s : State) : Out := runMbx specTrustList bodyTrustList q s

/-- TRUST_REMOVE (0x0606): an absent entry is E_STATE, notes/assumptions/69.md (DESIGN CHOICE). -/
def specTrustRemove : CmdSpec :=
  { code := 0x0606, access := .q, pf := true, region := fillingAll, active := true
    modes := fun q s => if q.payload.length == 4 && !tblHas s.trust (fld q 0 4) then some (deviceStatus s) else none }

/-- An entry goes; with a CSCA go its CRL and what was verified under it (R235). -/
def removeTrust (s : State) (id : Nat) : State :=
  let s := setTrust s id none
  let s := ((crls s).filter (fun e => e.2.1 == id)).foldl (fun s e => setTrust s e.1 none) s
  { s with dsCache := s.dsCache.filter (fun e => e.csca != id) }

/-- TRUST_REMOVE's effect. -/
def bodyTrustRemove (q : MbxReq) (s : State) : Reply :=
  withFormat q 4 [] s <| accept (removeTrust s (fld q 0 4)) []

/-- TRUST_REMOVE. -/
def execTrustRemove (q : MbxReq) (s : State) : Out := runMbx specTrustRemove bodyTrustRemove q s

/-! ### Verdict keys, cache and policies (R236–R238) -/

/-- VERDICT_KEY_SET (0x0607): ALG 2 on an N part is E_STATE. -/
def specVerdictKeySet : CmdSpec :=
  { code := 0x0607, access := .q, pf := true, inFreeze := fun _ => true, region := fillingAll, active := true
    modes := fun q s => if fld q 0 1 == 2 && s.ident.optionN then some (deviceStatus s) else none }

/-- VERDICT_KEY_SET's effect. The keys and the certificate stand 4 bytes later than in SEAL_KEY_SET. -/
def bodyVerdictKeySet (q : MbxReq) (s : State) : Reply :=
  withFormat q (16 + fld q 12 2) [(1, 3), (14, 2)] s <|
    let alg := fld q 0 1
    let e := fld q 4 4
    let m := fld q 8 4
    let cert := q.payload.drop 16
    if alg != 1 && alg != 2 then reject s eFormat 32
    else withSignKeys s 36 e m (alg == 1 && m != 0) (alg == 2) cert <|
      let k : SignKeys := { alg, ecdsa := e, mldsa := m, cert, named := true }
      accept (share { s with verdictKeys := k } (.verdictKeys k)) []

/-- VERDICT_KEY_SET. -/
def execVerdictKeySet (q : MbxReq) (s : State) : Out := runMbx specVerdictKeySet bodyVerdictKeySet q s

/-- DSCACHE_FLUSH (0x0608). -/
def specDscacheFlush : CmdSpec := { code := 0x0608, pf := true, region := fillingAll }

/-- DSCACHE_FLUSH's effect (R235). -/
def bodyDscacheFlush (q : MbxReq) (s : State) : Reply := withFormat q 0 [] s <| accept { s with dsCache := [] } []

/-- DSCACHE_FLUSH. -/
def execDscacheFlush (q : MbxReq) (s : State) : Out := runMbx specDscacheFlush bodyDscacheFlush q s

/-- VERIFY_POLICY_SET (0x0609). -/
def specVerifyPolicySet : CmdSpec := { code := 0x0609, access := .q, pf := true, region := fillingAll, active := true }

/-- The policy a payload carries (Table 8-5). -/
def payloadPolicy (q : MbxReq) : Policy :=
  let ms := fld q 16 2
  let sec := fld q 18 2
  { access := fld q 2 1, chipAuth := fld q 3 1, ta := fld q 4 1, crlMissing := fld q 5 1, crlStale := fld q 6 1
    expiredDoc := fld q 7 1, sha1 := fld q 8 1, tunnel := fld q 9 1, dgRead := fld q 10 2, dgRequired := fld q 12 2
    dgRelease := fld q 14 2, apduMs := if ms == 0 then 2000 else ms, sessionS := if sec == 0 then 30 else sec
    client := fld q 20 1, ring := fld q 21 1 }

/-- A map of data groups is a subset of another. -/
def subMap (a b : Nat) : Bool := a &&& b == a

/-- The offset of the first field that R238 turns away. -/
def badPolicy (n : Nat) (p : Policy) : Option Nat :=
  firstField [(15 < n, 32), (p.access == 0 || 3 < p.access, 34), (2 < p.chipAuth, 35), (1 < p.ta, 36), (1 < p.crlMissing, 37),
    (1 < p.crlStale, 38), (1 < p.expiredDoc, 39), (1 < p.sha1, 40), (1 < p.tunnel, 41),
    (bit p.dgRead 0 || !bit p.dgRead 1, 42), (bit p.dgRequired 0 || !subMap p.dgRequired p.dgRead, 44),
    (bit p.dgRelease 0 || !subMap p.dgRelease p.dgRead, 46), (p.apduMs < 100 || 10000 < p.apduMs, 48),
    (120 < p.sessionS, 50), (64 ≤ p.client, 52), (3 < p.ring, 53)]

/-- VERIFY_POLICY_SET's effect. -/
def bodyVerifyPolicySet (q : MbxReq) (s : State) : Reply :=
  withFormat q 32 [(22, 10)] s <|
    let n := fld q 0 2
    let p := payloadPolicy q
    match badPolicy n p with
    | some d => reject s eFormat d
    | none => accept (share { s with policies := tblSet s.policies n p } (.policy n p)) []

/-- VERIFY_POLICY_SET. -/
def execVerifyPolicySet (q : MbxReq) (s : State) : Out := runMbx specVerifyPolicySet bodyVerifyPolicySet q s

/-! ### The chip tunnel (R244–R248) -/

/-- CHIP_BEGIN's body is well formed (Table 8-7). -/
def beginFormed (_ : State) (w : WSlot) : Bool :=
  let b := ctrlBody w
  16 ≤ b.length && b.length == 16 + rd b 5 1 && 261 ≤ rd b 8 2 && allZero (slice b 10 6)

/-- PWD_KIND and PWD_LEN agree and the password has its form (R245). -/
def pwdOk (kind : Nat) (pwd : Bytes) : Bool :=
  ((kind == 1 && 24 ≤ pwd.length && pwd.length ≤ 40) || (kind == 2 && pwd.length == 6)) && Config.passwordOk kind pwd

/-- The CHIP_ERROR reason of the first check of R245 that a CHIP_BEGIN fails. -/
def beginRefusal (s : State) (b : Bytes) : Option Nat :=
  if 15 < rd b 2 2 || (policyOf s (rd b 2 2)).tunnel != 1 then some 1
  else if !pwdOk (rd b 4 1) (b.drop 16) then some 2
  else if !verdictKeysSet s then some 7
  else none

/-- A chip session begins (R245, R247): a session that runs is superseded; the Hand sends its first C-APDU. -/
def beginChip (i : Nat) (s : State) (w : WSlot) : State :=
  let b := ctrlBody w
  let s := knotCtrl s i w
  let s := endChip s i 6
  match beginRefusal s b with
  | some r => sendMsg s i 0x0015 (le 2 (rd b 0 2) ++ le 2 r)
  | none =>
    let c : ChipSession := { session := rd b 0 2, policyNo := rd b 2 2, policy := policyOf s (rd b 2 2), pwdKind := rd b 4 1
                             pwd := b.drop 16, maxC := rd b 6 2, maxR := rd b 8 2, begun := s.now, firstSeq := w.seq
                             seed := s.rng, lastSeq := w.seq, apduHead := (latestKnot s i).2 }
    let s := draw s
    stepChip (setStrand s i { strandOf s i with chip := some c }) i

/-- CHIP_BEGIN. -/
def execChipBegin (strand : Nat) (s : State) : Out :=
  done s (onCtrl s strand 0x0010 beginFormed (beginChip strand))

/-- CHIP_RSP's body is well formed: LEN is 0 unless STATUS is 0. -/
def rspFormed (_ : State) (w : WSlot) : Bool :=
  let b := ctrlBody w
  8 ≤ b.length && b.length == 8 + rd b 6 2 && rd b 5 1 == 0 && rd b 4 1 ≤ 2 && (rd b 4 1 == 0 || rd b 6 2 == 0)

/-- The session's last knot is the one just queued. -/
def noteKnot (s : State) (i : Nat) (w : WSlot) (c : ChipSession) : ChipSession :=
  { c with lastSeq := w.seq, apduHead := (latestKnot s i).2 }

/-- A response to the outstanding C-APDU goes to the Hand; any other is ignored (R246, R248). -/
def chipResponse (i : Nat) (s : State) (w : WSlot) : State :=
  let b := ctrlBody w
  let s := knotCtrl s i w
  match (strandOf s i).chip with
  | none => s
  | some c =>
    if !c.outstanding || c.session != rd b 0 2 || c.exchange != rd b 2 2 then s
    else
      let c := { noteKnot s i w c with outstanding := false }
      if rd b 4 1 != 0 then stopChip (setStrand s i { strandOf s i with chip := some c }) i 10
      else stepChip (setStrand s i { strandOf s i with chip := some { c with transcript := c.transcript ++ [b.drop 8] } }) i

/-- CHIP_RSP. -/
def execChipRsp (strand : Nat) (s : State) : Out := done s (onCtrl s strand 0x0012 rspFormed (chipResponse strand))

/-- The scanner ends the session (R248). -/
def chipEnds (i : Nat) (s : State) (w : WSlot) : State :=
  let s := knotCtrl s i w
  match (strandOf s i).chip with
  | none => s
  | some c =>
    if c.session != rd (ctrlBody w) 0 2 then s
    else stopChip (setStrand s i { strandOf s i with chip := some (noteKnot s i w c) }) i 10

/-- CHIP_END. -/
def execChipEnd (strand : Nat) (s : State) : Out :=
  done s (onCtrl s strand 0x0013 (fun _ w => w.payload.length == 8) (chipEnds strand))

/-- No CHIP_RSP for APDU_TIMEOUT_MS after a CHIP_CMD (R248). -/
def execChipApduTimeout (strand : Nat) (s : State) : Out :=
  done s (match (strandOf s strand).chip with
    | some c =>
      if c.outstanding && handFor s strand then stopChip (advanceTo s (c.cmdTick + 1000 * c.policy.apduMs)) strand 4 else s
    | none => s)

/-- SESSION_TIMEOUT_S has passed since CHIP_BEGIN (R248). -/
def execChipSessionTimeout (strand : Nat) (s : State) : Out :=
  done s (match (strandOf s strand).chip with
    | some c => if handFor s strand then stopChip (advanceTo s (c.begun + 1000000 * c.policy.sessionS)) strand 4 else s
    | none => s)

/-! ### Verdict signatures (R220, R252) -/

/-- A verdict, which stones are signing, is signed and its signature checked: it goes out. After a failed check the signature is
made again on another pair of stones (R220). -/
def verdictSigned (s : State) (v : Verdict) (checkOk : Bool) : State :=
  if !ownRuns s (.verdict v.no) then s
  else if checkOk then startJobs (deliverDoc (ownTime s (.verdict v.no)) v)
  else ownFails s (.verdict v.no)

/-- VERDICT_SIGN_DONE; in an activation pause it waits, and so does a verdict whose number lies too far ahead of the acknowledged copy
(R405). -/
def execVerdictSignDone (verdict : Nat) (checkOk : Bool) (s : State) : Out :=
  done s (match s.verdicts.find? (fun v => v.no == verdict) with
    | some v => if powered s && !sheafPaused s && stewardServes s && !beyondAcked s 0x7FF00 v.no then verdictSigned s v checkOk else s
    | none => s)

end Sys2Proof.Machine
end

