-- ==== Sys2Proof/Machine/Faults.lean ====
section
/-! DEFINITION. Latent-fault tests and withdrawals (R476, R480, R481), key-bus fences (R151, R201), and the Granary scrub
(R284, R285). -/

namespace Sys2Proof.Machine

/-! ### Latent-fault tests (R480, R481) -/

/-- The monitor that a checker feeds (Tables 12-1, 17-2); none for the three tests of R481. -/
def checkerMonitor (c : Checker) (unit : Nat) : Option Nat :=
  match c with
  | .twinCompare => some 0x16
  | .inverseCheck => some 0x16
  | .flailPath => some 0x19
  | .residue => some 0x19
  | .releaseCompare => some 0x19
  | .lockstep => some 0x15
  | .wainParity => some 0x17
  | .sramParity => some 0x17
  | .granary => some 0x18
  | .keyBus => some 0x1A
  | .heartbeat => some 0x1D
  | .channels => some (unit % 21)
  | .evaluators => some 0x1F
  | .purgeStrobe => none
  | .loftErase => none
  | .watchdog => none

/-- The units that a failed test withdraws (R480): an AES core as 16·floor + core, a Flail core, a stone, the stones of a Mill
group, a Hand. -/
def testedUnits (c : Checker) (unit : Nat) : List EngineUnit :=
  match c with
  | .twinCompare => [.aes (unit / 16 % 6) (unit % 16)]
  | .inverseCheck => [.aes (unit / 16 % 6) (unit % 16)]
  | .flailPath => [.flail (unit % 32)]
  | .residue => [.stone (unit % 64)]
  | .releaseCompare => (stoneNumbers.filter (fun n => groupOf n == unit % 8)).map .stone
  | .lockstep => if unit < 8 then [.hand unit] else []
  | _ => []

/-- A unit whose checker failed its test is withdrawn; the job of a stone ends with E_FAULT, and the stone is wiped (R222). -/
def loseUnit (m : Nat) (s : State) (u : EngineUnit) : State :=
  match u with
  | .stone n => loseStone s n m
  | _ => withdraw s u m

/-- A test fails. The purge path's raises DECISION (R481); any other raises its monitor's own event, as R359 gives, and takes
what it covers out of service; the Steward stops (R478). -/
def testFails (s : State) (c : Checker) (unit : Nat) : State :=
  match checkerMonitor c unit with
  | none => report s 0x1F 3
  | some m =>
    let s := reportFailed s m
    let s := (testedUnits c unit).foldl (loseUnit m) s
    if c == .lockstep && 8 ≤ unit then stopSteward s else s

/-- LATENT_TEST_DUE: a test that passes carries no output and changes nothing. -/
def execLatentTestDue (checker : Checker) (unit : Nat) (passed : Bool) (s : State) : Out :=
  done s (if powered s && !passed then startJobs (testFails s checker unit) else s)

/-! ### The withdrawal test (R476) -/

/-- The unit's test can have run: a stone is wiped first. -/
def testable (s : State) (u : EngineUnit) : Bool :=
  match u with
  | .stone n => (stoneOf s n).state == .withdrawn
  | _ => true

/-- A unit returns to service. -/
def returnUnit (s : State) (u : EngineUnit) : State :=
  let s := { s with withdrawals := s.withdrawals.map (fun v => if v.unit == u then { v with out := false } else v) }
  noteUnit (placeUnit s u false false) u 2

/-- WITHDRAWAL_TEST_DONE: a unit that passes returns to service, one that fails is retired. -/
def execWithdrawalTestDone (unit : EngineUnit) (passed : Bool) (s : State) : Out :=
  done s (match s.withdrawals.find? (fun v => v.unit == unit) with
    | some w =>
      if powered s && w.out && !w.retired && testable s unit then
        startJobs (if passed then returnUnit s unit else retireUnit s w)
      else s
    | none => s)

/-! ### Key-bus ports (R151, R201) -/

/-- The job takes its key over this port. -/
def onPort (p : KeyPort) (b : Job) : Bool :=
  match p with
  | .floor f => b.engine == .thresher && b.floor == f
  | .group g => b.engine == .mill && usesPort b && (stonesOf b).any (fun n => groupOf n == g)

/-- The load in progress on a port: that of the job that was the last to load over it in this microsecond (R151),
notes/assumptions/51.md (DEDUCED). -/
def loadUnderWay (s : State) (p : KeyPort) : List Job :=
  ((s.jobs.filter (fun b => onPort p b && b.stage == .running && b.loadedAt == some s.now)).getLast?).toList

/-- A load has stalled: the port is fenced, the Scarecrow is notified, and the load in progress and the jobs that wait on the port
end with E_FAULT (R151, R201): those placed on the floor, or assigned a stone of the group, that have not loaded their key. -/
def fencePort (s : State) (p : KeyPort) : State :=
  let hit := loadUnderWay s p ++ s.jobs.filter (fun b => onPort p b && b.stage == .queued)
  match p with
  | .floor f =>
    if 6 ≤ f || (floorOf s f).fenced then s
    else hit.foldl (fun s b => failJob s b eFault 0) (report (setFloor s f { floorOf s f with fenced := true }) 0x1A f)
  | .group g =>
    if 8 ≤ g || s.groupFences.contains g then s
    else hit.foldl (fun s b => cutJob s b eFault 0) (report { s with groupFences := s.groupFences ++ [g] } 0x1A g)

/-- KEY_BUS_STALL. -/
def execKeyBusStall (port : KeyPort) (s : State) : Out := done s (if powered s then startJobs (fencePort s port) else s)

/-- The port returns to service: the floor's capture frames, or the Mill's jobs, go on. -/
def unfencePort (s : State) (p : KeyPort) : State :=
  match p with
  | .floor f =>
    let s := setFloor s f { floorOf s f with fenced := false }
    ((strandIds s).filter (fun i => portFloor (ingressOf (strandOf s i)) == f)).foldl advance s
  | .group g => { s with groupFences := s.groupFences.filter (· != g) }

/-- The port is fenced. -/
def isFenced (s : State) (p : KeyPort) : Bool :=
  match p with
  | .floor f => (floorOf s f).fenced
  | .group g => s.groupFences.contains g

/-- KEY_PORT_RETEST_DONE: a port that fails its test stays fenced. -/
def execKeyPortRetestDone (port : KeyPort) (passed : Bool) (s : State) : Out :=
  done s (if powered s && passed && isFenced s port then startJobs (unfencePort s port) else s)

/-! ### The scrub (R283–R285) -/

/-- The copy of a wear-table entry that was written later: its generation follows the other's (R282, R284). -/
def laterGen (a b : Nat) : Nat := if nextGen a == b then b else if nextGen b == a then a else max a b

/-- What the scrub does about one finding (R283–R285). -/
def scrubbed (s : State) (x : ScrubFinding) : State :=
  match x with
  | .repaired off region => ledger s 0xF005 4 0xFF 0 0 0 (le 4 off ++ le 4 region)
  | .counterCopies id first second =>
    let v := max (counterValue s id) (max first second)
    if id == 0x7FF01 then { s with ledger := { s.ledger with seq := v } }
    else if id == 0x7FF02 then setUpdate s { s.update with svnFloor := v }
    else { s with counters := tblSet s.counters id { counterOf s id with value := v } }
  | .wearCopies i a b =>
    let w := tblGet s.wear i {}
    let advances := max w.advances (max a.advances b.advances)
    { s with wear := tblSet s.wear i { gen := laterGen a.gen b.gen, advances } }
  | .settingsCopies a b => putSettings s (if a.1 < b.1 then b.2 else a.2)
  | .almanacCopies first second =>
    { s with almanac := { s.almanac with store := max s.almanac.store (max first second) } }
  | .keyDamaged i => damageSlot s i
  | .settingsDamaged => settingsDamage s
  | .counterDamaged id =>
    damaged { s with counters := tblSet s.counters id { counterOf s id with damaged := true } } (0xC00000 + 16 * id) 2 id
  | .trustDamaged id => damaged (draw (removeTrust s id)) (freeOffset s 0x1400000 0x1000000) 3 id
  | .sheafDamaged n =>
    if (sheafOf s n).isSome then damaged (draw (unloadSheaf s n)) (freeOffset s 0x3800000 0x400000) 9 n else s
  | .ledgerDamaged seq =>
    let l := s.ledger
    let l := { l with damaged := if l.damaged.contains seq then l.damaged else l.damaged ++ [seq] }
    damaged (draw { s with ledger := l }) (freeOffset s 0x3600000 0x200000) 8 seq

/-- SCRUB_PASS. -/
def execScrubPass (findings : List ScrubFinding) (s : State) : Out :=
  done s (if powered s then findings.foldl scrubbed s else s)

end Sys2Proof.Machine
end

