-- ==== Sys2Proof/Machine/Start.lean ====
section
/-! DEFINITION. The start (R446–R448): bank selection, the steps before MBX_READY, and what a start makes of strands, seats,
the Loft and the pair. -/

namespace Sys2Proof.Machine

/-! ### The bank (R435, R442, R448) -/

/-- The parts of bank `b` verify against its manifest. -/
def bankVerifies (env : StartEnv) (b : Nat) : Bool := if b == 0 then env.bankAOk else env.bankBOk

/-- The configuration that the bank-select word gives at a start (R435): that of the copies where they are valid and equal, else that
of copy 2, else what copy 1 replaced; `none` where neither is valid. -/
def bankWord (env : StartEnv) (u : Update) : Option BankConfig :=
  if env.word2Ok then some { configOf u with bank := u.word2.bank, attempt := u.word2.attempt }
  else if env.word1Ok then some u.word1.was
  else none

/-- Both copies are rewritten to the configuration chosen (R435), which starts with what belongs to it: without a trial, the settings
region, its shadow discarded (R439, Table 15-6). -/
def takeWord (s : State) (c : BankConfig) : State :=
  let s := match s.update.saved, c.saved with
    | some x, none => putSettings s x
    | _, _ => s
  setUpdate s (writeWord { s.update with bank := c.bank, attempt := c.attempt, phase := c.phase, saved := c.saved, fallback := c.fallback
                                         confirming := c.confirming && c.attempt != 0 } c.bank c.attempt)

/-- Recovery mode (R448). -/
def enterRecovery (s : State) : State := setUpdate s { s.update with recovery := true, code := 2 }

/-- No copy of the bank-select word is valid, so none says that a trial is under way: recovery mode, on the settings region (R435). -/
def noWord (s : State) : State :=
  let s := match s.update.saved with
    | some x => putSettings s x
    | none => s
  let u := s.update
  enterRecovery (setUpdate s
    { u with attempt := 0, saved := none, confirming := false, phase := if u.phase == .trial then .idle else u.phase })

/-- Attempt 2 begins: the new release reads the old settings region again (R439, R442). -/
def secondAttempt (s : State) : State :=
  let s := match s.update.saved with
    | some x => putSettings s x
    | none => s
  setUpdate s { writeWord s.update s.update.bank 2 with phase := .trial, testsPassed := [], attemptStart := s.now }

/-- A start in trial: it completes a confirmation that CONFIRMING records, reverts with IMAGE_INVALID, DEADLINE or
SETTINGS_UNREADABLE, or raises the attempt count (R439, R441, R442). -/
def trialStart (env : StartEnv) (s : State) : State :=
  let u := s.update
  if u.attempt == 0 then s
  else if u.confirming then confirmBank s
  else if !bankVerifies env u.bank then revertBank s 3
  else if 2 ≤ u.attempt then revertBank s 1
  else if !(env.migrateOk && env.settingsOk) then revertBank s 2
  else secondAttempt s

/-- A selected bank that does not verify gives way to the other, where that verifies and its SVN is at least the floor; else
recovery mode, as where neither copy of the bank-select word is valid (R435, R448). -/
def selectBank (env : StartEnv) (s : State) : State :=
  match bankWord env s.update with
  | none => noWord s
  | some c =>
    let s := trialStart env (takeWord s c)
    let u := s.update
    let o := otherBank s
    if bankVerifies env u.bank then s
    else if u.fallback && bankVerifies env o && u.svnFloor ≤ (bankOf s o).svn then setUpdate s (writeWord u o 0)
    else enterRecovery s

/-! ### Life-cycle (R368–R370) -/

/-- The vendor's factory credential of Blank and Test (Table 13-2). -/
def vendorCredential (s : State) : State :=
  let k := s.life.vendorCred
  setClient s 0 { clientOf s 0 with creds := tblSet (clientOf s 0).creds 0 { alg := if k.length == 97 then 1 else 2, key := k } }

/-- Blank and Test have fresh Loft keys at each cold reset, so what they sealed is gone (Table 13-2); End of life erases its
Loft keys and protected regions at every start (R370). -/
def lifeAtStart (s : State) : State :=
  let lc := s.life.lifecycle
  if lc == lcBlank || lc == lcTest then
    let s := vendorCredential (eraseProtected s)
    setScarecrow s { s.scarecrow with rootValid := true, custodyValid := true, reload := 0, zerofill := 0 }
  else if lc == lcEndOfLife then
    let s := eraseProtected s
    setScarecrow (setUpdate s { writeWord s.update s.update.bank 0 with phase := .idle })
      { s.scarecrow with rootValid := false, custodyValid := false, reload := 0, zerofill := 0 }
  else s

/-! ### The Loft (R348, R463) -/

/-- VBAT_CRITICAL (Table 12-1). -/
abbrev vbatCritical : Nat := 6

/-- A purge found at the start, with its Ledger entry: level, the monitor it cites, slots erased. -/
def purgeNote (s : State) (lvl monitor n : Nat) : State := scarecrowNote s 0xF004 (le 1 lvl ++ le 1 monitor ++ zeros 2 ++ le 4 n)

/-- A level-5 purge carried out at the start: after one in Vigil, or because the Loft was lost (R348, R463). -/
def startPurgeAll (s : State) : State :=
  let lost := s.scarecrow.zerofill != 5
  let (s, n) := purgeAll s
  let s := { s with life := { s.life with purged := true } }
  let s := if lost then latch s vbatCritical 5 else s
  let s := if s.pair.paired then unpair s 9 else s
  purgeNote (purgeUpdate s) 5 (if lost then vbatCritical else 0xFF) n

/-- A level-4 purge taken in Vigil. -/
def startPurgeCustody (s : State) : State :=
  let (s, n) := purgeCustody s
  purgeNote s 4 0xFF n

/-- The Loft and the zero-fill at a start in Production: both end before MBX_READY (R348). -/
def loftAtStart (s : State) : State :=
  if s.life.lifecycle != lcProduction then s
  else
    let s := if !s.scarecrow.rootValid then startPurgeAll s else if !s.scarecrow.custodyValid then startPurgeCustody s else s
    reactivateSlots (setScarecrow s
      { s.scarecrow with rootValid := true, custodyValid := true, reload := 0, zerofill := 0, zerofillEnd := 0 })

/-! ### Journals and tests -/

/-- Journal entries that the reset cut off become INDETERMINATE (R323). -/
def settleJournal (s : State) : State :=
  { s with journal := s.journal.map (fun e => if e.state == jPending then settle s e jIndeterminate 0 else e) }

/-- The Vigil log goes to the Ledger in SEQ order and is cleared (R362). -/
def copyVigil (s : State) : State :=
  let s := s.scarecrow.vigil.foldl (fun s e => ledger s 0xF002 2 0xFF 0 0 0 (vigilBytes e)) s
  setScarecrow s { s.scarecrow with vigil := [], vigilLost := 0 }

/-- SELF_TEST over all monitors (R359), and the purge-path tests (R481). -/
def startTests (env : StartEnv) (s : State) : State :=
  let s := (List.range 32).foldl (testOne env.failedTests.contains) s
  if env.purgePathOk then s else report s 0x1F 3

/-- At every start each stored sheaf is verified again: one that fails stays unloaded, and the Ledger records it; one that verifies
is loaded (R259). -/
def verifySheaves (env : StartEnv) (s : State) : State :=
  (tblKeys s.sheaves).foldl (fun s n =>
    if env.badSheaves.contains n then damagedNote (draw (unloadSheaf s n)) (freeOffset s 0x3800000 0x400000) 9 n
    else reloadSheaf s n) s

/-- A watchdog that fired before the reset is reported (R403, R423), and the watchdog runs again (R478). -/
def watchdogAtStart (s : State) : State :=
  let s := if s.scarecrow.wdogFired && s.pair.paired then pairEvent s (roleNo s.pair.role) 10 else s
  setScarecrow s { s.scarecrow with wdogFired := false, wdogArmed := true, lastRefresh := s.now }

/-! ### The end of the start -/

/-- The START entry (Table 10-8): running bank, part versions, scrub result, the number of lines the scrub found,
notes/assumptions/28.md (DESIGN CHOICE). -/
def startNote (env : StartEnv) (s : State) : State :=
  note s 0xF001 (le 1 s.update.bank ++ zeros 3 ++ (List.range 7).flatMap (fun k => le 4 ((running s).versions.getD k 0)) ++
    le 4 env.scrub.length)

/-- Step 10: the Hatch is released and the mailboxes are IDLE. Step 11 follows with the first thing that happens afterwards
(`captureStarts`). -/
def serve (env : StartEnv) (s : State) : State :=
  let s := startNote env s
  let s := openMailboxes (releaseLock s)
  setUpdate s { s.update with step := 10, code := 0, mbxReady := true
                              deadline := if s.update.attempt == 0 then 0 else s.now + 120000000 }

/-- How the unit begins to act: Solo at once; a paired unit looks for its peer for 2 s (Table 14-5). -/
def beginRole (s : State) : State :=
  if s.life.lifecycle == lcEndOfLife then s
  else if s.pair.paired then setPair s { s.pair with starting := true, startDeadline := s.now + 2000000 }
  else beginActing s

/-- The start with a bank that verifies and settings that are read. -/
def bringUp (env : StartEnv) (s : State) : State :=
  let s := copyVigil (settleJournal (loftAtStart (lifeAtStart s)))
  let s := verifySheaves env (startTests env s)
  beginRole (serve env (watchdogAtStart s))

/-- Recovery mode: only the PF mailbox serves; the Steward keeps the Hatch lock, and a job ends with E_STATE (R448). -/
def recover (s : State) : State :=
  let s := setFn s 0 { fnOf s 0 with state := .idle }
  setUpdate s { s.update with step := 2, mbxReady := true }

/-- What the start-up scrub covers: the counters, the settings, the wear table and the Almanac store (R284). -/
def scrubbedAtStart (x : ScrubFinding) : Bool :=
  match x with
  | .repaired _ _ | .counterCopies _ _ _ | .wearCopies _ _ _ | .settingsCopies _ _ | .almanacCopies _ _ | .counterDamaged _
  | .settingsDamaged => true
  | .keyDamaged _ | .trustDamaged _ | .sheafDamaged _ | .ledgerDamaged _ => false

/-- Settings that cannot be read hold the device in the boot state, with a DAMAGED entry (R285, R447). -/
def settingsLost (s : State) : State :=
  setUpdate (settingsDamage s) { s.update with step := 4, code := 1 }

/-- The start of R446. -/
def startUp (env : StartEnv) (s : State) : State :=
  let s := setPair s { s.pair with seat := env.seat % 2 }
  let s := { s with life := { s.life with lifecycle := lifecycleOf s.life.rows } }
  let s := selectBank env s
  let s := (env.scrub.filter scrubbedAtStart).foldl scrubbed s
  if s.update.recovery then recover s
  else
    if env.settingsOk then bringUp env s else settingsLost s

/-- The device stands at t0 of R446: rails good, ETHREF0 present, the start not yet run. -/
def atStart (s : State) : Bool := powered s && railsUp s && bit s.power.ethRef 0 && s.update.step == 0 && !s.power.resetPending

/-- COLD_RESET_START (R446). -/
def execColdResetStart (env : StartEnv) (s : State) : Out := done s (if atStart s then startUp env s else s)

end Sys2Proof.Machine
end

