-- ==== Sys2Proof/Machine/Life.lean ====
section
/-! DEFINITION. Life-cycle, ownership and debug (chapter 13): the transitions, OWNER_CLAIM, the debug commands, the
Lanyard's operations and the TAP. -/

namespace Sys2Proof.Machine

/-- Change the Lanyard. -/
def setLanyard (s : State) (v : Lanyard) : State := { s with lanyard := v }

/-! ### LIFECYCLE_STATUS -/

/-- LIFECYCLE_STATUS (0x0D01). -/
def specLifecycleStatus : CmdSpec :=
  { code := 0x0D01, access := .n, inFreeze := fun _ => true, inPurge := true, inRecovery := true }

/-- The response of LIFECYCLE_STATUS (Table 13-3). -/
def bodyLifecycleStatus (q : MbxReq) (s : State) : Reply :=
  withFormat q 0 [] s <|
    let l := s.life
    accept s (le 1 l.lifecycle ++ le 1 (pack [(ofBool l.claimed, 0, 1), (ofBool l.purged, 1, 1), (ofBool s.ident.optionN, 2, 1)]) ++
      le 1 l.debug ++ zeros 1 ++ (l.rows.map byte) ++ zeros 1 ++ le 4 l.claimNo ++ zeros 4 ++ le 8 l.debugExpires ++
      (if l.claimed then fit 8 l.ownerDigest else zeros 8) ++ fit 8 l.vendorDigest ++ le 8 s.ident.serial)

/-- LIFECYCLE_STATUS. -/
def execLifecycleStatus (q : MbxReq) (s : State) : Out := runMbx specLifecycleStatus bodyLifecycleStatus q s

/-! ### Transitions (R371–R375) -/

/-- Tj lies within the part's grade. -/
def tjInGrade (s : State) : Bool :=
  if s.ident.gradeE then -400 ≤ tj s && tj s ≤ 1050 else 0 ≤ tj s && tj s ≤ 1000

/-- The conditions of R372. -/
def lifeReady (s : State) : Bool :=
  s.power.feedAOk && s.power.feedBOk && !(monitorOf s 0x1E).active && 2700 ≤ vbatMv s && tjInGrade s &&
  (s.pair.role == .solo || s.pair.role == .isolated) && s.update.phase == .idle && alarmLevel s < 2

/-- A transition's own checks, and its Ledger entry, with the target in DETAIL, before it starts (R372, Table 13-4). -/
def bodyTransition (code : Nat) (rs : List (Nat × Nat)) (q : MbxReq) (s : State) : Reply :=
  withFormat q 16 rs s <|
    if fld q 8 8 != s.ident.serial then reject s eFormat 40
    else if !lifeReady s then reject s eState (deviceStatus s)
    else match lifeTarget code q.payload s with
      | none => reject s eState (deviceStatus s)
      | some t => accept (logCommand s code q.fn q.tag sOk t q.payload) []

/-- LIFECYCLE_ADVANCE (0x0D02). -/
def specLifecycleAdvance : CmdSpec := { code := 0x0D02, access := .q, pf := true, deferred := true }

/-- LIFECYCLE_ADVANCE starts; it ends at DEFERRED_OP_END. -/
def execLifecycleAdvance (q : MbxReq) (s : State) : Out :=
  runMbx specLifecycleAdvance (bodyTransition 0x0D02 [(1, 7)]) q s

/-- DECOMMISSION (0x0D07). -/
def specDecommission : CmdSpec :=
  { code := 0x0D07, access := .q, pf := true, deferred := true, inFreeze := fun _ => true, inPurge := true }

/-- DECOMMISSION starts; it ends at DEFERRED_OP_END. -/
def execDecommission (q : MbxReq) (s : State) : Out := runMbx specDecommission (bodyTransition 0x0D07 [(0, 8)]) q s

/-- Steps 2 to 6 of Table 13-4: the rows as read back, OP_DONE, which carries E_FAULT where one of them is not the target's (R375),
and a cold reset in 100 ms. The state in force stays until that reset reads the rows (R368). -/
def endTransition (s : State) (f : Nat) (o : DefOp) : State :=
  match lifeTarget o.code o.payload s with
  | none => endOp s f o eState (deviceStatus s) []
  | some t =>
    let old := s.life.lifecycle
    let rows := rowsRead s t
    let s := draw s
    let s := if old == lcTest && t == lcProduction then leaveTest (purgeAll s).1 else s
    let s := setLife s { s.life with rows }
    let s := setPower s { s.power with resetPending := true, resetAt := s.now + 100000 }
    let w := fnOf s f
    let s := setFn s f { w with ops := w.ops.filter (fun p => p.no != o.no) }
    let ok := rows == List.replicate 3 (rowPattern t)
    if o.silent then logCommand s o.code f o.tag (if ok then sOk else eFault) t o.payload
    else postCompletion s f 0 { type := 0x0002, status := if ok then sOk else eFault, tag := o.tag, detail := if ok then o.no else 0
                                record := le 1 old ++ le 1 t ++ zeros 2 ++ rows.map byte ++ zeros 9 }

/-! ### OWNER_CLAIM (R376–R378) -/

/-- OWNER_CLAIM (0x0D03). -/
def specOwnerClaim : CmdSpec :=
  { code := 0x0D03, access := .n, pf := true, deferred := true, inPurge := true, region := fillingAll,
    modes := fun _ s => if s.life.lifecycle == lcProduction && (!s.life.claimed || s.life.purged) then none
                        else some (deviceStatus s) }

/-- CRED_LEN of a CRED_ALG (Table 13-5). -/
def claimKeyLen (alg : Nat) : Option Nat := match alg with | 1 => some 97 | 2 => some 32 | _ => none

/-- The format of OWNER_CLAIM (Table 13-5). -/
def bodyOwnerClaim (q : MbxReq) (s : State) : Reply :=
  withFormat q (204 + fld q 6 2) [(105, 3)] s <|
    if (claimKeyLen (fld q 4 2)).isNone then reject s eFormat 36
    else if claimKeyLen (fld q 4 2) != some (fld q 6 2) then reject s eFormat 38
    else accept s []

/-- OWNER_CLAIM starts; it ends at DEFERRED_OP_END. -/
def execOwnerClaim (q : MbxReq) (s : State) : Out := runMbx specOwnerClaim bodyOwnerClaim q s

/-- The checks of R377, in order. -/
def claimCheck (s : State) (p : Bytes) : Option (Nat × Nat) :=
  let n := rd p 6 2
  let key := slice p 8 97
  if !(s.life.lifecycle == lcProduction && (!s.life.claimed || s.life.purged)) then some (eState, deviceStatus s)
  else if fillingAll {fn := 0} s then some (eBusy, zerofillLeft s)
  else if rd p 0 4 != s.life.claimNo + 1 then some (eTooLate, 0)
  else if s.life.purged && s.life.claimNo != 0 && sha3 key != s.life.ownerDigest then some (eDenied, 0)
  else if p384Ok s key && (rd p 4 2 != 1 || p384Ok s (slice p 108 97)) &&
      verifyP384 key (ascii "OPM-CLAIM" ++ le 8 s.ident.serial ++ p.take (108 + n)) (slice p (108 + n) 96) then none
  else some (eAuth, 0)

/-- The end of OWNER_CLAIM: owner and credential are recorded, and on a Purged unit the condition and the latch end (R377,
R378). -/
def endOwnerClaim (s : State) (f : Nat) (o : DefOp) : State :=
  let p := o.payload
  match claimCheck s p with
  | some (st, d) => endOp s f o st d []
  | none =>
    let key := slice p 8 97
    let was := s.life.purged
    let life := { s.life with claimed := true, claimNo := rd p 0 4, ownerKey := key, ownerDigest := sha3 key, purged := false }
    let s := setLife s life
    let cred : Credential := { alg := rd p 4 2, key := slice p 108 (rd p 6 2) }
    let s := setClient s 0 { clientOf s 0 with creds := tblSet (clientOf s 0).creds 0 cred }
    let s := if was then setScarecrow s { s.scarecrow with latched := 0, latchSrc := 0 } else s
    endOp s f o sOk 0 (fit 8 (sha3 key) ++ le 4 (rd p 0 4) ++ zeros 4)

/-! ### Debug commands (R379–R382) -/

/-- Events of the DEBUG monitor carry a VALUE that the spec does not give: a free value. -/
def debugReport (s : State) : State := report (draw s) 0x1C (Config.free 0x1C s.rng % 2 ^ 32)

/-- DEBUG_CHALLENGE (0x0D04). -/
def specDebugChallenge : CmdSpec :=
  { code := 0x0D04, pf := true,
    modes := fun _ s => if s.life.lifecycle == lcBlank || s.life.lifecycle == lcEndOfLife then some (deviceStatus s) else none }

/-- NEED of a level (Table 13-6): bit 0 the owner's signature, bit 1 the vendor's. -/
def debugNeed (s : State) (level : Nat) : Nat :=
  if s.life.lifecycle == lcTest then 2 else if level == 3 then 3 else 1

/-- DEBUG_CHALLENGE: a new challenge, valid for 600 s, replaces the last (R380). -/
def bodyDebugChallenge (q : MbxReq) (s : State) : Reply :=
  let level := fld q 0 1
  withFormat q 4 [(1, 3)] s <|
    if level == 0 || 3 < level then reject s eFormat 32
    else
      let c : Challenge := { level, bytes := randomBytes s 32, issued := s.now, expires := s.now + 600000000,
                             need := debugNeed s level }
      let s := draw s
      accept (setLife s { s.life with challenge := some c })
        (c.bytes ++ le 8 c.issued ++ le 8 c.expires ++ le 1 level ++ le 1 c.need ++ zeros 6)

/-- DEBUG_CHALLENGE. -/
def execDebugChallenge (q : MbxReq) (s : State) : Out := runMbx specDebugChallenge bodyDebugChallenge q s

/-- DEBUG_UNLOCK (0x0D05). -/
def specDebugUnlock : CmdSpec := { code := 0x0D05, pf := true }

/-- Bytes of a token by NEED (Table 13-7). -/
def tokenLen (need : Nat) : Nat := 56 + (if bit need 0 then 96 else 0) + (if bit need 1 then 196 else 0)

/-- The signatures of a token verify (R380). -/
def tokenSigned (s : State) (need : Nat) (p : Bytes) : Bool :=
  let msg := ascii "OPM-DEBUG" ++ p.take 56
  let v := if bit need 0 then 152 else 56
  (!bit need 0 || verifyP384 s.life.ownerKey msg (slice p 56 96)) &&
  (!bit need 1 || (sha3 (slice p v 97) == s.life.vendorDigest && verifyP384 (slice p v 97) msg (slice p (v + 100) 96)))

/-- The checks of R381, in order; Full is possible only in Solo (R386). -/
def unlockCheck (s : State) (p : Bytes) : Option (Nat × Nat) :=
  if throttled s || s.life.lifecycle == lcEndOfLife || (rd p 1 1 == 3 && s.pair.role != .solo) then
    some (eState, deviceStatus s)
  else match s.life.challenge with
    | none => some (eTooLate, 0)
    | some c =>
      if c.expires ≤ s.now then some (eTooLate, 0)
      else if p.length != tokenLen c.need then some (eLengthMismatch, p.length)
      else match firstReserved p ([(2, 6)] ++ if bit c.need 1 then [((if bit c.need 0 then 152 else 56) + 97, 3)] else []) with
        | some o => some (eFormat, 32 + o)
        | none =>
          if rd p 0 1 != 1 then some (eFormat, 32)
          else if rd p 1 1 != c.level then some (eFormat, 33)
          else if rd p 8 8 != s.ident.serial then some (eFormat, 40)
          else if slice p 16 32 != c.bytes then some (eFormat, 48)
          else if rd p 48 8 != c.expires then some (eFormat, 80)
          else if tokenSigned s c.need p then none else some (eAuth, 0)

/-- Entering Full in Production: the erasure of level 5, with no level latched and no Throttle (R382). -/
def enterFull (s : State) : State :=
  if s.life.lifecycle != lcProduction then s
  else
    let (s, n) := purgeAll (dropApprovals s)
    let s := setLife s { s.life with purged := true }
    let s := if s.pair.paired then unpair s 9 else setPair s { s.pair with driven := 0 }
    scarecrowNote (purgeUpdate s) 0xF004 (le 1 5 ++ le 1 0x1C ++ zeros 2 ++ le 4 n)

/-- DEBUG_UNLOCK (R381): a failure consumes the challenge and raises the DEBUG monitor. -/
def bodyDebugUnlock (q : MbxReq) (s : State) : Reply :=
  match unlockCheck s q.payload with
  | some (st, d) => reject (debugReport (setLife s { s.life with challenge := none })) st d
  | none =>
    let level := fld q 1 1
    let s := if level == 3 then enterFull s else s
    accept (setLife s { s.life with debug := level, debugExpires := fld q 48 8 }) []

/-- DEBUG_UNLOCK. -/
def execDebugUnlock (q : MbxReq) (s : State) : Out := runMbx specDebugUnlock bodyDebugUnlock q s

/-- DEBUG_CLOSE (0x0D06). -/
def specDebugClose : CmdSpec := { code := 0x0D06, pf := true, inFreeze := fun _ => true, inPurge := true }

/-- DEBUG_CLOSE: the level falls to Closed (R381). -/
def bodyDebugClose (q : MbxReq) (s : State) : Reply := withFormat q 0 [] s <| accept (closeDebug s) []

/-- DEBUG_CLOSE. -/
def execDebugClose (q : MbxReq) (s : State) : Out := runMbx specDebugClose bodyDebugClose q s

/-- The challenge's EXPIRES passes: the level falls to Closed (R381). In Blank the level has no end. -/
def execDebugLevelExpiry (s : State) : Out :=
  done s (if s.life.debug == 0 || s.life.debugExpires == 0 then s else closeDebug (advanceTo s s.life.debugExpires))

/-! ### The Lanyard (R383–R386) -/

/-- ACK values. -/
abbrev lnyOk : Nat := 1
/-- WAIT. -/
abbrev lnyWait : Nat := 2
/-- DENIED. -/
abbrev lnyDenied : Nat := 4
/-- CRC. -/
abbrev lnyCrc : Nat := 5
/-- FAULT. -/
abbrev lnyFault : Nat := 6

/-- The CRC of a request, from OP through WDATA (R383): `op`, or the reserved OP that it carries. -/
def requestCrc (op : Nat) (r : LnyReq) : Nat :=
  let op := r.reservedOp.getD op
  crc8 (sentBits 4 op ++ sentBits 4 r.target ++ sentBits 4 r.count ++ sentBits 32 r.addr ++
    (if op == 0xA then r.wdata.flatMap (sentBits 32) else []))

/-- Answer a request, with the CRC of ACK and RDATA (R383). -/
def lnyAnswer (s : State) (ack : Nat) (rdata : List Nat) : State :=
  setLanyard s { s.lanyard with resp := some { ack, rdata, crc := crc8 (sentBits 3 ack ++ rdata.flatMap (sentBits 32)) } }

/-- DENIED: nothing is done; at Closed it raises the DEBUG monitor (R384). -/
def lnyDeny (s : State) : State :=
  lnyAnswer (if s.life.debug == 0 then debugReport s else s) lnyDenied []

/-- A request while the device is powered: its CRC, then OP, target and level, then whether the target can take it and meets no parity
error, then its effect (R383, R384). -/
def lanyard (op : Nat) (r : LnyReq) (s : State) (allowed : Bool) (k : State → State) : Out :=
  done s (
    if !powered s then s
    else if r.crc != requestCrc op r then lnyAnswer s lnyCrc []
    else if r.reservedOp.isSome || !allowed then lnyDeny s
    else if r.busy then lnyAnswer s lnyWait []
    else if r.parity then lnyAnswer s lnyFault []
    else k s)

/-- None of the request's words lies at an address that R379 or R386 excludes, notes/assumptions/31.md (FREE VALUE: the map is not
given). -/
def lnyReachable (r : LnyReq) : Bool :=
  r.target == 0xA || (List.range (r.count + 1)).all (fun k => !Config.lanyardExcluded r.target (r.addr + k))

/-- The 32-bit words of a value. -/
def words (n v : Nat) : List Nat := (List.range n).map (fun k => v / 2 ^ (32 * k) % 2 ^ 32)

/-- Words that the spec does not give: free values. -/
def freeWords (s : State) (n : Nat) : List Nat := (List.range n).map (fun k => Config.free (0x1D00 + k) s.rng % 2 ^ 32)

/-- Answer with words the spec does not give. -/
def lnyFree (s : State) (n : Nat) : State := draw (lnyAnswer s lnyOk (freeWords s n))

/-- A processor. -/
def lnyProc (t : Nat) : Bool := t ≤ 8

/-- The open level serves a target of the level-2 and level-3 operations (Table 13-8). -/
def lnyLevel (s : State) (t : Nat) : Bool := (t == 0xA && 2 ≤ s.life.debug) || (lnyProc t && s.life.debug == 3)

/-- IDENTIFY: MEMBER, STEPPING 1 and the serial. -/
def execLanyardIdentify (r : LnyReq) (s : State) : Out :=
  lanyard 0x0 r s (r.target == 0xF && r.addr == 0 && r.count == 3) fun s =>
    lnyAnswer s lnyOk ([0x9144, 1] ++ words 2 s.ident.serial)

/-- The STATUS word (Table 13-8). -/
def lnyStatus (s : State) : Nat :=
  pack [(s.life.lifecycle, 0, 2), (s.life.debug, 2, 2), ((s.life.debugExpires - s.now) / 1000000, 4, 10),
    (parkedCount s, 14, 4), (maskOf s.lanyard.halted 9, 18, 9)]

/-- STATUS. -/
def execLanyardStatus (r : LnyReq) (s : State) : Out :=
  lanyard 0x1 r s (r.target == 0xF && r.addr == 0 && r.count == 0) fun s => lnyAnswer s lnyOk [lnyStatus s]

/-- TRACE_READ: an entry of the trace, oldest first; one that holds nothing yet reads as free values. -/
def execLanyardTraceRead (r : LnyReq) (s : State) : Out :=
  lanyard 0x2 r s (r.target == 0xF && r.addr < 4096 && r.count == 7 && 1 ≤ s.life.debug) fun s =>
    match s.lanyard.trace[r.addr]? with
    | some e => lnyAnswer s lnyOk (e.map (· % 2 ^ 32))
    | none => lnyFree s 8

/-- STATS_READ: the numbering and the measures of its counters are not given, so their words are free values. -/
def execLanyardStatsRead (r : LnyReq) (s : State) : Out :=
  lanyard 0x3 r s (r.target == 0xF && 1 ≤ s.life.debug) fun s => lnyFree s (r.count + 1)

/-- BP_SET: 16 sheaf breakpoints, and 8 for each processor. -/
def execLanyardBpSet (r : LnyReq) (s : State) : Out :=
  lanyard 0x4 r s (lnyLevel s r.target) fun s =>
    let l := s.lanyard
    if r.target == 0xA then
      if l.sheafBps.contains r.addr then lnyAnswer s lnyOk []
      else if 16 ≤ l.sheafBps.length then lnyAnswer s lnyFault []
      else lnyAnswer (setLanyard s { l with sheafBps := l.sheafBps ++ [r.addr] }) lnyOk []
    else if l.procBps.contains (r.target, r.addr) then lnyAnswer s lnyOk []
    else if 8 ≤ (l.procBps.filter (fun b => b.1 == r.target)).length then lnyAnswer s lnyFault []
    else lnyAnswer (setLanyard s { l with procBps := l.procBps ++ [(r.target, r.addr)] }) lnyOk []

/-- BP_CLEAR: one breakpoint, or with 0xFFFF_FFFF all of the target. -/
def execLanyardBpClear (r : LnyReq) (s : State) : Out :=
  lanyard 0x5 r s (lnyLevel s r.target) fun s =>
    let l := s.lanyard
    let all := r.addr == 0xFFFFFFFF
    if r.target == 0xA then
      lnyAnswer (setLanyard s { l with sheafBps := l.sheafBps.filter (fun b => !all && b != r.addr) }) lnyOk []
    else
      let keep := fun (b : Nat × Nat) => b.1 != r.target || (!all && b.2 != r.addr)
      lnyAnswer (setLanyard s { l with procBps := l.procBps.filter keep }) lnyOk []

/-- HALT: the instances of a strand park at their next transition; a processor halts (R385, R386), but in Drowse, where none is
halted (Table 16-9), notes/assumptions/59.md (DEDUCED). -/
def execLanyardHalt (r : LnyReq) (s : State) : Out :=
  lanyard 0x6 r s (lnyLevel s r.target) fun s =>
    if r.target == 0xA then
      if s.instances.any (fun e => e.1 / 1024 == r.addr) then
        let s := { s with instances := tblMap s.instances (fun k x =>
          if k / 1024 == r.addr && x.parked.isNone then { x with halt := true } else x) }
        lnyAnswer s lnyOk []
      else lnyAnswer s lnyFault []
    else if s.power.state == .drowse then lnyAnswer s lnyFault []
    else lnyAnswer (setLanyard s { s.lanyard with halted := addNew s.lanyard.halted r.target }) lnyOk []

/-- A halted processor goes on: what the debugger wrote to its memory may change from now on, and the Steward's watchdog restarts
(R386). -/
def resumeProc (s : State) (t : Nat) : State :=
  let l := s.lanyard
  let s := setLanyard s { l with halted := l.halted.filter (· != t), memory := tblDrop l.memory (fun k _ => k / 2 ^ 32 == t) }
  if t == 0 then setScarecrow s { s.scarecrow with lastRefresh := s.now } else s

/-- RESUME: a parked instance or a halted processor goes on. -/
def execLanyardResume (r : LnyReq) (s : State) : Out :=
  lanyard 0x7 r s (lnyLevel s r.target) fun s =>
    if r.target == 0xA then
      match parkedOn s r.addr with
      | some p => lnyAnswer (unpark s p.1 false) lnyOk []
      | none => lnyAnswer s lnyFault []
    else if s.lanyard.halted.contains r.target then lnyAnswer (resumeProc s r.target) lnyOk []
    else lnyAnswer s lnyFault []

/-- STEP: one transition of a parked instance (R385), one instruction of a halted processor, which stays halted. -/
def execLanyardStep (r : LnyReq) (s : State) : Out :=
  lanyard 0x8 r s (lnyLevel s r.target) fun s =>
    if r.target == 0xA then
      match parkedOn s r.addr with
      | some p => lnyAnswer (unpark s p.1 true) lnyOk []
      | none => lnyAnswer s lnyFault []
    else if s.lanyard.halted.contains r.target then
      lnyAnswer (setLanyard s { s.lanyard with memory := tblDrop s.lanyard.memory (fun k _ => k / 2 ^ 32 == r.target) }) lnyOk []
    else lnyAnswer s lnyFault []

/-- Space, word offset and count on TARGET 0xA. -/
def lnySpace (a : Nat) : Nat := bits a 15 12
/-- Word offset. -/
def lnyOffset (a : Nat) : Nat := bits a 31 16

/-- The words of bytes from a word offset; words past the end are free. -/
def byteWords (s : State) (b : Bytes) (off n : Nat) : List Nat :=
  (List.range n).map (fun k =>
    if 4 * (off + k) < b.length then rd b (4 * (off + k)) 4 else Config.free (0x1D00 + k) s.rng % 2 ^ 32)

/-- Word `w` of the cells. -/
def cellWord (x : Instance) (w : Nat) : Nat := x.cells.getD (w / 4) 0 / 2 ^ (32 * (w % 4)) % 2 ^ 32

/-- Put a word into the cells. -/
def putCellWord (x : Instance) (w v : Nat) : Instance :=
  let c := x.cells.getD (w / 4) 0
  let sh := 2 ^ (32 * (w % 4))
  { x with cells := x.cells.set (w / 4) (c + v % 2 ^ 32 * sh - c / sh % 2 ^ 32 * sh) }

/-- READ on a parked instance (Table 13-8): header and fields have layouts that the spec does not give. -/
def readParked (s : State) (x : Instance) (p : Parked) (addr n : Nat) : State :=
  let off := lnyOffset addr
  match lnySpace addr with
  | 1 => if off + n ≤ 64 then lnyAnswer s lnyOk ((List.range n).map (fun k => cellWord x (off + k))) else lnyFree s n
  | 3 => draw (lnyAnswer s lnyOk (byteWords s p.ev.build off n))
  | 4 => draw (lnyAnswer s lnyOk (byteWords s p.ev.payload off n))
  | _ => lnyFree s n

/-- READ (R384, R386): what a processor's memory holds is free, but for what the debugger wrote while it is halted. -/
def execLanyardRead (r : LnyReq) (s : State) : Out :=
  lanyard 0x9 r s ((r.target == 0xA && 2 ≤ s.life.debug && lnySpace r.addr ≤ 4) ||
      ((lnyProc r.target || r.target == 0xF) && s.life.debug == 3 && lnyReachable r)) fun s =>
    let n := r.count + 1
    if r.target == 0xA then
      match parkedOn s (bits r.addr 11 0) with
      | some (_, x) => match x.parked with
        | some p => readParked s x p r.addr n
        | none => lnyAnswer s lnyFault []
      | none => lnyAnswer s lnyFault []
    else if r.target == 0xF then lnyFree s n
    else
      let at_ := fun k => r.target * 2 ^ 32 + r.addr + k
      let held := s.lanyard.halted.contains r.target
      let ws := (List.range n).map (fun k =>
        let free := Config.free (0x1D00 + k) s.rng % 2 ^ 32
        if held then tblGet s.lanyard.memory (at_ k) free else free)
      draw (lnyAnswer s lnyOk ws)

/-- WRITE (R384, R386): on an instance the cells only; a processor's memory. -/
def execLanyardWrite (r : LnyReq) (s : State) : Out :=
  lanyard 0xA r s ((r.target == 0xA && 2 ≤ s.life.debug && lnySpace r.addr == 1) ||
      (lnyProc r.target && s.life.debug == 3 && lnyReachable r)) fun s =>
    let ws := (List.range r.wdata.length).zip r.wdata
    if r.target == 0xA then
      match parkedOn s (bits r.addr 11 0) with
      | none => lnyAnswer s lnyFault []
      | some (key, x) =>
        if 64 < lnyOffset r.addr + r.wdata.length then lnyAnswer s lnyFault []
        else
          let x := ws.foldl (fun x w => putCellWord x (lnyOffset r.addr + w.1) w.2) x
          lnyAnswer (setInstance s (key / 1024) key x) lnyOk []
    else if s.lanyard.halted.contains r.target then
      let m := ws.foldl (fun m w => tblSet m (r.target * 2 ^ 32 + r.addr + w.1) (w.2 % 2 ^ 32)) s.lanyard.memory
      lnyAnswer (setLanyard s { s.lanyard with memory := m }) lnyOk []
    else lnyAnswer s lnyOk []

/-- LNY_DAT held high for 64 rising edges: the framing is reset, and a response under way is dropped (R383). -/
def execLanyardFramingReset (s : State) : Out := done s (setLanyard s { s.lanyard with resp := none })

/-! ### The TAP (R387, R388) -/

/-- The TAP works in this life-cycle state. -/
def tapEnabled (s : State) : Bool := s.life.lifecycle == lcBlank || s.life.lifecycle == lcTest

/-- The cells of the boundary register, one for each signal ball but the tamper inputs (R387), notes/assumptions/70.md (DESIGN CHOICE):
576 of the lanes, 16 of the corners, and the 121 of the signal band less MESH, SW and MOTION_N (Table 18-12). -/
abbrev boundaryLen : Nat := 700

/-- Exactly `n` levels. -/
def fitBits (n : Nat) (l : List Bool) : List Bool := (l ++ List.replicate n false).take n

/-- The instruction selects the boundary register, not the bypass register. -/
def selectsBoundary (i : TapInstr) : Bool :=
  match i with
  | .samplePreload | .extest | .extestPulse | .extestTrain => true
  | .bypass | .clamp | .highz => false

/-- A scan of the data register that the instruction selects: it captures, the bits shift through it, and the boundary register is
updated. -/
def tapScan (w : Tap) (pins tdi : List Bool) : Tap :=
  if selectsBoundary w.instr then
    let chain := fitBits boundaryLen pins ++ tdi
    let reg := chain.drop tdi.length
    { w with tdo := chain.take tdi.length, boundary := reg, latched := reg }
  else
    let chain := [false] ++ tdi
    { w with tdo := chain.take tdi.length, bypass := chain.getLastD false }

/-- What the balls carry under an instruction: the update stage, nothing at all, or the system's levels. -/
def tapForces (w : Tap) : Option (List (Option Bool)) :=
  match w.instr with
  | .extest | .clamp | .extestPulse | .extestTrain => some ((fitBits boundaryLen w.latched).map some)
  | .highz => some (List.replicate boundaryLen none)
  | .bypass | .samplePreload => none

/-- A TAP operation: Test-Logic-Reset selects BYPASS; an instruction takes effect on the balls, with IEEE 1149.6's tests on the SerDes
lanes, and its scan runs (R387). -/
def runTap (w : Tap) (op : TapOp) : Tap :=
  if op.reset then { w with instr := .bypass, forced := none, acTest := none, tdo := [] }
  else
    let w := { w with instr := op.instr }
    let w := match op.tdi with | some d => tapScan w op.pins d | none => { w with tdo := [] }
    { w with forced := tapForces w
             acTest := if op.instr == .extestPulse || op.instr == .extestTrain then some op.instr else none }

/-- A TAP operation; where the TAP is disabled it holds Test-Logic-Reset (R387, R388). -/
def execTapOperation (op : TapOp) (s : State) : Out :=
  done s (if tapEnabled s then setLanyard s { s.lanyard with tap := runTap s.lanyard.tap op } else s)

/-- A TCK edge with TRST_N high in Production or End of life raises the DEBUG monitor, at most once per 10 ms (R388). -/
def execTapTckInProduction (s : State) : Out :=
  done s (
    let due : Bool := match s.scarecrow.lastTck with
      | some t => t + 10000 ≤ s.now
      | none => true
    if tapEnabled s || !powered s || !due then s
    else debugReport (setScarecrow s { s.scarecrow with lastTck := some s.now }))

end Sys2Proof.Machine
end

