-- ==== Sys2Proof/Machine/StrandEvents.lean ====
section
/-! DEFINITION. What happens on strands (chapter 04): verification, the ordering window's timers, knots and archive
encryption, key agreement, closing, and seals. -/

namespace Sys2Proof.Machine

/-- The strand runs on this unit. -/
def onStrand (s : State) (i : Nat) (k : State → State) : Out := done s (if powered s && acting s && i < 4096 then k s else s)

/-! ### Source tags (R113, R115, R118, R131) -/

/-- The epoch under which a frame of SEQ `q` is verified (R113). -/
def expectedEpoch (st : Strand) (q : Nat) : Nat :=
  match st.rekeySeq with
  | some n => if q ≤ n then (st.epoch + 2 ^ 32 - 1) % 2 ^ 32 else st.epoch
  | none => st.epoch

/-- The source tag of a frame in the window verifies (R115). -/
def tagOk (s : State) (i : Nat) (w : WSlot) : Bool :=
  let st := strandOf s i
  let e := expectedEpoch st w.seq
  match slotKey s (strandSlot i e 0) with
  | some k => hEpoch w.header == e && sourceTag k.material st.scannerFixed w.seq w.header w.payload == fit 16 w.tag
  | none => false

/-- A frame leaves the window and its Bins are free. -/
def removeSlot (s : State) (i : Nat) (w : WSlot) : State :=
  let st := strandOf s i
  let st := { st with window := st.window.filter (fun v => v.seq != w.seq) }
  freeHeld (setStrand s i (watchSlots s.now st)) i (frameBins w.payload)

/-- The Ledger entry of a strand the device closes (Table 10-8). -/
def strandNote (s : State) (i reason : Nat) : State :=
  let st := strandOf s i
  note s 0xF00D (le 2 i ++ le 2 reason ++ le 4 st.epoch ++ le 4 st.segTagFails)

/-- A frame fails its tag (R118); the 64th failure within a segment closes the strand (Table 4-2). -/
def tagFails (s : State) (i : Nat) (w : WSlot) : State :=
  let s := countPort (removeSlot s i w) (ingressOf (strandOf s i)) cTagFail 1
  let s := countStrand s i (fun c => { c with tagFail := sat32 (c.tagFail + 1) })
  let st := strandOf s i
  let s := setStrand s i { st with tagFailed := st.tagFailed ++ [w.seq], segTagFails := st.segTagFails + 1 }
  if (strandOf s i).segTagFails == 64 && isOpen (strandOf s i) then closeNow (strandNote s i 11) i 11 else s

/-- The twin comparison of a tag verification fails (R131). The frame counts in TWIN_FAIL, and neither in TAG_FAIL nor in the
port's RX_TAG_FAIL, notes/assumptions/18.md (DESIGN CHOICE). -/
def twinFails (s : State) (i : Nat) (w : WSlot) : State :=
  let s := countStrand (removeSlot s i w) i (fun c => { c with twin := sat32 (c.twin + 1) })
  let st := strandOf s i
  twinMismatch (setStrand s i { st with twinFailed := st.twinFailed ++ [w.seq] }) (portFloor (ingressOf st)) w.cores true i

/-- A frame is verified: it waits for its content digest, or its turn (R118, R126). -/
def verified (s : State) (i : Nat) (w : WSlot) : State :=
  let st := strandOf s i
  let next := if wantsDigest st.cfg && hType w.header == 1 then SlotState.digesting else .ready
  let win := st.window.map (fun v => if v.seq == w.seq then { v with state := next } else v)
  advance (setStrand s i (watchSlots s.now { st with window := win, highest := max st.highest w.seq })) i

/-- The verification of a frame in the window ends. Only a twinned one has a comparison (R148). -/
def execTagVerifyDone (strand seq : Nat) (twinOk : Bool) (s : State) : Out :=
  onStrand s strand (fun s =>
    match (strandOf s strand).window.find? (fun w => w.seq == seq && w.state == .verifying) with
    | none => s
    | some w =>
      if !twinOk && w.twinned then twinFails s strand w
      else if tagOk s strand w then verified s strand w
      else tagFails s strand w)

/-- A digest of a strand meets a datapath mismatch: it is computed again on another core, and its core, which of those in service
that no other digest runs on the device draws, is withdrawn (R194). -/
def digestAgain (s : State) : State :=
  let cores := idleFlail s false
  let c := cores.getD (ofLe (randomBytes s 1) % cores.length) 0
  withdraw (report (draw s) 0x19 c) (.flail c) 0x19

/-- The content digest of a frame is ready (R126), unless the core's datapaths disagree (R194). Without a core in service it waits. -/
def execContentDigestDone (strand : Nat) (digest : DigestEnd) (s : State) : Out :=
  onStrand s strand (fun s =>
    let st := strandOf s strand
    let due := fun (w : WSlot) => w.seq == digest.seq && w.state == .digesting
    if !st.window.any due || (idleFlail s false).isEmpty then s
    else if !digest.datapathOk then digestAgain s
    else
      let f := fun (w : WSlot) => if due w then { w with state := .ready, digest := sha3 (rebuiltHeader w.header ++ w.payload) } else w
      advance (setStrand s strand { st with window := st.window.map f }) strand)

/-! ### Missing frames (R119, R120) -/

/-- A slot from NEXT on that has been empty for 20 µs below the highest verified SEQ is missing (R119). -/
def markMissing (now : Nat) (st : Strand) : Strand :=
  let late := st.empty.filter (fun e => st.next ≤ e.1 && e.2 + 20 ≤ now && !st.missing.any (fun m => m.1 == e.1))
  { st with missing := st.missing ++ late.map (fun e => (e.1, now)) }

/-- The NAK of every missing slot (R119, Table 3-7). -/
def sendNak (s : State) (i : Nat) : State :=
  let st := markMissing s.now (strandOf s i)
  let bitmap := maskOf ((st.missing.filter (fun m => st.next ≤ m.1)).map (fun m => m.1 - st.next)) 64
  sendHub (setStrand s i { st with lastNak := s.now }) i 4 (le 8 bitmap) (le 8 st.next ++ zeros 4)

/-- The strand's NAK and gap timers run. -/
def timersRun (s : State) (i : Nat) : Bool := (strandOf s i).state == .opened && !switching s

/-- Since when a slot from NEXT on that no NAK has listed has been empty below the highest verified SEQ (R119). -/
def emptySince (st : Strand) (q : Nat) : Option Nat :=
  if st.next ≤ q && !st.missing.any (fun m => m.1 == q) then (st.empty.find? (fun e => e.1 == q)).map (·.2) else none

/-- A slot below the highest verified SEQ, empty since `since`, has been so for 20 µs: it is missing, and a NAK lists it (R119). -/
def slotMissing (s : State) (i since : Nat) : State := sendNak (advanceTo s (since + 20)) i

/-- SLOT_MISSING. -/
def execSlotMissing (strand seq : Nat) (s : State) : Out :=
  onStrand s strand (fun s =>
    match emptySince (strandOf s strand) seq with
    | some t => if timersRun s strand then slotMissing s strand t else s
    | none => s)

/-- While a slot stays missing the NAK is repeated, 1 ms after the latest (R119). -/
def execNakRepeat (strand : Nat) (s : State) : Out :=
  onStrand s strand (fun s =>
    let st := strandOf s strand
    if timersRun s strand && st.missing.any (fun m => st.next ≤ m.1) then sendNak (advanceTo s (st.lastNak + 1000)) strand
    else s)

/-- The run of consecutive missing slots from `q` whose first NAK is at least 5 ms old (R120). -/
def missingRun (now : Nat) (missing : List (Nat × Nat)) : Nat → Nat → Nat
  | 0, _ => 0
  | fuel + 1, q =>
    match missing.find? (fun m => m.1 == q) with
    | some m => if m.2 + 5000 ≤ now then 1 + missingRun now missing fuel (q + 1) else 0
    | none => 0

/-- Why the frames of a run are missing (Table 4-7). -/
def gapReason (st : Strand) (q n : Nat) : Nat :=
  let within := fun k => decide (q ≤ k) && decide (k < q + n)
  if st.tagFailed.any within then 2 else if st.twinFailed.any within then 3 else 1

/-- A GAP knot covers the run from NEXT, and NEXT moves past it (R120). -/
def buildGap (s : State) (i : Nat) : State :=
  let st := strandOf s i
  let n := missingRun s.now st.missing 64 st.next
  if n == 0 then s
  else
    let k := { bareKnot s i kGap st.next (n + 65536 * gapReason st st.next n) with epoch := expectedEpoch st st.next }
    let k := { k with flags := classicalFlag st k.epoch }
    let st := { st with next := st.next + n, gapRuns := st.gapRuns ++ [(st.next, n)]
                        missing := st.missing.filter (fun m => st.next + n ≤ m.1)
                        counts := { st.counts with gaps := sat32 (st.counts.gaps + 1) } }
    advance (pushKnot (setStrand s i st) i { knot := k }) i

/-- NEXT has been missing for 5 ms since the first NAK that listed it (R120). -/
def execGapTimeout (strand : Nat) (s : State) : Out :=
  onStrand s strand (fun s =>
    let st := strandOf s strand
    match st.missing.find? (fun m => m.1 == st.next) with
    | some m => if timersRun s strand then buildGap (advanceTo s (m.2 + 5000)) strand else s
    | none => s)

/-- The strand PAUSE is repeated every 500 µs while the excess lasts, and during Freeze (R90, Table 4-12). -/
def execStrandPauseRepeat (strand : Nat) (s : State) : Out :=
  onStrand s strand (fun s =>
    let st := strandOf s strand
    if isKeyed st && st.pausing && (overLimit s strand || frozen s) then
      sendPause (advanceTo s (st.lastPause + 500)) strand 1000
    else s)

/-! ### Knots and archive encryption (R17, R123, R127, R131) -/

/-- The digest of the knot being built is computed, unless the core's datapaths disagree (R194). Without a core in service it waits. -/
def execKnotDigestDone (strand : Nat) (datapathOk : Bool) (s : State) : Out :=
  onStrand s strand (fun s =>
    let st := strandOf s strand
    match st.building with
    | none => s
    | some r =>
      if r.digested || (idleFlail s false).isEmpty then s
      else if datapathOk then tryChain (setStrand s strand { st with building := some { r with digested := true } }) strand
      else digestAgain s)

/-- The archive ciphertext and tag of a frame (R127). -/
def archiveSeal (r : Release) : Bytes × Bytes :=
  let aad := egressHeader r.knot r.iv ++ knotBytes r.knot
  let c := fit r.payload.length (Config.gcmCipher r.key r.iv r.payload)
  (c, fit 16 (Config.gcmTag r.key r.iv aad c))

/-- The frame is withheld: it is never sent, its Bins are free, and a WITHHELD knot for its SEQ is built (R131). -/
def withhold (s : State) (i : Nat) (r : Release) : State :=
  let k := { bareKnot s i kWithheld r.knot.seq 0 with epoch := r.knot.epoch, flags := bits r.knot.flags 4 4 * 16 }
  let k := { k with prev := r.knot.prev, flags := k.flags + (if s.twin then 0 else 1) }
  let st := strandOf s i
  freeHeld (setStrand s i { st with building := some { knot := k, ack := r.ack } }) i r.held

/-- The next invocation value for a second encryption, while the slot still holds the key the frame loaded (R131). A slot
that has been rewritten or erased since has none: the frame is withheld, notes/assumptions/18.md (DESIGN CHOICE). -/
def secondIv (s : State) (r : Release) : Option (Bytes × State) :=
  match tblFind s.keys r.keyIndex with
  | some k => if k.material == r.key && !retired k then some (archiveIv s r.keyIndex) else none
  | none => none

/-- The archive encryption of the frame being built ends (R127, R131). -/
def archiveDone (s : State) (i : Nat) (r : Release) (twinOk : Bool) : State :=
  let st := strandOf s i
  if twinOk || !r.twinned then
    let (c, t) := archiveSeal r
    tryChain (setStrand s i { st with building := some { r with enc := .sealed c t } }) i
  else
    let s := countStrand s i (fun c => { c with twin := sat32 (c.twin + 1) })
    let s := twinMismatch s (portFloor (ingressOf st)) r.cores true i
    match r.enc, secondIv s r with
    | .pending, some (iv, s) =>
      let (cores, s) := captureTask s i r.key
      setStrand s i { strandOf s i with building := some { r with enc := .retry, iv, twinned := s.twin, cores } }
    | _, _ => withhold s i r

/-- ARCHIVE_ENCRYPT_DONE. -/
def execArchiveEncryptDone (strand : Nat) (twinOk : Bool) (s : State) : Out :=
  onStrand s strand (fun s =>
    match (strandOf s strand).building with
    | some r => if r.enc == .pending || r.enc == .retry then archiveDone s strand r twinOk else s
    | none => s)

/-! ### Key agreement (R107–R112) -/

/-- What the hub's half of a key agreement gives: the response body up to CERT, the two secrets, CLASSICAL. -/
structure Agreement where
  body : Bytes
  z : Bytes
  classical : Bool

/-- The hub answers a request for an epoch (R108–R110): nonce, ephemeral key and encapsulation are three draws. -/
def agreeOn (s : State) (i epoch : Nat) (b cert : Bytes) : Agreement × State :=
  let cl := reqKemLen b == 0 || s.ident.optionN
  let nonce := randomBytes s 32
  let s := draw s
  let e := fit 32 (Config.keyGen 0x10 1 s.rng)
  let s := draw s
  let kem := Config.encaps (le 2 768) (reqKem b) s.rng
  let ct := if cl then [] else fit 1088 kem.1
  let zk := if cl then [] else fit 32 kem.2
  let body := le 2 i ++ le 2 (ofBool cl) ++ fit 4 s.ident.fixedField ++ le 4 epoch ++ zeros 4 ++ nonce ++
    fit 65 (Config.publicHalf 0x10 1 e) ++ zeros 3 ++ le 2 ct.length ++ le 2 cert.length ++ ct ++ cert
  ({ body, z := fit 32 ((Config.agree 0x0405 (le 2 1) e (reqEcdh b)).getD []) ++ zk, classical := cl }, draw s)

/-- OKM of an epoch (R110). -/
def okmOf (z th : Bytes) (i epoch : Nat) : Bytes := shake256 64 (ascii "OPM-STRAND" ++ z ++ th ++ le 2 i ++ le 4 epoch)

/-- The epoch after `e`. -/
def nextEpoch (e : Nat) : Nat := (e + 1) % 2 ^ 32

/-- What was on its way when the scanner restarted leaves without an ACK. -/
def silence (st : Strand) : Strand :=
  let f := fun (r : Release) => { r with ack := false }
  { st with
    todo := st.todo.map f, building := st.building.map f
    gate := st.gate.map (fun g => match g with | .knot r => .knot (f r) | x => x) }

/-- An open strand whose scanner has restarted is closed at once (R112): CLOSE knot, then its final seal; the banks are
erased. -/
def reopen (s : State) (i : Nat) : State :=
  let s := discardWindow (endChip s i 10) i
  let s := pushKnot s i { knot := bareKnot s i kClose ((strandOf s i).next - 1) 6, ack := false }
  let s := eraseBanks s i
  setStrand s i (silence (strandOf s i))

/-- An OPEN_REQ is accepted (R108, R110, R111): keys of the new epoch, OPEN_RESP with the signature that the Mill has made,
KEYING. -/
def acceptOpen (s : State) (i slot : Nat) (src b : Bytes) : State :=
  let was := (strandOf s i).state == .opened
  let s := if was then reopen s i else s
  let st := strandOf s i
  let epoch := nextEpoch st.epoch
  let (a, s) := agreeOn s i epoch b s.sealKeys.cert
  let (sig, s) := ownSignatures s (.opening i) (b ++ a.body) false
  let resp := a.body ++ sig
  let s := ownEnds s (.opening i)
  let th := sha3 (b ++ resp)
  let s := installKeys s i epoch (okmOf a.z th i epoch)
  let st := strandOf s i
  let st := { st with
    epoch, classical := a.classical, prevClassical := st.classical, scannerFixed := reqFixed b
    hubFixed := fit 4 s.ident.fixedField, peerMac := src, th, certDigest := sha3 (reqCert b), next := 1, highest := 0
    window := [], missing := [], empty := [], tagFailed := [], twinFailed := [], gapRuns := [], gapKnots := [], acked := none
    segTagFails := 0, keyingEnd := s.now + 100000, rekeySeq := none, asked := false, nearAsked := false
    closeEnd := none, heldFor := 0, closeAtThaw := false, hubWait := [], pausing := false, reason := 0 }
  let s := sendUnkeyed (setStrand s i st) slot (scannerAddr st) i epoch 2 resp
  pauseCheck (changeState s i .keying (if was then 6 else 2)) i

/-- The Mill has done what the Hand asked it for the request (R111, R224). -/
def openAsked (s : State) (i slot : Nat) (src b : Bytes) : Bool := (openOps s i slot src b).isEmpty || ownReady s (.agree i)

/-- OPEN_REQ: the next UNKEYED request that waits for strand `i`'s Hand (R106, R111). A malformed one is discarded; one whose
checks and agreement the Mill has not done waits; one that passes waits until the Mill has signed its OPEN_RESP and the release
check has passed (R219, R224). -/
def openNext (s : State) (i : Nat) : State :=
  match nextRequest (strandOf s i) with
  | none => s
  | some (slot, src, b) =>
    let t := setStrand s i { strandOf s i with ctrl := (strandOf s i).ctrl.erase (.unkeyed slot src b) }
    if !reqFormed i 64 b then t
    else if !openAsked s i slot src b then s
    else match refusal s i slot src b with
    | some r => sendUnkeyed (ownStops t (.agree i)) slot src i (strandOf s i).epoch 0x000C (le 2 r ++ zeros 2)
    | none => if ownReady s (.opening i) then acceptOpen (ownStops t (.agree i)) i slot src b else s

/-- An OPEN_REQ is taken up by a Hand that serves; in an activation pause and a switchover it waits. -/
def execOpenReq (strand : Nat) (s : State) : Out :=
  onStrand s strand (fun s => if handsTake s && !strandHeld s strand then openNext s strand else s)

/-- A confirmation carries TH (R109). -/
def confirms (st : Strand) (w : WSlot) : Bool := (plainMsg w).isSome && ctrlBody w == fit 32 st.th && w.payload.length == 36

/-- The strand opens (Table 4-2): its counters, segments and timers begin, and the OPEN knot is built. -/
def openStrand (s : State) (i : Nat) (w : WSlot) : State :=
  let st := strandOf s i
  let k := { frameKnot st i kOpen 0 w st.certDigest with sourceTag := st.th.take 16 }
  let st := { st with
    counts := {}, openTick := s.now, boundary := s.now, nextBoundary := s.now + st.cfg.segPeriod, sealAt := s.now
    epochStart := s.now, lastSealTick := 0, segTagFails := 0 }
  advance (changeState (knotFrame (setStrand s i st) i w k) i .opened 2) i

/-- OPEN_CONFIRM at SEQ 1 of a strand in KEYING (Table 4-2); on an open strand it is a CTRL frame like any other. -/
def execOpenConfirm (strand : Nat) (s : State) : Out :=
  onStrand s strand (fun s =>
    let st := strandOf s strand
    if st.state == .keying then
      match nextReady st with
      | some w =>
        if handFor s strand && hType w.header == 2 && msgOf w.payload == 3 && confirms st w then openStrand s strand w else s
      | none => s
    else onCtrl s strand 3 (fun _ _ => false) (fun s _ => s))

/-- 100 ms after OPEN_RESP without a valid OPEN_CONFIRM (Table 4-2). -/
def execKeyingTimeout (strand : Nat) (s : State) : Out :=
  onStrand s strand (fun s =>
    let st := strandOf s strand
    if st.state == .keying then
      let s := discardWindow (advanceTo s st.keyingEnd) strand
      changeState (eraseBank s strand st.epoch) strand .armed 3
    else s)

/-! ### Rekeying (R113) -/

/-- REKEY_REQ, frame n: REKEY_RESP under the old reverse key, then the new epoch (R113). -/
def rekey (i : Nat) (s : State) (w : WSlot) : State :=
  let b := ctrlBody w
  let s := knotCtrl (ownStops s (.rekey i)) i w
  let old := (strandOf s i).epoch
  let epoch := nextEpoch old
  let (a, s) := agreeOn s i epoch b []
  let th := sha3 (b ++ a.body)
  let s := installKeys s i epoch (okmOf a.z th i epoch)
  let s := hubFrame s i { kind := 2, epoch := old, payload := ctrlPayload 5 a.body, aux := zeros 12 }
  let st := strandOf s i
  setStrand s i { st with
    epoch, prevClassical := st.classical, classical := a.classical, scannerFixed := reqFixed b, th, rekeySeq := some w.seq
    rekeyEnd := s.now + 100000, asked := false, nearAsked := false, epochStart := s.now }

/-- The REKEY_REQ at NEXT waits for the Mill to agree (R113, R224). -/
def rekeyWaits (s : State) (i : Nat) : Bool := (ctrlAtNext s i).any (rekeyAsked s i) && !ownReady s (.rekey i)

/-- REKEY_REQ. -/
def execRekeyReq (strand : Nat) (s : State) : Out :=
  onStrand s strand (fun s => if rekeyWaits s strand then s else onCtrl s strand 4 (rekeyValid strand) (rekey strand))

/-- REKEY_CONFIRM is frame n + 1 and carries TH. -/
def rekeyConfirms (i : Nat) (s : State) (w : WSlot) : Bool :=
  (strandOf s i).rekeySeq == some (w.seq - 1) && 1 ≤ w.seq && confirms (strandOf s i) w

/-- The REKEY knot, after which the old bank is erased (R113). Instances of bound tables get a STRAND event (Table 9-13): the state
is OPEN before and after, and its REASON, for which Table 4-14 has none, is 0, notes/assumptions/34.md (DESIGN CHOICE). -/
def rekeyDone (i : Nat) (s : State) (w : WSlot) : State :=
  let st := strandOf s i
  let s := knotFrame s i w (frameKnot st i kRekey 0 w st.th)
  let s := eraseBank s i (st.epoch + 1)
  let ev := if tblHas s.bindings i then [CtrlEvent.strandChange 3 3 0] else []
  let st := strandOf s i
  setStrand s i { st with rekeySeq := none, epochStart := s.now, ctrl := st.ctrl ++ ev }

/-- REKEY_CONFIRM. -/
def execRekeyConfirm (strand : Nat) (s : State) : Out :=
  onStrand s strand (fun s => onCtrl s strand 6 (rekeyConfirms strand) (rekeyDone strand))

/-- REKEY_CONFIRM has not been knotted 100 ms after REKEY_RESP (R113). -/
def execRekeyConfirmTimeout (strand : Nat) (s : State) : Out :=
  onStrand s strand (fun s =>
    let st := strandOf s strand
    if st.state == .opened && st.rekeySeq.isSome && handFor s strand then closeNow (advanceTo s st.rekeyEnd) strand 3 else s)

/-- The epoch has lasted REKEY_S seconds: REKEY_ASK, once (R113). -/
def execRekeyInterval (strand : Nat) (s : State) : Out :=
  onStrand s strand (fun s =>
    let st := strandOf s strand
    if st.state == .opened && st.cfg.rekeyS != 0 && !st.asked && st.rekeySeq.isNone && handFor s strand then
      let s := advanceTo s (st.epochStart + 1000000 * st.cfg.rekeyS)
      sendMsg (setStrand s strand { strandOf s strand with asked := true }) strand 7 []
    else s)

/-! ### Closing and other messages (R106, R114) -/

/-- CLOSE_REQ closes the strand with its own CLOSE knot: reason 4, or 5 where it answers CLOSE_ASK (R114). -/
def scannerCloses (i : Nat) (s : State) (w : WSlot) : State :=
  let st := strandOf s i
  let reason := if st.closeEnd.isSome then 5 else 4
  let k := frameKnot st i kClose reason w (zeros 32)
  let s := freeHeld (setStrand s i (passNext st)) i (frameBins w.payload)
  closeWith s i k true reason

/-- CLOSE_REQ. -/
def execCloseReq (strand : Nat) (s : State) : Out :=
  onStrand s strand (fun s => onCtrl s strand 8 (fun _ w => w.payload.length == 4) (scannerCloses strand))

/-- 100 ms have passed since CLOSE_ASK without CLOSE_REQ (R114). -/
def execCloseGraceTimeout (strand : Nat) (s : State) : Out :=
  onStrand s strand (fun s =>
    let st := strandOf s strand
    match st.closeEnd with
    | some t => if st.state == .opened && handFor s strand then closeNow (advanceTo s t) strand 5 else s
    | none => s)

/-- The MSG lies in the range of a table bound to the strand that receives events (R260, R265). -/
def boundMsg (s : State) (i msg : Nat) : Bool := (bindingFor s i msg).isSome

/-- The MSG has a meaning from the scanner on strand `i` (Table 4-3, R265). -/
def knownMsg (s : State) (i msg : Nat) : Bool :=
  [0x0003, 0x0004, 0x0006, 0x0008, 0x0010, 0x0012, 0x0013].contains msg || boundMsg s i msg

/-- A keyed CTRL frame with any other MSG: a CTRL knot, counted in UNKNOWN_CTRL, otherwise ignored (R106). -/
def execUnknownCtrl (strand : Nat) (s : State) : Out :=
  onStrand s strand (fun s =>
    match ctrlAtNext s strand with
    | some w =>
      if knownMsg s strand (msgOf w.payload) then s
      else
        let s := countStrand (knotCtrl s strand w) strand (fun c => { c with unknownCtrl := sat32 (c.unknownCtrl + 1) })
        advance s strand
    | none => s)

/-! ### Seals (R132–R136) -/

/-- The braid of the strand goes on: it is open, or closes. -/
def braids (st : Strand) : Bool := isOpen st || st.state == .closing

/-- A segment boundary (R132): the head is sealed if it has changed, and tag failures count anew (Table 4-2). -/
def execSegmentBoundary (strand : Nat) (s : State) : Out :=
  onStrand s strand (fun s =>
    let st := strandOf s strand
    if braids st && stewardServes s then
      let t := st.nextBoundary
      let s := advanceTo s t
      let s := if st.sinceSeal != 0 then makeSeal s strand 1 t else s
      setStrand s strand { strandOf s strand with boundary := t, nextBoundary := t + st.cfg.segPeriod, segTagFails := 0 }
    else s)

/-- IDLE_SEAL_S seconds have passed without a seal (R132). -/
def execIdleSealDue (strand : Nat) (s : State) : Out :=
  onStrand s strand (fun s =>
    let st := strandOf s strand
    if braids st && s.sealIdle != 0 && stewardServes s then
      let s := advanceTo s (st.sealAt + 1000000 * s.sealIdle)
      makeSeal s strand 5 s.now
    else s)

/-- A seal is signed and checked: its record of 3,584 bytes (Table 4-10, R134) goes to the egress gate and to the subscribers (R136,
R143). -/
def sealSigned (s : State) (i : Nat) (x : Seal) (rest : List Seal) : State :=
  let (sigs, s) := ownSignatures s (.seal i) (ascii "OPM-SEAL" ++ sealPortion x) (!bit x.flags 0)
  let rec_ := fit 3584 (sealPortion x ++ sigs)
  let s := ownEnds s (.seal i)
  let late := x.kind == 1 && x.tick + 5000 < s.now && !x.waited
  let st := strandOf s i
  let c := { st.counts with seals := sat (2 ^ 64 - 1) (st.counts.seals + 1)
                            sealLate := if late then sat32 (st.counts.sealLate + 1) else st.counts.sealLate }
  let st := { st with sealQ := rest, lastSealTick := x.tick, counts := c, gate := st.gate ++ [.sealed x rec_] }
  let s := setStrand s i st
  let inl := le 2 i ++ le 1 x.kind ++ zeros 1 ++ le 8 x.sealNo ++ le 8 x.lastSeq
  drain (postStrand s i 1 { type := 0x0011, record := rec_, inline := inl }) i

/-- The signatures of a strand's oldest seal, which stones are making, are made and checked; after a failed check the one that
failed is made again on another pair of stones (R220). In an activation pause seals wait (Table 4-12). -/
def execSealSignDone (strand : Nat) (checkOk : Bool) (s : State) : Out :=
  onStrand s strand (fun s =>
    match (strandOf s strand).sealQ with
    | [] => s
    | x :: rest =>
      if sheafPaused s || !stewardServes s || !ownRuns s (.seal strand) then s
      else if checkOk then startJobs (sealSigned (ownTime s (.seal strand)) strand x rest)
      else ownFails s (.seal strand))

/-! ### Durable records (R140) -/

/-- The strand records are written to the pair journal (R140). -/
def persistStrands (s : State) : State :=
  { s with durable := (s.strands.filter (fun e => e.2.state != .unused)).map (fun e => (e.1, copyOf e.2)) }

/-- Once per millisecond, whether paired or Solo; a unit whose strands are not in force yet leaves its records alone. -/
def execStrandRecordPersist (s : State) : Out :=
  done s (if powered s && s.update.mbxReady && (acting s || s.pair.role == .standby) then persistStrands s else s)

end Sys2Proof.Machine
end

