-- ==== Sys2Proof/Machine/Sheaf.lean ====
section
/-! DEFINITION. The sheaf commands (R261–R264) and the events of sheaf instances (R265, R273, R279). -/

namespace Sys2Proof.Machine

/-! ### SHEAF_LOAD (R262, R263) -/

/-- SHEAF_LOAD (0x0701). -/
def specSheafLoad : CmdSpec :=
  { code := 0x0701, access := .q, pf := true, deferred := true, region := fillingAll, active := true }

/-- SHEAF_LOAD: the operation starts; its file comes by DMA. -/
def execSheafLoad (q : MbxReq) (file : Option Bytes) (s : State) : Out :=
  runMbx specSheafLoad (fun q s => withFormat q 16 [(12, 4)] s { accept s [] with file }) q s

/-- The OP_DONE record of SHEAF_LOAD (Table 9-4). -/
def loadRecord (n step section_ worst offset : Nat) : Bytes :=
  le 1 n ++ zeros 1 ++ le 2 step ++ le 2 section_ ++ le 2 worst ++ le 4 offset ++ zeros 4

/-- A failed step of R262: status, DETAIL, step, directory entry, file offset. -/
abbrev LoadFault := Nat × Nat × Nat × Nat × Nat

/-- A step that fails as a whole. -/
def wholeFault (status detail step : Nat) : LoadFault := (status, detail, step, 0xFFFF, 0)

/-- Step 4 of R262: the SIGNER is set and the signatures verify under its keys (R258), which need the bit VERIFY (R289); an N part
refuses SIG_ALG 2. -/
def sheafSigned (s : State) (f : SheafFile) : Option LoadFault :=
  if f.sigAlg == 2 && s.ident.optionN then some (wholeFault eState (deviceStatus s) 4)
  else
    let pub := fun (h : Nat) => (verifyKey s h).bind (publicOf s)
    let barred := fun (h : Nat) => (ownKey s h).isSome && (verifyKey s h).isNone
    let ok : Bool := match tblFind s.signers f.signer with
      | none => false
      | some g =>
        match pub g.ecdsa with
        | none => false
        | some e =>
          verifyP384 e f.signed f.ecdsa &&
          (f.sigAlg != 2 || (g.mldsa != 0 && match pub g.mldsa with | some m => verifyMldsa65 m f.signed f.mldsa | none => false))
    if (tblFind s.signers f.signer).any (fun g => barred g.ecdsa || (f.sigAlg == 2 && barred g.mldsa)) then
      some (wholeFault eDenied 0 4)
    else if ok then none else some (wholeFault eAuth 0 4)

/-- The loaded sheaf with a name. -/
def sheafNamed (s : State) (name : Bytes) : Option (Nat × Sheaf) := s.sheaves.find? (fun e => e.2.name == name && !e.2.unreadable)

/-- Steps 5 and 6 of R262. -/
def sheafAdmitted (s : State) (f : SheafFile) : Option LoadFault :=
  if f.format == 7 && s.scarecrow.compat == 0 then some (wholeFault eState (deviceStatus s) 5)
  else match sheafNamed s f.name with
    | none => none
    | some (_, x) =>
      if x.signer != f.signer then some (wholeFault eDenied 0 6)
      else if f.version ≤ x.version then some (wholeFault eTooLate 0 6)
      else none

/-- The curves that stay when a sheaf is loaded: all but those of the sheaf it replaces. -/
def otherCurves (s : State) (old : Option (Nat × Sheaf)) : Tbl Curve :=
  match old with
  | some (n, _) => tblDrop s.curves (fun _ c => c.origin == n)
  | none => s.curves

/-- A section at fault. DETAIL of E_FORMAT is the file offset. DESIGN CHOICE, notes/assumptions/44.md. -/
def sectionFault (step : Nat) (x : Nat × Nat × Nat) : LoadFault :=
  (x.1, if x.1 == eFormat then x.2.2 else 0, step, x.2.1, x.2.2)

/-- The checks of R262 on a file that has been read. -/
def checkSheaf (s : State) (b : Bytes) (len : Nat) : Except LoadFault (SheafFile × Sections × List Curve) :=
  match openFile b len with
  | .error x => .error (sectionFault 3 (eFormat, x))
  | .ok f =>
    match (sheafSigned s f).orElse (fun _ => sheafAdmitted s f) with
    | some e => .error e
    | none =>
      match checkTables b f with
      | .error x => .error (sectionFault 7 x)
      | .ok t =>
        match checkCurves b f with
        | .error x => .error (sectionFault 8 x)
        | .ok cs =>
          if 64 < (otherCurves s (sheafNamed s f.name)).length + 5 + cs.length then .error (wholeFault eLimit 64 8)
          else .ok (f, t, cs)

/-- IDs for a sheaf's curves: the one the same index had before, else the lowest free from 0x0110 (R263, R276). -/
def curveIds : List Nat → List Nat → List Curve → List Nat
  | _, _, [] => []
  | used, old, _ :: r =>
    let id := match old with
      | i :: _ => i
      | [] => ((List.range 240).map (· + 0x110)).find? (fun i => !used.contains i) |>.getD 0x1FF
    id :: curveIds (id :: used) old.tail r

/-- The number a loaded sheaf takes: that of the one it replaces, else the lowest free (R262, R263). -/
def sheafNumber (s : State) (old : Option (Nat × Sheaf)) : Nat :=
  match old with
  | some (n, _) => n
  | none => (firstFrom 0 64 (fun n => !tblHas s.sheaves n)).getD 63

/-- Instances of a sheaf that satisfy `p` on their strand and table. -/
def instancesOf (s : State) (n : Nat) (p : Nat → Nat → Bool) : List Nat :=
  (tblKeys s.instances).filter (fun k => k % 1024 / 16 == n && p (k / 1024) (k % 16))

/-- The commit of R262: the file's content, its curves and their IDs, and the instances of a sheaf it replaces. -/
def commitSheaf (s : State) (b : Bytes) (f : SheafFile) (t : Sections) (cs : List Curve) : Nat × State :=
  let old := sheafNamed s f.name
  let n := sheafNumber s old
  let rest := otherCurves s old
  let oldIds := (old.map (fun e => e.2.curves)).getD []
  let ids := curveIds (tblKeys rest ++ oldIds) oldIds cs
  let mine := (cs.zip ids).map (fun e => { e.1 with id := e.2, origin := n })
  let x : Sheaf := { name := f.name, version := f.version, signer := f.signer, format := f.format, total := f.total
                     digest := sha3 b, tables := t.tables, formats := t.formats, curves := ids, rules := t.rules, curveTables := mine }
  let s := (instancesOf s n (fun _ _ => true)).foldl retireInstance s
  let s := dropBreakpoints { s with sheaves := tblSet s.sheaves n x, curves := mine.foldl (fun t c => tblSet t c.id c) rest } n
  (n, share s (.sheaf n (some x) mine))

/-- Step 1 of R262. -/
def loadLimits (s : State) (len : Nat) : Option LoadFault :=
  if 262144 < len then some (wholeFault eLength 40 1)
  else if 64 ≤ s.sheaves.length then some (wholeFault eLimit 64 1)
  else if 4194304 < (s.sheaves.map (fun e => e.2.total)).sum + len then some (wholeFault eLimit 4194304 1)
  else none

/-- SHEAF_LOAD fails at a step and stores nothing; `worst` is the largest W computed by then. -/
def loadFails (s : State) (fn : Nat) (o : DefOp) (e : LoadFault) (worst : Nat) : State :=
  endOp s fn o e.1 e.2.1 (loadRecord 0 e.2.2.1 e.2.2.2.1 worst e.2.2.2.2)

/-- The largest W that has been computed when the checks of a file end with the fault `e`: from step 7 on (R262, Table 9-4). -/
def faultWorst (b : Bytes) (len : Nat) (e : LoadFault) : Nat :=
  match openFile b len with
  | .ok f => if 7 ≤ e.2.2.1 then worstUpTo b f e.2.2.2.1 else 0
  | .error _ => 0

/-- The end of SHEAF_LOAD. -/
def endSheafLoad (s : State) (fn : Nat) (o : DefOp) : State :=
  let len := rd o.payload 8 4
  match loadLimits s len with
  | some e => loadFails s fn o e 0
  | none =>
    match o.file with
    | none => loadFails s fn o (wholeFault eDma 0 2) 0
    | some b =>
      let b := fit len b
      match checkSheaf s b len with
      | .error e => loadFails s fn o e (faultWorst b len e)
      | .ok (f, t, cs) =>
        let (n, s) := commitSheaf s b f t cs
        endOp s fn o sOk 0 (loadRecord n 0 0xFFFF t.worst 0)

/-! ### SHEAF_LIST -/

/-- SHEAF_LIST (0x0702). -/
def specSheafList : CmdSpec := { code := 0x0702, inFreeze := fun _ => true }

/-- Strands that a sheaf is bound to, counted once for each binding. -/
def sheafBindings (s : State) (n : Nat) : Nat :=
  (s.bindings.map (fun e => (e.2.filter (fun b => b.sheaf == n)).length)).sum

/-- An entry of SHEAF_LIST (Table 9-4). -/
def sheafEntry (s : State) (n : Nat) (x : Sheaf) : Bytes :=
  le 1 n ++ le 1 x.signer ++ le 1 x.tables.length ++ le 1 x.formats.length ++ le 1 x.curves.length ++ le 1 x.rules.length ++
  le 2 (sheafBindings s n) ++ le 4 x.version ++ le 4 x.total ++ fit 16 x.name ++ fit 32 x.digest

/-- SHEAF_LIST's effect. -/
def bodySheafList (q : MbxReq) (s : State) : Reply :=
  withFormat q 4 [(1, 3)] s <|
    let l := s.sheaves.filter (fun e => fld q 0 1 ≤ e.1 && !e.2.unreadable)
    let es := l.take 32
    accept s (le 2 es.length ++ le 2 (ofBool (32 < l.length)) ++ es.flatMap (fun e => sheafEntry s e.1 e.2))

/-- SHEAF_LIST. -/
def execSheafList (q : MbxReq) (s : State) : Out := runMbx specSheafList bodySheafList q s

/-! ### SHEAF_REMOVE and SHEAF_BIND (R264) -/

/-- The bindings of a strand become `bs`. -/
def setBindings (s : State) (i : Nat) (bs : List Binding) : State :=
  share { s with bindings := if bs.isEmpty then tblDel s.bindings i else tblSet s.bindings i bs } (.bindings i bs)

/-- The bindings of strand `i` that satisfy `p` go, and their instances end (Table 9-13). -/
def unbindOn (s : State) (i : Nat) (p : Binding → Bool) : State :=
  let bs := bindingsOf s i
  if !bs.any p then s
  else
    let gone := bs.filter p
    gone.foldl (fun s b => retireInstance s (instKey i b.sheaf b.table)) (setBindings s i (bs.filter (fun b => !p b)))

/-- SHEAF_REMOVE (0x0703): a bound sheaf needs FORCE. -/
def specSheafRemove : CmdSpec :=
  { code := 0x0703, access := .q, pf := true, region := fillingAll, active := true, flags := 1
    modes := fun q s => if q.payload.length == 4 && q.flags == 0 && sheafBindings s (fld q 0 1) != 0 then some (deviceStatus s) else none }

/-- A sheaf goes with its bindings and its curves. -/
def removeSheaf (s : State) (n : Nat) : State :=
  let s := (tblKeys s.bindings).foldl (fun s i => unbindOn s i (fun b => b.sheaf == n)) s
  share { s with sheaves := tblDel s.sheaves n, curves := tblDrop s.curves (fun _ c => c.origin == n) } (.sheaf n none [])

/-- SHEAF_REMOVE's effect; an absent sheaf is E_FORMAT, as for SHEAF_BIND. -/
def bodySheafRemove (q : MbxReq) (s : State) : Reply :=
  withFormat q 4 [(1, 3)] s <|
    if !tblHas s.sheaves (fld q 0 1) then reject s eFormat 32 else accept (removeSheaf s (fld q 0 1)) []

/-- SHEAF_REMOVE. -/
def execSheafRemove (q : MbxReq) (s : State) : Out := runMbx specSheafRemove bodySheafRemove q s

/-- SHEAF_BIND (0x0704). -/
def specSheafBind : CmdSpec := { code := 0x0704, pf := true, region := fillingAll, active := true }

/-- The MSG range of a loaded table. -/
def msgRange (s : State) (sheaf table : Nat) : Option (Nat × Nat) :=
  ((tblFind s.sheaves sheaf).bind (fun x => x.tables[table]?)).map (fun t => (t.msgFirst, t.msgLast))

/-- Two MSG ranges overlap. -/
def overlap (a b : Option (Nat × Nat)) : Bool :=
  match a, b with
  | some x, some y => x.1 ≤ y.2 && y.1 ≤ x.2
  | _, _ => false

/-- Strand `i` cannot take a further binding (R264). -/
def bindRefused (s : State) (b : Binding) (i : Nat) : Bool :=
  let bs := bindingsOf s i
  4 ≤ bs.length || bs.any (fun c => overlap (msgRange s c.sheaf c.table) (msgRange s b.sheaf b.table))

/-- SHEAF_BIND's effect. -/
def bodySheafBind (q : MbxReq) (s : State) : Reply :=
  withFormat q 12 [(9, 3)] s <|
    let first := fld q 0 2
    let last := fld q 2 2
    let b : Binding := { sheaf := fld q 4 1, table := fld q 5 1, client := fld q 7 1, ring := fld q 8 1 }
    let op := fld q 6 1
    let strands := (List.range (last + 1 - first)).map (· + first)
    match firstField [(4096 ≤ first || last < first, 32), (4096 ≤ last, 34), (if op == 2 then !tblHas s.sheaves b.sheaf else (sheafOf s b.sheaf).isNone, 36),
        ((msgRange s b.sheaf b.table).isNone, 37), (op != 1 && op != 2, 38), (64 ≤ b.client, 39), (4 ≤ b.ring, 40)] with
    | some o => reject s eFormat o
    | none =>
      if op == 2 then
        accept (strands.foldl (fun s i => unbindOn s i (fun c => c.sheaf == b.sheaf && c.table == b.table)) s) []
      else if strands.any (bindRefused s b) then reject s eState (deviceStatus s)
      else accept (strands.foldl (fun s i => setBindings s i (bindingsOf s i ++ [b])) s) []

/-- SHEAF_BIND. -/
def execSheafBind (q : MbxReq) (s : State) : Out := runMbx specSheafBind bodySheafBind q s

/-! ### SHEAF_SIGNER_SET (R261) -/

/-- SHEAF_SIGNER_SET (0x0705): an ML-DSA key on an N part is E_STATE. -/
def specSheafSignerSet : CmdSpec :=
  { code := 0x0705, access := .q, pf := true, region := fillingAll, active := true
    modes := fun q s => if fld q 8 4 != 0 && s.ident.optionN then some (deviceStatus s) else none }

/-- What is wrong with a signer's key: absent, or not a public-class key of the type and SET. -/
def signerKeyFault (s : State) (h type set : Nat) : Option (Nat × Nat) :=
  match keyAt s h with
  | .error e => some e
  | .ok k =>
    if k.cls != clsPublic || k.type != type || k.set != set || !bit k.attr aVerify then some (eDenied, 0)
    else if k.damaged then some (eParity, 0)
    else none

/-- SHEAF_SIGNER_SET's effect. -/
def bodySheafSignerSet (q : MbxReq) (s : State) : Reply :=
  withFormat q 12 [(2, 2)] s <|
    let n := fld q 0 1
    let op := fld q 1 1
    let e := fld q 4 4
    let m := fld q 8 4
    match firstField [(3 < n, 32), (op != 1 && op != 2, 33), (wrongIndex false e, 36), (wrongIndex false m, 40)] with
    | some o => reject s eFormat o
    | none =>
      if op == 2 then accept { s with signers := tblDel s.signers n } []
      else
        match (signerKeyFault s e 0x11 0x0002).orElse (fun _ => if m == 0 then none else signerKeyFault s m 0x15 65) with
        | some (st, d) => reject s st d
        | none => accept { s with signers := tblSet s.signers n { ecdsa := e, mldsa := m } } []

/-- SHEAF_SIGNER_SET. -/
def execSheafSignerSet (q : MbxReq) (s : State) : Out := runMbx specSheafSignerSet bodySheafSignerSet q s

/-! ### Events of instances (Table 9-5) -/

/-- A CTRL frame at NEXT whose MSG a bound table takes: its knot, then the event. -/
def msgEvent (i : Nat) (s : State) : State :=
  match ctrlAtNext s i with
  | none => s
  | some w =>
    match bindingFor s i (msgOf w.payload) with
    | none => s
    | some b =>
      let ev : EventCtx := { kind := 1, payload := ctrlBody w, msg := msgOf w.payload, seq := w.seq }
      advance (deliver (knotCtrl s i w) i b.sheaf b.table ev) i

/-- SHEAF_MSG_EVENT. -/
def execSheafMsgEvent (strand : Nat) (s : State) : Out := onStrand s strand (msgEvent strand)

/-- The instance of the strand's binding by its place among them. -/
def boundInstance (s : State) (i k : Nat) : Option (Binding × Nat × Instance) :=
  match (bindingsOf s i)[k]? with
  | none => none
  | some b => (tblFind s.instances (instKey i b.sheaf b.table)).map (fun x => (b, instKey i b.sheaf b.table, x))

/-- A timer expires: it stops and raises TIMER (Table 9-5). -/
def timerEvent (i k n : Nat) (s : State) : State :=
  if sheafPaused s then s
  else match boundInstance s i k with
    | none => s
    | some (b, key, x) =>
      match tblFind x.timers n with
      | none => s
      | some t =>
        let s := setInstance (advanceTo s t) i key { x with timers := tblDel x.timers n }
        deliver s i b.sheaf b.table { kind := 2, timer := n }

/-- SHEAF_TIMER_EXPIRY. -/
def execSheafTimerExpiry (strand binding timer : Nat) (s : State) : Out := onStrand s strand (timerEvent strand binding timer)

/-- An action that has completed leaves the instance and raises DONE (R273). -/
def raiseDone (s : State) (i : Nat) (b : Binding) (tag status : Nat) (out : Bytes) (gone : Async → Bool) : State :=
  let key := instKey i b.sheaf b.table
  match tblFind s.instances key with
  | none => s
  | some x =>
    let rest := match x.asyncs.find? gone with | some a => x.asyncs.erase a | none => x.asyncs
    let s := setInstance s i key { x with asyncs := rest }
    deliver s i b.sheaf b.table { kind := 3, payload := if status == sOk then out else [], status, tag }

/-- The engine of an action's job has come to its end: the Mill with a result that has passed its release check (R219, R215), the
Winnow's engines with a core (R172). -/
def actionReady (b : Job) : Bool := if b.engine == .mill then b.stage == .finished else b.stage == .running && b.onCore

/-- A job of an action ends with its result. -/
def endAction (s : State) (b : Job) : State :=
  if b.engine == .mill then endJob s b b.status b.detail false b.out b.inline else completeJob s b

/-- The asynchronous action with a tag completes: its result waits already, its job is at its end, or its verdict is
signed and checked (R219) and its values may be released (R405). A job that is not goes on. -/
def actionDone (i k tag : Nat) (s : State) : State :=
  if sheafPaused s then s
  else match boundInstance s i k with
    | none => s
    | some (b, key, x) =>
      match x.asyncs.find? (fun a => a.tag == tag) with
      | none => s
      | some a =>
        match a.done, a.verdict, a.job.bind (jobOf s) with
        | some (st, out), _, _ => raiseDone s i b tag st out (fun y => y == a)
        | none, some v, _ =>
          if ownReady s (.action key tag) && !countersHeld s then
            let (out, s) := deliverVerdict s b (.action key tag) v
            raiseDone s i b tag sOk out (fun y => y == a)
          else s
        | none, none, some j =>
          if !actionReady j then s
          else
            let s := startJobs (endAction s j)
            match (tblFind s.instances key).bind (fun x => x.asyncs.find? (fun y => y.tag == tag && y.done.isSome)) with
            | some y => raiseDone s i b tag ((y.done.map (·.1)).getD 0) ((y.done.map (·.2)).getD []) (fun z => z == y)
            | none => s
        | none, none, none => s

/-- SHEAF_ACTION_DONE. -/
def execSheafActionDone (strand binding tag : Nat) (s : State) : Out := onStrand s strand (actionDone strand binding tag)

end Sys2Proof.Machine
end

