-- ==== Sys2Proof/Machine/Deferred.lean ====
section
/-! DEFINITION. The end of deferred operations (R41, R64, R486): the work of each code, and the time-out. PAIR_COMPLETE and
BALE_ACTIVATE end at events of their own. -/

namespace Sys2Proof.Machine

/-- The operation writes what the Purged condition closes, notes/assumptions/49.md. -/
def closedByPurge (code : Nat) : Bool := [0x0101, 0x0506, 0x0602, 0x0603, 0x0701, 0x0808, 0x0901].contains code

/-- The work of an operation ends (Table 2-17, D). A purge that reached it ends it with E_KEY_GONE (R153). -/
def finishOp (s : State) (f : Nat) (o : DefOp) : State :=
  if o.gone != 0 then endOp s f o eKeyGone o.gone []
  else if purged s && closedByPurge o.code then endOp s f o ePurged 0 []
  else match o.code with
    | 0x0101 => endKeyGenerate s f o
    | 0x0506 => endScannerTrust s f o
    | 0x0602 => endMasterList s f o
    | 0x0603 => endCrl s f o
    | 0x0701 => endSheafLoad s f o
    | 0x0808 => endCardForceErase s f o
    | 0x0901 => endPairBegin s f o
    | 0x0A04 => endBaleVerify s f o
    | 0x0C03 => endSelfTest s f o
    | 0x0D02 => endTransition s f o
    | 0x0D03 => endOwnerClaim s f o
    | 0x0D07 => endTransition s f o
    | _ => s

/-- DEFERRED_OP_END. -/
def execDeferredOpEnd (fn no : Nat) (s : State) : Out :=
  done s (match opOf s fn no with
    | some o => if stewardWorks s then startJobs (finishOp s fn o) else s
    | none => s)

/-- DEFERRED_OP_TIMEOUT: an operation has not ended 120 s after its command was checked. -/
def execDeferredOpTimeout (fn no : Nat) (s : State) : Out :=
  done s (match opOf s fn no with
    | some o =>
      if stewardWorks s && !pastDrain s o then
        endOp (stopOp (advanceTo s (o.started + 120000000)) fn o) fn o eTimeout 0 []
      else s
    | none => s)

end Sys2Proof.Machine
end

