-- ==== Sys2Proof/Machine/PowerCmds.lean ====
section
/-! DEFINITION. The power and mode commands (R461, R462, R466, R467), feeds, rails, clocks and resets (R453–R460, R464),
and the SMBus target (R469). -/

namespace Sys2Proof.Machine

/-! ### POWER_STATE_SET -/

/-- Drowse is possible (R459, R461). -/
def drowseOk (s : State) : Bool :=
  (s.pair.role == .solo || s.pair.role == .isolated) && xtalOk s &&
  s.strands.all (fun e => e.2.state == .unused || e.2.state == .armed) &&
  s.update.attempt == 0 && s.lanyard.halted.isEmpty

/-- R459 and R461: E_STATE for Drowse and Vigil. -/
def powerModes (q : MbxReq) (s : State) : Option Nat :=
  match rd q.payload 0 1 with
  | 1 => if drowseOk s then none else some (deviceStatus s)
  | 2 => if xtalOk s then none else some (deviceStatus s)
  | _ => none

/-- POWER_STATE_SET (0x0B01). -/
def specPowerStateSet : CmdSpec := { code := 0x0B01, pf := true, modes := powerModes }

/-- Floors and idle stones are gated (Table 16-3). -/
def gateAll (s : State) : State :=
  { s with floors := tblMap s.floors (fun _ f => { f with awake := false })
           stones := tblMap s.stones (fun _ t => if t.state == .idle then { t with state := .gated } else t) }

/-- Drowse begins (R461): capture ports stop, their settings kept; the Hawser's quads are off unless the unit is paired (Table 16-3);
the tick comes from the crystal (R302). -/
def enterDrowse (s : State) : State :=
  if s.power.state == .drowse then s
  else
    let s := gateAll ((tblKeys s.ports).foldl takeDown (storeTick s))
    let s := if s.pair.paired then s else pathEnds (pathEnds s .a false) .b false
    let s := setPower (setUpdate s { s.update with captureReady := false }) { s.power with state := .drowse }
    powerEvent { s with almanac := { s.almanac with lowRate := true } } 2 0 1 0

/-- POWER_STATE_SET (R461, R462). A planned shutdown of a healthy Active unit waits for its switchover; else Vigil follows
the response. -/
def bodyPowerStateSet (q : MbxReq) (s : State) : Reply :=
  withFormat q 4 [(1, 3)] s <|
    match fld q 0 1 with
    | 0 => accept (leaveDrowse s) []
    | 1 => accept (enterDrowse s) []
    | 2 =>
      if s.pair.role == .active && healthy s then
        { st := releaseKnotted s, hold := some (.switchover none) }
      else if s.pair.role == .active && s.pair.peerReachable && s.pair.peerRole == 2 then peerFail s 8
      else accept (setPower s { s.power with state := .vigil }) []
    | _ => reject s eFormat 32

/-- POWER_STATE_SET: the rails go off after the response. -/
def execPowerStateSet (q : MbxReq) (s : State) : Out :=
  done s (
    let t := goMbx specPowerStateSet bodyPowerStateSet q s
    if powered s && t.power.state == .vigil then shutdown (setPower t { t.power with state := s.power.state }) else t)

/-! ### Reads and COMPAT_SET -/

/-- POWER_STATUS (0x0B02). -/
def specPowerStatus : CmdSpec := { code := 0x0B02, inFreeze := fun _ => true, inPurge := true }

/-- POWER_STATUS (Table 16-7). -/
def bodyPowerStatus (q : MbxReq) (s : State) : Reply :=
  withFormat q 0 [] s <| accept s (le 4 (pwrState s) ++ le 4 (pwrPhases s) ++ le 4 (pwrClocks s) ++ le 4 (pwrInputMw s))

/-- POWER_STATUS. -/
def execPowerStatus (q : MbxReq) (s : State) : Out := runMbx specPowerStatus bodyPowerStatus q s

/-- The TELEMETRY_READ response, 48 bytes (Table 16-7). -/
def telemetryBytes (s : State) : Bytes :=
  let v := fun n k => leInt n (telemetry s k)
  (List.range 10).flatMap (v 2) ++ v 4 10 ++ v 4 11 ++ v 2 12 ++ v 2 13 ++ v 4 14 ++ zeros 4 ++ v 8 15

/-- TELEMETRY_READ (0x0B03). -/
def specTelemetryRead : CmdSpec := { code := 0x0B03, pf := true, inFreeze := fun _ => true, inPurge := true }

/-- TELEMETRY_READ. -/
def bodyTelemetryRead (q : MbxReq) (s : State) : Reply := withFormat q 0 [] s <| accept s (telemetryBytes s)

/-- TELEMETRY_READ. -/
def execTelemetryRead (q : MbxReq) (s : State) : Out := runMbx specTelemetryRead bodyTelemetryRead q s

/-- COMPAT_SET (0x0B04). -/
def specCompatSet : CmdSpec := { code := 0x0B04, access := .q, pf := true, active := true, region := fillingAll }

/-- COMPAT_SET (R467). -/
def bodyCompatSet (q : MbxReq) (s : State) : Reply :=
  let v := fld q 0 1
  withFormat q 4 [(1, 3)] s <|
    if 3 ≤ v then reject s eFormat 32
    else accept (share (setScarecrow s { s.scarecrow with compat := v }) (.compat v)) []

/-- COMPAT_SET. -/
def execCompatSet (q : MbxReq) (s : State) : Out := runMbx specCompatSet bodyCompatSet q s

/-- MODE_READ (0x0B05). -/
def specModeRead : CmdSpec := { code := 0x0B05, inFreeze := fun _ => true, inPurge := true }

/-- MODE_READ (Table 16-7). -/
def bodyModeRead (q : MbxReq) (s : State) : Reply :=
  withFormat q 0 [] s <|
    accept s (le 4 (deviceStatus s) ++ le 4 (alarmSummary s) ++ le 4 (pwrState s) ++ le 4 (pairState s) ++
      le 4 (updateStatus s) ++ zeros 4 ++ le 8 s.life.debugExpires)

/-- MODE_READ. -/
def execModeRead (q : MbxReq) (s : State) : Out := runMbx specModeRead bodyModeRead q s

/-! ### Resets (R464) -/

/-- Some feed is in range. -/
def anyFeed (s : State) : Bool := s.power.feedAOk || s.power.feedBOk

/-- A cold reset from Vigil needs its rails: RST_N raises them (Table 16-3). -/
def resetByPin (s : State) : State :=
  if s.power.state == .off then s
  else if powered s then coldReset s
  else
    let s := coldReset s
    let s := setPower s { s.power with state := .vigil, railHold := false, railFaults := 0 }
    if anyFeed s && s.power.vauxOk then startRails s else s

/-- RST_N low for at least 10 µs: a cold reset, in Vigil with the rails raised first; what held the rails off is
forgotten (R456, R457). -/
def execRstNAssert (s : State) : Out := done s (resetByPin s)

/-- The delay before a cold reset that the Grange requested has passed (R373, R403, R464). -/
def execSelfResetDue (s : State) : Out :=
  done s (if s.power.resetPending && powered s then coldReset (advanceTo s s.power.resetAt) else s)

/-! ### Rails (R456, R457) -/

/-- The tick with which an always-on domain that had lost power starts: in Production the stored value plus 1 s, with TIME_LOST
(R303), or 0 where the device epoch begins; 0 in Blank and Test (R302). In End of life, where nothing is stored, it is not less than
it was, notes/assumptions/31.md (DESIGN CHOICE). -/
def resumeTick (s : State) : State :=
  let lc := s.life.lifecycle
  let a := s.almanac
  let lost := { a with timeLost := true, lowRate := true }
  if lc == lcEndOfLife then { s with now := max s.now (a.store + 1000000), almanac := lost }
  else if lc == lcProduction && !a.newEpoch then { s with now := a.store + 1000000, almanac := lost }
  else { s with now := 0, almanac := { lowRate := true } }

/-- Power arrives at a device that was Off: VAUX and both feeds. -/
def execPowerArrival (s : State) : Out :=
  done s (
    if s.power.state != .off then s
    else
      let s := resumeTick s
      let p := { s.power with state := .vigil, vauxOk := true, feedAOk := true, feedBOk := true, switchA := true, switchB := true }
      let s := setPower s { p with railHold := false, railFaults := 0 }
      startRails (setScarecrow s { s.scarecrow with onVbat := false }))

/-- A device that comes from Vigil or Off stands at t0, out of its cold reset: what counts from there starts again, and in Blank and Test
the tick (R302, R364). -/
def atT0 (s : State) : State :=
  { s with now := if tickRestarts s then 0 else s.now, almanac := if tickRestarts s then {} else { s.almanac with lowRate := false }
           scarecrow := scarecrowAtReset s }

/-- A rail reports good, and the next one starts; with the last one the device is powered and stands at t0, out of its cold reset
(R456, R364). -/
def execRailGood (rail : Rail) (s : State) : Out :=
  done s (
    if s.power.railStarting != some rail then s
    else
      let p := { s.power with railsGood := s.power.railsGood ++ [rail], railStarting := nextRail rail }
      if rail == .vser then setPower (atT0 s) { p with railFaults := 0, state := .active }
      else setPower s p)

/-- A rail is not good in time (R456): every rail started goes off; after three faults they stay off, VIO on where it came
good. -/
def execRailGoodTimeout (rail : Rail) (s : State) : Out :=
  done s (
    if s.power.railStarting != some rail then s
    else
      let n := s.power.railFaults + 1
      let p := { s.power with railsGood := [], railStarting := none, railFaults := n }
      if n < 3 then setPower s { p with retryAt := s.now + 1000000 }
      else setPower s { p with railHold := true, retryAt := 0, railsGood := if rail == .vio then [] else [.vio] })

/-- One second after a rail fault the sequence is tried again (R456). -/
def execRailFaultRetry (s : State) : Out :=
  done s (
    if s.power.retryAt == 0 || s.power.railHold || powered s || !anyFeed s || !s.power.vauxOk then s
    else startRails (advanceTo s s.power.retryAt))

/-- The phases of a rail in service, with one of them shed; `none` where there is none to shed. -/
def shed (p : Power) (rail : Rail) (phase : Nat) : Option Power :=
  match rail with
  | .vcore => if phase < 16 && bit p.phasesCore phase then some { p with phasesCore := p.phasesCore - 2 ^ phase } else none
  | .vser => if phase < 4 && bit p.phasesSer phase then some { p with phasesSer := p.phasesSer - 2 ^ phase } else none
  | _ => none

/-- Bits set among the lowest 16. -/
def countBits (v : Nat) : Nat := ((List.range 16).filter (bit v)).length

/-- The rails no longer carry full load (R457). -/
def tooFewPhases (p : Power) : Bool := countBits p.phasesCore < 13 || countBits p.phasesSer < 3

/-- A phase is shed (R457): RAIL_RANGE raises and a POWER event is posted; below the count the device shuts down
into Vigil, which RST_N or both feeds cycled leave (Table 16-3). -/
def shedPhase (s : State) (rail : Rail) (phase : Nat) : State :=
  match shed s.power rail phase with
  | none => s
  | some p =>
    let n := powerNo s.power.state
    let s := powerNote (powerEvent (report (setPower s p) 3 phase) 3 n n phase) phase
    if tooFewPhases p then shutdown s else s

/-- A power stage reports a fault (R457). -/
def execPhaseFault (rail : Rail) (phase : Nat) (s : State) : Out :=
  done s (if powered s then shedPhase s rail phase else s)

/-- A phase current has differed from the mean by over 50 % for 100 µs (R457). -/
def execPhaseImbalance (rail : Rail) (phase : Nat) (s : State) : Out :=
  done s (if powered s then shedPhase s rail phase else s)

/-! ### Feeds (R453–R455) -/

/-- The feed is in range. -/
def feedOk (s : State) (f : Feed) : Bool :=
  match f with
  | .a => s.power.feedAOk
  | .b => s.power.feedBOk

/-- The feed's range and its switch. -/
def setFeed (s : State) (f : Feed) (ok : Bool) : State :=
  match f with
  | .a => setPower s { s.power with feedAOk := ok, switchA := ok }
  | .b => setPower s { s.power with feedBOk := ok, switchB := ok }

/-- FEED's VALUE bit of a feed (R453). -/
def feedValue : Feed → Nat
  | .a => 1 | .b => 2

/-- Each loss and each return raises FEED, whose cause is a feed out of range, and posts a POWER event (R453, R468). -/
def feedReport (s : State) (old value : Nat) : State :=
  let s := setMonitor s 0x1E { monitorOf s 0x1E with active := false, applied := 0 }
  let s := report s 0x1E value
  let s := setMonitor s 0x1E { monitorOf s 0x1E with active := !(s.power.feedAOk && s.power.feedBOk) }
  powerNote (powerEvent s 1 old (feedBits s) value) value

/-- A feed is lost (R453): its switch goes off; with both lost the orderly shutdown runs, and what holds rails off is
forgotten (R455–R457). -/
def execFeedLost (feed : Feed) (s : State) : Out :=
  done s (
    if !feedOk s feed || s.power.state == .off then s
    else
      let old := feedBits s
      let s := setFeed s feed false
      let s := if powered s then feedReport s old (feedValue feed) else s
      if anyFeed s then s
      else
        let s := if powered s then shutdown s else setPower s { s.power with railsGood := [], railStarting := none }
        setPower s { s.power with railHold := false, railFaults := 0, retryAt := 0 })

/-- A feed has been in range for 100 ms (R453): its switch goes on; after the loss of both it starts the device from
Vigil (Table 16-3). -/
def execFeedReturn (feed : Feed) (s : State) : Out :=
  done s (
    if feedOk s feed || s.power.state == .off then s
    else
      let old := feedBits s
      let first := !anyFeed s
      let s := setFeed s feed true
      if powered s then feedReport s old (feedValue feed)
      else if first && s.power.vauxOk then startRails s
      else s)

/-- A switch that is off still carries current (R454): its gate is turned off again, and FEED raises. -/
def execSwitchFaultRetry (feed : Feed) (s : State) : Out :=
  done s (
    if feedOk s feed || s.power.state == .off then s
    else
      let s := setFeed s feed false
      let s := setPower s { s.power with switchFault := true }
      if powered s then
        report (setMonitor s 0x1E { monitorOf s 0x1E with active := false, applied := 0 }) 0x1E (4 * feedValue feed)
      else s)

/-! ### Clocks and always-on supplies (R70, R458, R460, R490) -/

/-- An Ethernet reference is lost (R70); for ETHREF0 the core PLL goes into holdover, PLL_LOCK raises and the tick comes
from the crystal (R458). The bit of PLL_LOCK's VALUE is not stated: a free value. -/
def execEthrefLoss (k : Nat) (s : State) : Out :=
  done s (
    if 4 ≤ k || !bit s.power.ethRef k then s
    else
      let s := setPower s { s.power with ethRef := s.power.ethRef - 2 ^ k }
      let s := settleFloors (((tblKeys s.ports).filter (fun p => portRef p == k)).foldl takeDown s)
      if k != 0 then s
      else
        let s := pathEnds (pathEnds s .a false) .b false
        if !powered s then s
        else
          let v := Config.free 0x09 s.rng % 2 ^ 32
          let n := powerNo s.power.state
          let s := setPower (draw s) { s.power with holdover := true }
          let s := { s with almanac := { s.almanac with lowRate := true } }
          powerEvent (report s 9 v) 4 n n v)

/-- An Ethernet reference returns: ports may link again, and the core PLL relocks (R458). -/
def execEthrefReturn (k : Nat) (s : State) : Out :=
  done s (
    if 4 ≤ k || bit s.power.ethRef k then s
    else
      let s := setPower s { s.power with ethRef := s.power.ethRef + 2 ^ k }
      if k != 0 || !s.power.holdover then s
      else
        let n := powerNo s.power.state
        let s := setPower s { s.power with holdover := false }
        let s := { s with almanac := { s.almanac with lowRate := s.power.state == .drowse } }
        powerEvent s 4 n n 0)

/-- VAUX is lost (R490, R500): the always-on domain moves to VBAT, and the card slots are deactivated. -/
def execVauxLoss (s : State) : Out :=
  done s (
    if !s.power.vauxOk || s.power.state == .off then s
    else
      let s := setPower s { s.power with vauxOk := false }
      deactivateSlots (setScarecrow s { s.scarecrow with onVbat := true }) 4)

/-- VAUX returns: the slots are activated again (R490), unless a zero-fill still holds them (R349). -/
def execVauxReturn (s : State) : Out :=
  done s (
    if s.power.vauxOk || s.power.state == .off then s
    else
      let s := setPower s { s.power with vauxOk := true }
      let s := setScarecrow s { s.scarecrow with onVbat := false }
      if powered s && s.scarecrow.zerofill == 0 then reactivateSlots s else s)

/-- VAUX absent and VBAT below 2.0 V (R460): Off. The Loft, the Vigil log and the latches are lost with their power. -/
def execAlwaysOnPowerLoss (s : State) : Out :=
  done s (
    if s.power.vauxOk || s.power.state == .off then s
    else
      let newEpoch := s.almanac.newEpoch
      let s := coldReset (cutTransition (cutConfirm s) true)
      let s := { s with almanac := { s.almanac with newEpoch } }
      let ms := tblMap s.scarecrow.monitors (fun _ w => { w with active := false, applied := 0, recent := [] })
      let s := setScarecrow s { monitors := ms, compat := s.scarecrow.compat, rootValid := false, custodyValid := false
                                vigilSeq := s.scarecrow.vigilSeq }
      setPower s { s.power with state := .off, railsGood := [], railStarting := none, retryAt := 0 })

/-! ### PCIe (R27, R54) -/

/-- The widest or the highest choice that both sides of a link have, of five: bit `k` of a mask stands for a width of 2^k lanes,
and for the `k`-th rate of 2.5, 5, 8, 16 and 32 GT/s; the endpoint itself has all of them (R27). -/
def highestCommon (partner : Nat) : Option Nat := [4, 3, 2, 1, 0].find? (bit partner)

/-- The link has trained with a partner: to the widest common width and the highest common rate, which the Link Status register
reports (R27). -/
def execPcieLinkUp (widths rates : Nat) (s : State) : Out :=
  done s (match highestCommon widths, highestCommon rates with
    | some w, some r => if powered s then setPower s { s.power with linkUp := true, linkWidth := 2 ^ w, linkRate := r + 1 } else s
    | _, _ => s)

/-- The link goes down; what its DMA accesses meet comes with each job's outcome (R54). -/
def execPcieLinkDown (s : State) : Out :=
  done s (setPower s { s.power with linkUp := false, linkWidth := 0, linkRate := 0 })

/-! ### SMBus (R469) -/

/-- The PEC of bytes, each sent with its most significant bit first (R469). -/
def pecOf (b : Bytes) : Nat := crc8 (b.flatMap (fun x => (sentBits 8 x.toNat).reverse))

/-- The target's 7-bit address (R469). -/
def smbusAddr (s : State) : Nat := if s.pair.seat == 0 then 0x5C else 0x5D

/-- A read of a command code: the data and the PEC, once VIO is good; else silence. -/
def smbusRead (s : State) (code : Nat) (data : Bytes) : Out :=
  done s (
    if s.power.railsGood.contains .vio then
      let pec := pecOf ([byte (2 * smbusAddr s), byte code, byte (2 * smbusAddr s + 1)] ++ data)
      setPower s { s.power with smbus := data ++ le 1 pec, smbusAck := true }
    else setPower s { s.power with smbus := [], smbusAck := false })

/-- BOOT's code (Table 16-8). -/
def bootCode (s : State) : Nat :=
  if s.power.railHold then 4 else if s.update.step == 0 && !bit s.power.ethRef 0 then 3 else s.update.code

/-- BOOT (Table 16-8). -/
def execSmbusReadBoot (s : State) : Out := smbusRead s 0x00 (le 1 s.update.step ++ le 1 (bootCode s))

/-- The status word (Table 16-8). -/
def execSmbusReadStatus (s : State) : Out :=
  smbusRead s 0x01 (le 2 (pack [(powerNo s.power.state, 0, 2), (alarmLevel s, 2, 3), (roleNo s.pair.role, 5, 3),
    (ofBool s.update.mbxReady, 8, 1), (ofBool s.update.captureReady, 9, 1), (ofBool s.power.feedAOk, 10, 1),
    (ofBool s.power.feedBOk, 11, 1)]))

/-- The telemetry record, as a block read. -/
def execSmbusReadTelemetry (s : State) : Out := smbusRead s 0x10 (le 1 48 ++ telemetryBytes s)

/-- DEVICE_SERIAL, as a block read. -/
def execSmbusReadSerial (s : State) : Out := smbusRead s 0x20 (le 1 8 ++ le 8 s.ident.serial)

end Sys2Proof.Machine
end

