-- ==== Sys2Proof/Machine/Hatch.lean ====
section
/-! DEFINITION. The rows of the Hatch window (R177–R181) and of the Flail fall-back path in it (R196–R198). -/

namespace Sys2Proof.Machine

/-- The window takes a write while the main domain has power; any write restarts the idle timer (R180). -/
def hatchTouched (s : State) : State := { s with hatch := { s.hatch with lastUse := s.now } }

/-- A write to a register other than HATCH_LOCK: without a holder it is ignored and sets NOT_HELD (R179); while the Steward holds
the lock, from cold reset until MBX_READY and during a SELF_TEST, the host does not use the Hatch (R13, R181). -/
def hatchWrite (k : State → State) (s : State) : State :=
  if !powered s then s
  else
    let s := hatchTouched s
    if s.hatch.held && s.hatch.internal then s
    else if s.hatch.held then k s
    else { s with hatch := { s.hatch with notHeld := true } }

/-! ### The lock (R179–R181) -/

/-- A write to HATCH_LOCK (R179): tag 0xFFFF is ignored. -/
def hatchLock (value : Nat) (s : State) : State :=
  let tag := value % 65536
  if !powered s then s
  else
    let s := hatchTouched s
    if tag == 0xFFFF then s
    else if bit value 16 then (if s.hatch.held && tag == s.hatch.tag then releaseLock s else s)
    else if s.hatch.held || tag == 0 then s
    else { s with hatch := { s.hatch with held := true, internal := false, tag, client := 0 } }

/-- HATCH_LOCK_ACQUIRE. -/
def execHatchLockAcquire (value : Nat) (s : State) : Out := done s (if bit value 16 then s else hatchLock value s)

/-- HATCH_LOCK_RELEASE. -/
def execHatchLockRelease (value : Nat) (s : State) : Out := done s (if bit value 16 then hatchLock value s else s)

/-- HATCH_IDLE_RELEASE: 10 ms without a write or a read of HATCH_DOUT3 (R180). The Steward's hold is not timed (R181). -/
def execHatchIdleRelease (s : State) : Out :=
  done s (if powered s && s.hatch.held && !s.hatch.internal then releaseLock (advanceTo s (s.hatch.lastUse + 10000)) else s)

/-! ### AES operations (R178) -/

/-- START; one given while BUSY is ignored, as on the Flail path, notes/assumptions/45.md (DEDUCED). -/
def hatchStart (s : State) : State := if s.hatch.busy then s else tryHatch s

/-- FINAL. -/
def hatchFinal (s : State) : State :=
  if s.hatch.busy && !s.hatch.starting then { s with hatch := { s.hatch with finishing := true, ready := false } } else s

/-- ABORT. -/
def hatchAbort (s : State) : State := { s with hatch := hatchStops s.hatch }

/-- A write to HATCH_DIN3: the block is submitted when READY is 1. -/
def hatchSubmit (word : Nat) (s : State) : State :=
  if s.hatch.ready then { s with hatch := hatchAbsorbs s.hatch (inputWord s.hatch.din word) } else s

/-- HATCH_START. -/
def execHatchStart (s : State) : Out := done s (hatchWrite hatchStart s)

/-- HATCH_FINAL. -/
def execHatchFinal (s : State) : Out := done s (hatchWrite hatchFinal s)

/-- HATCH_ABORT. -/
def execHatchAbort (s : State) : Out := done s (hatchWrite hatchAbort s)

/-- HATCH_DIN_SUBMIT. -/
def execHatchDinSubmit (word : Nat) (s : State) : Out := done s (hatchWrite (hatchSubmit word) s)

/-- HATCH_BLOCK_DONE: the core finishes the submitted block (R177). -/
def execHatchBlockDone (s : State) : Out := done s (if powered s then { s with hatch := hatchBlockOut s.hatch } else s)

/-- HATCH_DOUT_CONSUME: a read of HATCH_DOUT3 consumes the block and restarts the idle timer (R177, R180). -/
def execHatchDoutConsume (s : State) : Out :=
  done s (if powered s then { s with hatch := { s.hatch with outValid := false, lastUse := s.now } } else s)

/-- HATCH_OPERATION_DONE: the core finishes after FINAL (R178). -/
def execHatchOperationDone (s : State) : Out :=
  done s (if powered s && s.hatch.finishing && !s.hatch.inBlock then { s with hatch := hatchFinishes s.hatch } else s)

/-! ### The fall-back digest (R197, R198) -/

/-- FLAIL_CMD.START; ignored while BUSY is 1. -/
def flailStart (s : State) : State := if s.flail.busy then s else flailBegins s

/-- FLAIL_CMD.FINAL. -/
def flailFinal (s : State) : State :=
  if s.flail.busy then flailJoins s { s.flail with finishing := true, ready := false } else s

/-- FLAIL_CMD.ABORT: the digest stops and its core is free. -/
def flailAbort (s : State) : State := startJobs { s with flail := flailClears s.flail }

/-- A write to FLAIL_DIN3; ignored while READY is 0. -/
def flailSubmit (word : Nat) (s : State) : State :=
  if s.flail.ready then flailJoins s (flailAbsorbs s.flail (inputWord s.flail.din word)) else s

/-- FLAIL_START. -/
def execFlailStart (s : State) : Out := done s (hatchWrite flailStart s)

/-- FLAIL_FINAL. -/
def execFlailFinal (s : State) : Out := done s (hatchWrite flailFinal s)

/-- FLAIL_ABORT. -/
def execFlailAbort (s : State) : Out := done s (hatchWrite flailAbort s)

/-- FLAIL_DIN_SUBMIT. -/
def execFlailDinSubmit (word : Nat) (s : State) : Out := done s (hatchWrite (flailSubmit word) s)

/-- The path's core ends its work: with `k`, unless its datapaths disagree, a free value (R194), notes/assumptions/45.md. -/
def flailWorks (k : FlailPath → FlailPath) (s : State) : State :=
  match s.flail.core with
  | none => s
  | some c => startJobs (if Config.flailFails s.rng then flailSpoiled (draw s) c else { draw s with flail := k s.flail })

/-- FLAIL_WORD_DONE: the submitted word is absorbed. -/
def execFlailWordDone (s : State) : Out :=
  done s (if powered s && s.flail.inWord then
      flailWorks (fun f => { f with inWord := false, ready := !f.finishing, core := none }) s
    else s)

/-- FLAIL_OUT_READ: a read while BUSY is 1 sets RESULT to E_EARLY; otherwise nothing changes (R198). The word read is
`flailOut`. -/
def execFlailOutRead (_index : Nat) (s : State) : Out :=
  done s (if powered s && s.flail.busy then { s with flail := { s.flail with result := eEarly } } else s)

/-- What FLAIL_OUT reads: 0 until the digest is complete. -/
def flailOut (s : State) (index : Nat) : Nat := if s.flail.valid && !s.flail.busy then rd s.flail.out (4 * index) 4 else 0

/-- FLAIL_FALLBACK_DONE: the digest completes. -/
def execFlailFallbackDone (s : State) : Out :=
  done s (if powered s && s.flail.finishing && !s.flail.inWord then flailWorks flailFinishes s else s)

end Sys2Proof.Machine
end

