-- ==== Sys2Proof/Machine/Sessions.lean ====
section
/-! DEFINITION. Sessions and credentials (R42–R45), and what GO and RELEASE do beside a command (R39, R40, R67). -/

namespace Sys2Proof.Machine

/-! ### SESSION_OPEN (R42, R44, R45) -/

/-- SESSION_OPEN (0x0002). -/
def specSessionOpen : CmdSpec :=
  { code := 0x0002, access := .n, inFreeze := fun _ => true, inPurge := true, inRecovery := true }

/-- Microseconds to the earliest end of Throttle (R345). -/
def throttleLeft (s : State) : Nat := if 2 ≤ causesLevel s then 10000000 else s.scarecrow.throttleEnd - s.now

/-- The serial of the next session at an index: random at the first use since a cold reset, then one more each time. -/
def nextSerial (s : State) (f i : Nat) : Nat :=
  match tblFind (fnOf s f).serials i with
  | some n => (n + 1) % 65536
  | none => ofLe ((randomBytes s 34).drop 32)

/-- A session opens at an index: its identifier, its challenge and 30 s to authenticate. -/
def openSession (s : State) (f i cred idle : Nat) (c : Credential) : Reply :=
  let w := fnOf s f
  let x : Session := { index := i, serial := nextSerial s f i, cred, challenge := randomBytes s 32
                       expires := s.now + 30000000, idleS := idle, lastUse := s.now }
  let s := setFn (draw s) f { w with sessions := w.sessions ++ [x], serials := tblSet w.serials i x.serial }
  accept s (le 4 (sessionId f x) ++ le 2 c.alg ++ zeros 2 ++ le 8 x.expires ++ x.challenge)

/-- SESSION_OPEN's checks and effect. -/
def bodySessionOpen (q : MbxReq) (s : State) : Reply :=
  withFormat q 8 [(1, 3)] s <|
    let cred := fld q 0 1
    let idle := fld q 4 4
    let c := clientOf s q.fn
    let free := firstFrom 0 16 (fun i => !(fnOf s q.fn).sessions.any (fun x => x.index == i))
    if 3 < cred then reject s eFormat 32
    else if 3600 < idle then reject s eFormat 36
    else if s.now < c.lockEnd then reject s eBusy (ceilDiv (c.lockEnd - s.now) 1000000)
    else if throttled s then reject s eBusy (throttleLeft s)
    else match tblFind c.creds cred, free with
      | none, _ => reject s eAuth 0
      | _, none => reject s eLimit 16
      | some k, some i => openSession s q.fn i cred (if idle == 0 then 300 else idle) k

/-- SESSION_OPEN. -/
def execSessionOpen (q : MbxReq) (s : State) : Out := runMbx specSessionOpen bodySessionOpen q s

/-! ### SESSION_AUTH (R43, R44) -/

/-- SESSION_AUTH (0x0003). -/
def specSessionAuth : CmdSpec :=
  { code := 0x0003, access := .n, inFreeze := fun _ => true, inPurge := true, inRecovery := true }

/-- The 53 bytes a client signs (R43). -/
def authMessage (s : State) (f : Nat) (x : Session) : Bytes :=
  ascii "MCI-AUTH" ++ fit 32 x.challenge ++ le 4 (sessionId f x) ++ le 1 f ++ le 8 s.ident.serial

/-- The signature verifies under the credential the session was opened with. -/
def authVerifies (s : State) (f : Nat) (x : Session) (sig : Bytes) : Bool :=
  match tblFind (clientOf s f).creds x.cred with
  | none => false
  | some c =>
    if c.alg == 1 then sig.length == 96 && verifyP384 c.key (authMessage s f x) sig
    else sig.length == 64 && Config.verify 0x0404 (le 2 0x22) c.key (authMessage s f x) sig

/-- A failure: the session closes, the fifth in a row locks the client out for 60 s, and the Ledger has it (R44). The count
starts anew with the lockout. -/
def authFails (q : MbxReq) (s : State) (x : Session) : Reply :=
  let s := closeSession s q.fn x
  let c := clientOf s q.fn
  let c := if 4 ≤ c.failures then { c with failures := 0, lockEnd := s.now + 60000000 } else { c with failures := c.failures + 1 }
  reject (logCommand (setClient s q.fn c) 0x0003 q.fn q.tag eAuth 0 q.payload) eAuth 0

/-- The session is authenticated, and the count of failures is 0. -/
def authenticate (s : State) (f : Nat) (x : Session) : State :=
  let w := fnOf s f
  let y := { x with auth := true, lastUse := s.now }
  let s := setFn s f { w with sessions := w.sessions.map (fun z => if z.index == x.index then y else z) }
  setClient s f { clientOf s f with failures := 0 }

/-- SESSION_AUTH's checks and effect; a session past EXPIRES has been closed (R44). Any SIG_LEN that does not match the
credential's SIG_ALG is a failure, also one that Table 2-8 does not list. -/
def bodySessionAuth (q : MbxReq) (s : State) : Reply :=
  let n := fld q 0 2
  withFormat q (4 + n) [(2, 2)] s <|
    match sessionOf s q.fn q.session with
      | none => reject s eAuth 0
      | some x =>
        if x.auth then reject s eAuth 0
        else if x.expires ≤ s.now then reject (closeSession s q.fn x) eAuth 0
        else if authVerifies s q.fn x (q.payload.drop 4) then accept (authenticate s q.fn x) []
        else authFails q s x

/-- SESSION_AUTH. -/
def execSessionAuth (q : MbxReq) (s : State) : Out := runMbx specSessionAuth bodySessionAuth q s

/-! ### SESSION_CLOSE and the time-outs (R44) -/

/-- SESSION_CLOSE (0x0004). -/
def specSessionClose : CmdSpec := { code := 0x0004, inFreeze := fun _ => true, inPurge := true, inRecovery := true }

/-- SESSION_CLOSE's effect. -/
def bodySessionClose (q : MbxReq) (s : State) : Reply :=
  withFormat q 0 [] s <|
    match sessionOf s q.fn q.session with
    | some x => accept (closeSession s q.fn x) []
    | none => accept s []

/-- SESSION_CLOSE. -/
def execSessionClose (q : MbxReq) (s : State) : Out := runMbx specSessionClose bodySessionClose q s

/-- The open session of a function at an index. -/
def sessionAt (s : State) (f i : Nat) : Option Session := (fnOf s f).sessions.find? (fun x => x.index == i)

/-- SESSION_AUTH_TIMEOUT: 30 s after SESSION_OPEN. -/
def execSessionAuthTimeout (fn index : Nat) (s : State) : Out :=
  done s (match sessionAt s fn index with
    | some x => if powered s && !x.auth then closeSession (advanceTo s x.expires) fn x else s
    | none => s)

/-- A command or job is under way under a session: one that the mailbox holds, a deferred operation, or a job of a ring with that
session (R44). -/
def sessionBusy (s : State) (f v : Nat) : Bool :=
  let w := fnOf s f
  (match w.held with | some h => h.session == v | none => false) || w.ops.any (fun o => o.session == v) ||
  s.jobs.any (fun b => b.req.fn == f && b.session == v)

/-- SESSION_IDLE_TIMEOUT: the idle time-out passes with no command or job under the session. -/
def execSessionIdleTimeout (fn index : Nat) (s : State) : Out :=
  done s (match sessionAt s fn index with
    | some x =>
      if powered s && x.auth && !sessionBusy s fn (sessionId fn x) then closeSession (advanceTo s (x.lastUse + 1000000 * x.idleS)) fn x
      else s
    | none => s)

/-! ### Credentials (R45) -/

/-- The client's sessions that a credential opened close (R45). -/
def dropCredSessions (s : State) (c cred : Nat) : State := closeSessions s c (fun x => x.cred == cred)

/-- Store or remove a credential; the pair's copy follows. -/
def setCred (s : State) (c cred : Nat) (v : Option Credential) : State :=
  let w := clientOf s c
  let w := { w with creds := match v with | some x => tblSet w.creds cred x | none => tblDel w.creds cred }
  share (setClient s c w) (.credential c cred v)

/-- CLIENT_ENROLL (0x0005). -/
def specClientEnroll : CmdSpec := { code := 0x0005, access := .q, pf := true, region := fillingAll, active := true }

/-- KEY_LEN fits SIG_ALG. -/
def credLen (alg : Nat) : Nat := if alg == 1 then 97 else 32

/-- The key passes the checks of Table 7-5. -/
def credKeyOk (s : State) (alg : Nat) (k : Bytes) : Bool := if alg == 1 then p384Ok s k else edPointOk 0x22 k

/-- CLIENT_ENROLL's checks and effect. -/
def bodyClientEnroll (q : MbxReq) (s : State) : Reply :=
  withFormat q (8 + fld q 4 2) [(6, 2)] s <|
    let c := fld q 0 1
    let cred := fld q 1 1
    let alg := fld q 2 2
    let key := q.payload.drop 8
    match firstField [(64 ≤ c, 32), (3 < cred, 33), (alg != 1 && alg != 2, 34), (fld q 4 2 != credLen alg, 36)] with
    | some o => reject s eFormat o
    | none =>
      if !credKeyOk s alg key then reject s ePkReject 0
      else
        let had := tblHas (clientOf s c).creds cred
        let s := setCred s c cred (some { alg, key })
        accept (if had then dropCredSessions s c cred else s) []

/-- CLIENT_ENROLL. -/
def execClientEnroll (q : MbxReq) (s : State) : Out := runMbx specClientEnroll bodyClientEnroll q s

/-- The credentials of a client that CLIENT_REVOKE names. -/
def revoked (s : State) (c cred : Nat) : List Nat :=
  (tblKeys (clientOf s c).creds).filter (fun k => cred == 0xFF || k == cred)

/-- The revocation would leave client 0 with no credential (R45). -/
def leavesNone (s : State) (q : MbxReq) : Bool :=
  q.payload.length == 4 && fld q 0 1 == 0 && (fld q 1 1 == 0xFF || !(revoked s 0 (fld q 1 1)).isEmpty) &&
  (revoked s 0 (fld q 1 1)).length == (clientOf s 0).creds.length

/-- CLIENT_REVOKE (0x0006). -/
def specClientRevoke : CmdSpec :=
  { code := 0x0006, access := .q, pf := true, region := fillingAll, active := true
    modes := fun q s => if leavesNone s q then some (deviceStatus s) else none }

/-- CLIENT_REVOKE's checks and effect. -/
def bodyClientRevoke (q : MbxReq) (s : State) : Reply :=
  withFormat q 4 [(2, 2)] s <|
    let c := fld q 0 1
    let cred := fld q 1 1
    let gone := revoked s c cred
    if 64 ≤ c then reject s eFormat 32
    else if 3 < cred && cred != 0xFF then reject s eFormat 33
    else if cred != 0xFF && gone.isEmpty then reject s eKeyAbsent 0
    else accept (gone.foldl (fun s k => dropCredSessions (setCred s c k none) c k) s) []

/-- CLIENT_REVOKE. -/
def execClientRevoke (q : MbxReq) (s : State) : Out := runMbx specClientRevoke bodyClientRevoke q s

/-! ### GO and RELEASE (R39, R40, R67) -/

/-- The function's window can be reached. -/
def fnReached (s : State) (f : Nat) : Bool := powered s && fnExists s f

/-- GO on a mailbox that is not IDLE. -/
def goRejected (s : State) (f : Nat) : State := if fnReached s f && (fnOf s f).state != .idle then rejectGo s f else s

/-- MBX_GO_REJECTED. -/
def execMbxGoRejected (fn : Nat) (s : State) : Out := done s (goRejected s fn)

/-- RELEASE: ignored while STATE is not DONE. -/
def mbxReleased (s : State) (f : Nat) : State :=
  if fnReached s f && (fnOf s f).state == .done then setFn s f { fnOf s f with state := .idle } else s

/-- MBX_RELEASE. -/
def execMbxRelease (fn : Nat) (s : State) : Out := done s (mbxReleased s fn)

/-- The M codes of Table 2-17. -/
def mboxCodes : List Nat :=
  [0x0001, 0x0002, 0x0003, 0x0004, 0x0005, 0x0006, 0x0101, 0x0102, 0x0103, 0x0104, 0x0105,
   0x0106, 0x0107, 0x0108, 0x0110, 0x0111, 0x0112, 0x0220, 0x0221, 0x0222, 0x0230, 0x0310, 0x0420,
   0x0501, 0x0502, 0x0503, 0x0504, 0x0505, 0x0506, 0x0507, 0x0508, 0x0509, 0x050A, 0x050B, 0x0602,
   0x0603, 0x0604, 0x0605, 0x0606, 0x0607, 0x0608, 0x0609, 0x0701, 0x0702, 0x0703, 0x0704, 0x0705] ++
  [0x0801, 0x0802, 0x0803, 0x0804, 0x0805, 0x0806, 0x0807, 0x0808, 0x0809, 0x0901, 0x0902, 0x0903,
   0x0904, 0x0905, 0x0906, 0x0907, 0x0A01, 0x0A02, 0x0A03, 0x0A04, 0x0A05, 0x0A06, 0x0A07, 0x0A08,
   0x0B01, 0x0B02, 0x0B03, 0x0B04, 0x0B05, 0x0C01, 0x0C02, 0x0C03, 0x0C04, 0x0C05, 0x0C06, 0x0C07,
   0x0D01, 0x0D02, 0x0D03, 0x0D04, 0x0D05, 0x0D06, 0x0D07, 0x0E01, 0x0E02, 0x0E03, 0x0E04]

/-- FLAGS bits a code defines: FORCE of CONTEXT_RELEASE and SHEAF_REMOVE. -/
def codeFlags (code : Nat) : Nat := if code == 0x0221 || code == 0x0703 then 1 else 0

/-- GO with a CODE that is not allocated, or a header that fails before it (R38 steps 1 to 3, R67). -/
def goUnknown (code : Nat) (q : MbxReq) (s : State) : State :=
  if !powered s || !fnExists s q.fn then s
  else if (fnOf s q.fn).state != .idle then rejectGo s q.fn
  else if !stewardServes s then holdGo code q s
  else
    let answer := fun st d => respond s code q.fn q.tag st d []
    if q.flags != 0 && q.flags != codeFlags code then answer eFormat 2
    else if !allZero q.rsv then answer eFormat (16 + (firstNonZero q.rsv).getD 0)
    else if 4064 < q.len then answer eLength 8
    else if mboxCodes.contains code then s
    else answer eCode 0

/-- MBX_GO_CODE_NOT_ALLOCATED. -/
def execMbxGoCodeNotAllocated (code : Nat) (q : MbxReq) (s : State) : Out := done s (goUnknown code q s)

end Sys2Proof.Machine
end

