-- ==== Sys2Proof/Machine/Registers.lean ====
section
/-! DEFINITION. What a read of a register window gives (R30, R31, R34): BAR0 of every function, BAR2 of the PF, and the
registers of the configuration space that the spec names (R27, R28). A read that changes state has a row of its own. -/

namespace Sys2Proof.Machine

/-- The 32-bit half of a 64-bit register. -/
def half (v : Nat) (high : Bool) : Nat := if high then v / 2 ^ 32 % 2 ^ 32 else v % 2 ^ 32

/-- The word at byte `off` of a string. -/
def wordAt (b : Bytes) (off : Nat) : Nat := rd b off 4

/-! ### BAR0 (R34) -/

/-- The mailbox control page (Table 2-5); MBX_CTRL is written only. -/
def readMailbox (s : State) (f off : Nat) : Nat :=
  match off with
  | 0x004 => mbxStatus (fnOf s f)
  | 0x008 => fnIntCause (fnOf s f)
  | 0x00C => (fnOf s f).intMask
  | 0x010 => fnClient f
  | _ => 0

/-- A job ring's registers (Table 2-9). -/
def readJobRing (s : State) (f r off : Nat) : Nat :=
  let j := jobRingOf (fnOf s f) r
  match off with
  | 0x00 => half j.base false
  | 0x04 => half j.base true
  | 0x08 => jrCtrl j
  | 0x0C => j.prod
  | 0x10 => j.cons
  | 0x14 => jrStatus s f r
  | 0x18 => j.errIndex
  | 0x1C => j.session
  | _ => 0

/-- An event ring's registers (Table 2-12). -/
def readEventRing (s : State) (f r off : Nat) : Nat :=
  let e := eventRingOf (fnOf s f) r
  match off with
  | 0x00 => half e.base false
  | 0x04 => half e.base true
  | 0x08 => erCtrl e
  | 0x0C => e.cons
  | 0x10 => e.prod
  | 0x18 => half e.wbAddr false
  | 0x1C => half e.wbAddr true
  | 0x20 => half e.recBase false
  | 0x24 => half e.recBase true
  | 0x28 => e.recSize
  | 0x2C => erCoal e
  | 0x30 => erStatus e
  | 0x34 => e.dropped
  | _ => 0

/-- HATCH_OWNER.IDLE_MS: milliseconds since the holder last restarted the idle timer, saturating at 255. -/
def hatchIdleMs (s : State) : Nat := if s.hatch.held then sat 255 ((s.now - s.hatch.lastUse) / 1000) else 0

/-- HATCH_OWNER. -/
def hatchOwner (s : State) : Nat :=
  pack [(s.hatch.tag, 0, 16), (s.hatch.client, 16, 6), (ofBool s.hatch.internal, 22, 1), (ofBool s.hatch.held, 23, 1),
    (hatchIdleMs s, 24, 8)]

/-- HATCH_CTRL. -/
def hatchCtrl (h : Hatch) : Nat := pack [(h.op, 0, 4), (h.phase, 4, 1), (h.lastBytes, 8, 5), (h.tagLen, 16, 5)]

/-- HATCH_STATUS. -/
def hatchStatus (h : Hatch) : Nat :=
  pack [(ofBool h.busy, 0, 1), (ofBool h.ready, 1, 1), (ofBool h.outValid, 2, 1), (ofBool h.done, 3, 1), (ofBool h.notHeld, 4, 1),
    (h.result, 16, 16)]

/-- FLAIL_CTRL. -/
def flailCtrl (g : FlailPath) : Nat := pack [(g.alg, 0, 8), (g.lastBytes, 8, 5)]

/-- FLAIL_STATUS. -/
def flailStatus (g : FlailPath) : Nat :=
  pack [(ofBool g.busy, 0, 1), (ofBool g.ready, 1, 1), (ofBool g.done, 2, 1), (g.result, 16, 16)]

/-- The Hatch window (Tables 5-7 and 6-5); what is written only, and every other offset, reads 0 (R177). -/
def readHatch (s : State) (off : Nat) : Nat :=
  let h := s.hatch
  if off == 0x8004 then hatchOwner s
  else if off == 0x8008 then h.key
  else if off == 0x800C then hatchCtrl h
  else if off == 0x8014 then hatchStatus h
  else if 0x8020 ≤ off && off < 0x8030 then wordAt h.iv (off - 0x8020)
  else if 0x8030 ≤ off && off < 0x8040 then wordAt h.tagReg (off - 0x8030)
  else if 0x8050 ≤ off && off < 0x8060 then wordAt h.dout (off - 0x8050)
  else if off == 0x9000 then flailCtrl s.flail
  else if off == 0x9008 then flailStatus s.flail
  else if 0x9040 ≤ off && off < 0x9080 then flailOut s ((off - 0x9040) / 4)
  else 0

/-- The pending bits of vectors `32·k` to `32·k + 31`. -/
def readPba (s : State) (f k : Nat) : Nat := if k == 0 then maskOf (fnOf s f).msixPba 32 else 0

/-- The word at a multiple of 4 in BAR0 (Table 2-4); in a VF the Hatch range reads 0 (R34). -/
def readBar0 (s : State) (f off : Nat) : Nat :=
  if off < 0x1000 then readMailbox s f off
  else if off < 0x2000 then wordAt (fnOf s f).cmdBuf (off - 0x1000)
  else if off < 0x3000 then wordAt (fnOf s f).rspBuf (off - 0x2000)
  else if off < 0x3400 then readJobRing s f ((off - 0x3000) / 0x100) (off % 0x100)
  else if 0x4000 ≤ off && off < 0x4400 then readEventRing s f ((off - 0x4000) / 0x100) (off % 0x100)
  else if 0x8000 ≤ off && off < 0xC000 then (if f == 0 then readHatch s off else 0)
  else if 0xC000 ≤ off && off < 0xC200 then tblGet (fnOf s f).msixTable ((off - 0xC000) / 4) 0
  else if 0xD000 ≤ off && off < 0xD008 then readPba s f ((off - 0xD000) / 4)
  else 0

/-! ### BAR2 (R31) -/

/-- The alarm window (Table 12-8), by the offset in it. -/
def readAlarm (s : State) (off : Nat) : Nat :=
  match off with
  | 0x000 => alarmSummary s
  | 0x004 => alarmActive s
  | 0x008 => s.scarecrow.seen
  | 0x00C => s.scarecrow.latchSrc
  | 0x010 => s.scarecrow.count
  | 0x014 => loftStatus s
  | 0x018 => sense s
  | 0x01C => series7State s
  | _ =>
    if 0x100 ≤ off && off < 0x180 then monitorWord s ((off - 0x100) / 4)
    else if 0x180 ≤ off && off < 0x200 then thresholdWord s ((off - 0x180) / 4)
    else 0

/-- The power window (Table 16-6). -/
def readPower (s : State) (off : Nat) : Nat :=
  match off with
  | 0x00 => pwrState s
  | 0x04 => pwrPhases s
  | 0x08 => pwrClocks s
  | 0x0C => pwrInputMw s
  | 0x10 => half (pwrStonesAwake s) false
  | 0x14 => half (pwrStonesAwake s) true
  | _ => 0

/-- The pair window (Table 14-10). -/
def readPair (s : State) (off : Nat) : Nat :=
  match off with
  | 0x00 => pairState s
  | 0x04 => pairHitch s
  | 0x08 => pairPaths s
  | 0x10 => half s.pair.epoch false
  | 0x14 => half s.pair.epoch true
  | 0x18 => half (ackedField s) false
  | 0x1C => half (ackedField s) true
  | 0x20 => half s.pair.peerSerial false
  | 0x24 => half s.pair.peerSerial true
  | 0x28 => pack [(s.pair.driven, 0, 16), (fieldSensed s, 16, 16)]
  | 0x2C => s.pair.takeovers
  | 0x30 => s.pair.gap
  | _ => 0

/-- The update window (Table 15-8). -/
def readUpdate (s : State) (off : Nat) : Nat :=
  match off with
  | 0x00 => updateStatus s
  | 0x04 => pack [(chunksReceived s, 0, 8), (chunkCount s, 8, 8)]
  | 0x08 => trialLeftMs s
  | 0x0C => updateRefuseMask s
  | 0x10 => pack [(s.update.step, 0, 8), (s.update.code, 8, 8)]
  | 0x60 => s.update.svnFloor
  | _ =>
    if 0x20 ≤ off && off < 0x3C then (running s).versions.getD ((off - 0x20) / 4) 0
    else if 0x40 ≤ off && off < 0x5C && s.update.verified then s.update.staged.versions.getD ((off - 0x40) / 4) 0
    else 0

/-- The high dword of a port counter: what the last read of the low dword latched, else the counter's own (R100). -/
def counterHigh (s : State) (p k : Nat) : Nat :=
  match tblFind (portOf s p).latched k with
  | some v => v
  | none => half (counterOfPort s p k) true

/-- A port's block of 0x200 bytes (Tables 3-10 and 3-11); bytes not listed read 0 (R99). -/
def readPort (s : State) (p off : Nat) : Nat :=
  match off with
  | 0x000 => portLink s p
  | 0x004 => portMode s p
  | 0x008 => portFlow s p
  | 0x010 => ofLe ((macOf s p).take 4)
  | 0x014 => ofLe (slice (macOf s p) 4 2)
  | 0x018 => (portOf s p).cfg.vlan
  | _ =>
    if 0x040 ≤ off && off < 0x100 then
      (if off % 8 == 0 then half (counterOfPort s p ((off - 0x40) / 8)) false else counterHigh s p ((off - 0x40) / 8))
    else 0

/-- The entry in slot `k` of the Ledger window: of the latest 4,096, the one whose SEQ is `k` modulo 4,096 (R311). -/
def ledgerSlot (s : State) (k : Nat) : Option LedgerEntry :=
  (s.ledger.entries.drop (s.ledger.entries.length - 4096)).find? (fun e => e.seq % 4096 == k)

/-- The word at a byte offset of the Ledger window; a slot that has never held an entry reads zero (R311). An entry is written in
one step, so none is seen while its SEQ still reads 0. -/
def readLedger (s : State) (off : Nat) : Nat :=
  match ledgerSlot s (off / 128) with
  | some e => wordAt (ledgerRead s.ledger e) (off % 128)
  | none => 0

/-- The word at a multiple of 4 in the PF's BAR2 (Table 2-1). -/
def readBar2 (s : State) (off : Nat) : Nat :=
  if off < 0x20 then wordAt (deviceShape s) off
  else if off == 0x20 then deviceStatus s
  else if off == 0x28 then half s.ident.serial false
  else if off == 0x2C then half s.ident.serial true
  else if 0x1000 ≤ off && off < 0x2000 then readAlarm s (off - 0x1000)
  else if 0x2000 ≤ off && off < 0x3000 then readPower s (off - 0x2000)
  else if 0x3000 ≤ off && off < 0x4000 then readPair s (off - 0x3000)
  else if 0x4000 ≤ off && off < 0x5000 then readUpdate s (off - 0x4000)
  else if 0x10000 ≤ off && off < 0x20000 then readPort s ((off - 0x10000) / 0x200) (off % 0x200)
  else if 0x80000 ≤ off && off < 0x100000 then readLedger s (off - 0x80000)
  else 0

/-! ### An access (R30) -/

/-- The offset is the low half of a 64-bit register of BAR0 that can be written. -/
def wideBar0 (off : Nat) : Bool :=
  (0x3000 ≤ off && off < 0x3400 && off % 0x100 == 0) ||
  (0x4000 ≤ off && off < 0x4400 && (off % 0x100 == 0 || off % 0x100 == 0x18 || off % 0x100 == 0x20))

/-- The offset is the low half of a 64-bit register of BAR2: DEVICE_SERIAL, PWR_STONES_AWAKE, three of the pair window, a port
counter, or the SEQ or the tick of a Ledger entry. -/
def wideBar2 (off : Nat) : Bool :=
  [0x28, 0x2010, 0x3010, 0x3018, 0x3020].contains off ||
  (0x10000 ≤ off && off < 0x20000 && 0x40 ≤ off % 0x200 && off % 0x200 < 0x100) ||
  (0x80000 ≤ off && off < 0x100000 && off % 128 < 16)

/-- The word at a multiple of 4 in a function's window. -/
def readWord (s : State) (f : Nat) (bar : Bar) (off : Nat) : Nat :=
  match bar with
  | .bar0 => readBar0 s f off
  | .bar2 => if f == 0 then readBar2 s off else 0

/-- A 64-bit read of a port counter gives both halves at once, whatever is latched (R100). -/
def readWide (s : State) (f : Nat) (bar : Bar) (off : Nat) : Nat :=
  if bar == .bar2 && f == 0 && 0x10000 ≤ off && off < 0x20000 then
    counterOfPort s ((off - 0x10000) / 0x200) ((off % 0x200 - 0x40) / 8)
  else readWord s f bar off + 2 ^ 32 * readWord s f bar (off + 4)

/-- A read of `size` bytes at an offset of a function's window: an aligned word, an aligned 64-bit register at once, zeros for any
other size (R30). -/
def readRegister (s : State) (f : Nat) (bar : Bar) (off size : Nat) : Nat :=
  if !fnReached s f then 0
  else if size == 4 && off % 4 == 0 then readWord s f bar off
  else if size == 8 && off % 8 == 0 && (match bar with | .bar0 => wideBar0 off | .bar2 => wideBar2 off) then readWide s f bar off
  else 0

/-! ### The link (R27) -/

/-- The Link Status register: current link speed in [3:0], from 1 for 2.5 GT/s, and negotiated link width in [9:4], in the layout of
the PCI Express standard, notes/assumptions/57.md (PRESUMED). -/
def linkStatus (s : State) : Nat := pack [(s.power.linkRate, 0, 4), (s.power.linkWidth, 4, 6)]

end Sys2Proof.Machine
end

