-- ==== Sys2Proof/Machine/Rings.lean ====
section
/-! DEFINITION. Job rings and event rings as the host drives them (R46–R49, R56, R60, R61), and writes to the registers
(R30, R31, R34). -/

namespace Sys2Proof.Machine

/-- Change a job ring. -/
def setJobRing (s : State) (f r : Nat) (j : JobRing) : State :=
  let w := fnOf s f
  setFn s f { w with job := tblSet w.job r j }

/-- Change an event ring. -/
def setEventRing (s : State) (f r : Nat) (e : EventRing) : State :=
  let w := fnOf s f
  setFn s f { w with event := tblSet w.event r e }

/-- A ring of a function that can be reached. -/
def ringReached (s : State) (f r : Nat) : Bool := fnReached s f && r < 4

/-! ### Job rings (R46–R49) -/

/-- The ring's configuration is good (R48). -/
def jobRingOk (s : State) (f : Nat) (j : JobRing) : Bool :=
  4 ≤ j.sizeLog2 && j.sizeLog2 ≤ 15 && j.base % 64 == 0 && sessionAuthed s f j.session

/-- A write to JR_CTRL: PRIORITY at any time, SIZE_LOG2 while the ring is disabled; a change of ENABLE from 0 to 1 takes the
configuration or halts with CAUSE 1 (R46, R48), one to 0 stops fetching (R49). -/
def writeJrCtrl (f r v : Nat) (s : State) : State :=
  let j := jobRingOf (fnOf s f) r
  let on := bit v 0
  let k := { j with priority := bits v 2 1, sizeLog2 := if j.enable then j.sizeLog2 else bits v 7 4, enable := on }
  if on && !j.enable then
    let k := { k with halted := false, cause := 0 }
    let s := setJobRing s f r k
    if jobRingOk s f k then s else haltRing s f r 1
  else setJobRing s f r k

/-- JOB_RING_ENABLE: a write to JR_CTRL with ENABLE 1. -/
def execJobRingEnable (fn ring ctrl : Nat) (s : State) : Out :=
  done s (if ringReached s fn ring && bit ctrl 0 then writeJrCtrl fn ring ctrl s else s)

/-- JOB_RING_DISABLE: a write to JR_CTRL with ENABLE 0. -/
def execJobRingDisable (fn ring ctrl : Nat) (s : State) : Out :=
  done s (if ringReached s fn ring && !bit ctrl 0 then writeJrCtrl fn ring ctrl s else s)

/-- A write to JR_PROD. -/
def writeJrProd (f r v : Nat) (s : State) : State := setJobRing s f r { jobRingOf (fnOf s f) r with prod := v % 65536 }

/-- JOB_RING_PRODUCE. -/
def execJobRingProduce (fn ring index : Nat) (s : State) : Out :=
  done s (if ringReached s fn ring then writeJrProd fn ring index s else s)

/-! ### Event rings (R56, R60, R61) -/

/-- The ring accepts its configuration (Table 2-12). -/
def eventRingOk (e : EventRing) : Bool :=
  4 ≤ e.sizeLog2 && e.sizeLog2 ≤ 15 && e.base % 64 == 0 && 1 ≤ e.vector && e.wbAddr % 8 == 0 && e.recBase % 4096 == 0 &&
  e.recSize % 4096 == 0 && e.recSize ≤ 67108864

/-- ENABLE goes from 0 to 1: the indices, the record area and SEQ start anew, and what waits is written (R56). A refused
configuration leaves the ring disabled with ENABLE reading 1 until software clears it, notes/assumptions/13.md (DEDUCED). -/
def enableEventRing (f r : Nat) (e : EventRing) (s : State) : State :=
  let ok := eventRingOk e
  let e := { e with enable := true, enabled := ok, cfgErr := !ok, prod := 0, cons := 0, seq := 0, live := [], recNext := 0
                    unsignalled := 0 }
  let s := setEventRing s f r e
  if ok then startJobs (flushRing s f r) else s

/-- ENABLE goes to 0: completions wait, unsolicited events that wait are dropped and counted (R56). -/
def disableEventRing (e : EventRing) : EventRing :=
  let gone := (e.queue.filter (·.unsolicited)).length
  { e with enable := false, enabled := false, queue := e.queue.filter (fun v => !v.unsolicited)
           dropped := sat32 (e.dropped + gone), lost := e.lost + gone }

/-- A write to ER_CTRL. -/
def writeErCtrl (f r v : Nat) (s : State) : State :=
  let e := eventRingOf (fnOf s f) r
  let k := { e with sizeLog2 := if e.enabled then e.sizeLog2 else bits v 7 4, vector := bits v 12 8, mask := bit v 13 }
  if bit v 0 && !e.enable then enableEventRing f r k s
  else if !bit v 0 && e.enable then setEventRing s f r (disableEventRing k)
  else setEventRing s f r k

/-- EVENT_RING_ENABLE: a write to ER_CTRL with ENABLE 1. -/
def execEventRingEnable (fn ring ctrl : Nat) (s : State) : Out :=
  done s (if ringReached s fn ring && bit ctrl 0 then writeErCtrl fn ring ctrl s else s)

/-- EVENT_RING_DISABLE: a write to ER_CTRL with ENABLE 0. -/
def execEventRingDisable (fn ring ctrl : Nat) (s : State) : Out :=
  done s (if ringReached s fn ring && !bit ctrl 0 then writeErCtrl fn ring ctrl s else s)

/-- A write to ER_CONS: entries and records before it are returned, what waits is written, and the jobs that waited for it start
(R55); ignored while the ring is disabled (R56, R58, R60). -/
def writeErCons (f r v : Nat) (s : State) : State :=
  let e := eventRingOf (fnOf s f) r
  if !e.enabled then s
  else
    let n := (v % 65536 + ringSize e - e.cons) % ringSize e
    startJobs (flushRing (setEventRing s f r { e with cons := v % 65536, live := e.live.drop n }) f r)

/-- EVENT_RING_CONSUME. -/
def execEventRingConsume (fn ring index : Nat) (s : State) : Out :=
  done s (if ringReached s fn ring then writeErCons fn ring index s else s)

/-- The coalescing time of the oldest entry not signalled has passed (R61), under the settings that the entry was written
under: new ones apply from the next entry (R56). While the ring is disabled nothing is sent, and enabling drops what pends,
notes/assumptions/68.md (DESIGN CHOICE). -/
def coalesceExpires (f r : Nat) (s : State) : State :=
  let e := eventRingOf (fnOf s f) r
  if e.unsignalled == 0 || e.oldUsec == 0 || !e.enabled then s
  else
    let s := advanceTo s (e.oldest + e.oldUsec)
    let s := setEventRing s f r { e with unsignalled := 0 }
    if e.oldMask then s else signal s f e.oldVector

/-- EVENT_COALESCE_EXPIRY. -/
def execEventCoalesceExpiry (fn ring : Nat) (s : State) : Out :=
  done s (if ringReached s fn ring then coalesceExpires fn ring s else s)

/-! ### Register writes (R30)

A 64-bit access is two 32-bit ones where the register is 64 bits wide; any other size is ignored. The value of a register that
another row writes goes the way that row takes. -/

/-- `v` with one 32-bit half replaced. -/
def withHalf (old : Nat) (high : Bool) (v : Nat) : Nat :=
  if high then v * 2 ^ 32 + old % 2 ^ 32 else old / 2 ^ 32 * 2 ^ 32 + v

/-- Bytes with the 32-bit word at `off` replaced. -/
def withWord (b : Bytes) (n off v : Nat) : Bytes := (fit n b).take off ++ le 4 v ++ (fit n b).drop (off + 4)

/-- A write of 1s clears bits. -/
def cleared (b : Bool) (v k : Nat) : Bool := b && !bit v k

/-- A job ring's register at an offset (Table 2-9). -/
def writeJobRing (f r off v : Nat) (s : State) : State :=
  let j := jobRingOf (fnOf s f) r
  let idle := fun k : JobRing => if j.enable then s else setJobRing s f r k
  match off with
  | 0x00 => idle { j with base := withHalf j.base false v }
  | 0x04 => idle { j with base := withHalf j.base true v }
  | 0x08 => writeJrCtrl f r v s
  | 0x0C => writeJrProd f r v s
  | 0x1C => idle { j with session := v }
  | _ => s

/-- An event ring's register at an offset (Table 2-12). -/
def writeEventRing (f r off v : Nat) (s : State) : State :=
  let e := eventRingOf (fnOf s f) r
  let idle := fun k : EventRing => if e.enabled then s else setEventRing s f r k
  match off with
  | 0x00 => idle { e with base := withHalf e.base false v }
  | 0x04 => idle { e with base := withHalf e.base true v }
  | 0x08 => writeErCtrl f r v s
  | 0x0C => writeErCons f r v s
  | 0x18 => idle { e with wbAddr := withHalf e.wbAddr false v }
  | 0x1C => idle { e with wbAddr := withHalf e.wbAddr true v }
  | 0x20 => idle { e with recBase := withHalf e.recBase false v }
  | 0x24 => idle { e with recBase := withHalf e.recBase true v }
  | 0x28 => idle { e with recSize := v }
  | 0x2C => setEventRing s f r { e with coalCount := bits v 15 0, coalUsec := bits v 31 16 }
  | 0x34 => setEventRing s f r { e with dropped := e.dropped - (e.dropped &&& v) }
  | _ => s

/-- A word of the MSI-X table; a pending message of a vector that is unmasked goes out (R61). -/
def writeMsix (f k v : Nat) (s : State) : State :=
  let w := fnOf s f
  let s := setFn s f { w with msixTable := tblSet w.msixTable k v }
  let n := k / 4
  if k % 4 == 3 && !bit v 0 && w.msixPba.contains n then
    let w := fnOf s f
    signal (setFn s f { w with msixPba := w.msixPba.filter (· != n) }) f n
  else s

/-- A register of the mailbox control page (Table 2-5). MBX_CTRL with GO and RELEASE both 1: GO is judged first, then RELEASE
acts, notes/assumptions/10.md (DESIGN CHOICE). -/
def writeMailbox (f off v : Nat) (s : State) : State :=
  let w := fnOf s f
  match off with
  | 0x000 =>
    let s := if bit v 0 then goRejected s f else s
    if bit v 1 then mbxReleased s f else s
  | 0x004 => setFn s f { w with rejectedGo := cleared w.rejectedGo v 2 }
  | 0x008 => setFn s f { w with mbxDone := cleared w.mbxDone v 0, ringHalt := cleared w.ringHalt v 1, notice := cleared w.notice v 2 }
  | 0x00C => setFn s f { w with intMask := bits v 2 0 }
  | _ => s

/-- A word of the command buffer, which takes writes unless a command is in hand (R39); it takes them while STATE is NOT_READY,
notes/assumptions/10.md (DEDUCED). -/
def writeCmdBuf (f off v : Nat) (s : State) : State :=
  let w := fnOf s f
  if w.state == .busy || w.state == .done then s else setFn s f { w with cmdBuf := withWord w.cmdBuf 4096 off v }

/-- HATCH_CMD: START, then FINAL, then ABORT. -/
def writeHatchCmd (v : Nat) (s : State) : State :=
  let s := if bit v 0 then hatchStart s else s
  let s := if bit v 1 then hatchFinal s else s
  if bit v 2 then hatchAbort s else s

/-- FLAIL_CMD. -/
def writeFlailCmd (v : Nat) (s : State) : State :=
  let s := if bit v 0 then flailStart s else s
  let s := if bit v 1 then flailFinal s else s
  if bit v 2 then flailAbort s else s

/-- A register of the Hatch window (Tables 5-7, 6-5); the write has found a holder. -/
def writeHatchReg (off v : Nat) (s : State) : State :=
  let h := s.hatch
  let g := s.flail
  if off == 0x8008 then { s with hatch := { h with key := v } }
  else if off == 0x800C then
    { s with hatch := { h with op := bits v 3 0, phase := bits v 4 4, lastBytes := bits v 12 8, tagLen := bits v 20 16 } }
  else if off == 0x8010 then writeHatchCmd v s
  else if off == 0x8014 then { s with hatch := { h with done := cleared h.done v 3, notHeld := cleared h.notHeld v 4 } }
  else if 0x8020 ≤ off && off < 0x8030 then { s with hatch := { h with iv := withWord h.iv 16 (off - 0x8020) v } }
  else if 0x8030 ≤ off && off < 0x8040 then { s with hatch := { h with tagReg := withWord h.tagReg 16 (off - 0x8030) v } }
  else if 0x8040 ≤ off && off < 0x804C then { s with hatch := { h with din := withWord h.din 12 (off - 0x8040) v } }
  else if off == 0x804C then hatchSubmit v s
  else if off == 0x9000 then { s with flail := { g with alg := bits v 7 0, lastBytes := bits v 12 8 } }
  else if off == 0x9004 then writeFlailCmd v s
  else if off == 0x9008 then { s with flail := { g with done := cleared g.done v 2 } }
  else if 0x9010 ≤ off && off < 0x901C then if !g.ready then s else { s with flail := { g with din := withWord g.din 12 (off - 0x9010) v } }
  else if off == 0x901C then flailSubmit v s
  else s

/-- A 32-bit write to BAR0 (Table 2-4). -/
def writeBar0 (f off v : Nat) (s : State) : State :=
  if off < 0x1000 then writeMailbox f off v s
  else if off < 0x2000 then writeCmdBuf f (off - 0x1000) v s
  else if 0x3000 ≤ off && off < 0x3400 then writeJobRing f ((off - 0x3000) / 0x100) (off % 0x100) v s
  else if 0x4000 ≤ off && off < 0x4400 then writeEventRing f ((off - 0x4000) / 0x100) (off % 0x100) v s
  else if 0x8000 ≤ off && off < 0xC000 then
    (if f != 0 then s else if off == 0x8000 then hatchLock v s else hatchWrite (writeHatchReg off v) s)
  else if 0xC000 ≤ off && off < 0xC200 then writeMsix f ((off - 0xC000) / 4) v s
  else s

/-- The monitors whose bit is written as 1 are no longer seen (Table 12-8). -/
def clearSeen (v : Nat) (s : State) : State := setScarecrow s { s.scarecrow with seen := s.scarecrow.seen - (s.scarecrow.seen &&& v) }

/-- A 32-bit write to the PF's BAR2 (Table 2-1): only write-1-to-clear fields are not read only. -/
def writeBar2 (off v : Nat) (s : State) : State :=
  if off == 0x1008 then clearSeen v s
  else if off == 0x2000 then { s with power := { s.power with switchFault := cleared s.power.switchFault v 7 } }
  else if off == 0x3004 then
    { s with pair := { s.pair with collision := cleared s.pair.collision v 3, lineFault := cleared s.pair.lineFault v 4 } }
  else s

/-- The offset is the low half of a 64-bit register that can be written. -/
def wideRegister (bar : Bar) (off : Nat) : Bool :=
  bar == .bar0 && wideBar0 off

/-- A write of `size` bytes (R30). -/
def writeRegister (f : Nat) (bar : Bar) (off size v : Nat) (s : State) : State :=
  let w := fun (o x : Nat) (s : State) => match bar with
    | .bar0 => writeBar0 f o (x % 2 ^ 32) s
    | .bar2 => if f == 0 then writeBar2 o (x % 2 ^ 32) s else s
  if size == 4 && off % 4 == 0 then w off v s
  else if size == 8 && off % 8 == 0 && wideRegister bar off then w (off + 4) (v / 2 ^ 32) (w off v s)
  else s

end Sys2Proof.Machine
end

