-- ==== Sys2Proof/Machine/Go.lean ====
section
/-! DEFINITION. GO as a register write (R36, R39): the command is read out of the command buffer, and the meaning of its CODE runs.
What such a command brings beside its bytes, a file that its DMA reads or how its exchange with a card goes, is a free value,
notes/assumptions/10.md. -/

namespace Sys2Proof.Machine

/-! ### The command in the buffer (R36, Table 2-6) -/

/-- CODE. -/
def bufCode (b : Bytes) : Nat := rd b 0 2

/-- The rest of the header at 0x1000 and the PAYLOAD_LEN bytes from 0x1020. -/
def bufCommand (f : Nat) (b : Bytes) : MbxReq :=
  { fn := f, flags := rd b 2 2, tag := rd b 4 4, len := rd b 8 4, session := rd b 12 4, rsv := slice b 16 16
    payload := slice b 32 (rd b 8 4) }

/-! ### The meaning of a CODE (Table 2-17) -/

/-- A CODE with its meaning. -/
abbrev GoRow := Nat × (MbxReq → State → Out)

/-- The file that the command's DMA reads from host memory. FREE VALUE. -/
def withFile (k : MbxReq → Option Bytes → State → Out) (q : MbxReq) (s : State) : Out := k q (Config.hostFile s.rng) (draw s)

/-- How an exchange with a card goes, by a number. -/
def linkNo (n : Nat) : ApduLink :=
  { cut := match n % 3 with | 1 => some .removed | 2 => some .silent | _ => none
    acted := n / 3 % 2 == 1
    tries := [n / 6 % 5, n / 30 % 5, n / 150 % 5] }

/-- How the exchanges of a command with a card go. FREE VALUE. -/
def freeLink (n : Nat) : CardLink := (List.range 18).map (fun k => linkNo (n / 750 ^ k % 750))

/-- A command that has an exchange with a card. -/
def withLink (k : MbxReq → CardLink → State → Out) (q : MbxReq) (s : State) : Out :=
  k q (freeLink (Config.free 0x0318 s.rng)) (draw s)

/-- The codes of sessions and clients. -/
def sessionGo : List GoRow :=
  [(0x0001, execGetInfo), (0x0002, execSessionOpen), (0x0003, execSessionAuth), (0x0004, execSessionClose),
   (0x0005, execClientEnroll), (0x0006, execClientRevoke)]

/-- The codes of keys and counters. -/
def keyGo : List GoRow :=
  [(0x0101, execKeyGenerate), (0x0102, execKeyImport), (0x0103, execKeyImportWrapped), (0x0104, execKeyExportWrapped),
   (0x0105, execKeyDestroy), (0x0106, execKeyInfo), (0x0107, execKeySetAttr), (0x0108, execKeyPublicRead),
   (0x0110, execCounterRead), (0x0111, execCounterAdvance), (0x0112, execCounterAllocate)]

/-- The codes of contexts, curves, strands and ports. -/
def strandGo : List GoRow :=
  [(0x0220, execContextClaim), (0x0221, execContextRelease), (0x0222, execContextInfo), (0x0230, execTwinSet),
   (0x0310, execDigestContextReset), (0x0420, execCurveList), (0x0501, execStrandConfig), (0x0502, execStrandList),
   (0x0503, execStrandStatus), (0x0504, execStrandClose), (0x0505, execStrandSubscribe), (0x0506, execScannerTrustImport),
   (0x0507, execSealConfig), (0x0508, execSealKeySet), (0x0509, execPortConfig), (0x050A, execPortStatus),
   (0x050B, execPortCounters)]

/-- The codes of documents. -/
def documentGo : List GoRow :=
  [(0x0602, withFile execTrustImportMasterlist), (0x0603, withFile execTrustImportCrl), (0x0604, execTrustImportIsKey),
   (0x0605, execTrustList), (0x0606, execTrustRemove), (0x0607, execVerdictKeySet), (0x0608, execDscacheFlush),
   (0x0609, execVerifyPolicySet)]

/-- The codes of sheaves. -/
def sheafGo : List GoRow :=
  [(0x0701, withFile execSheafLoad), (0x0702, execSheafList), (0x0703, execSheafRemove), (0x0704, execSheafBind),
   (0x0705, execSheafSignerSet)]

/-- The codes of cards. -/
def cardGo : List GoRow :=
  [(0x0801, execCardStatus), (0x0802, withLink execOfficerEnrol), (0x0803, execOfficerRemove), (0x0804, execQuorumSet),
   (0x0805, execQuorumBegin), (0x0806, withLink execQuorumApprove), (0x0807, execQuorumCancel),
   (0x0808, withLink execCardForceErase), (0x0809, execCustodyJournalRead)]

/-- The codes of the pair. -/
def pairGo : List GoRow :=
  [(0x0901, execPairBegin), (0x0902, execPairComplete), (0x0903, execPairStatus), (0x0904, execPairSwitchover),
   (0x0905, execPairDissolve), (0x0906, execFieldOutputSet), (0x0907, execFieldOutputRead)]

/-- The codes of bales. -/
def baleGo : List GoRow :=
  [(0x0A01, execBaleBegin), (0x0A02, withFile execBaleChunk), (0x0A03, execBaleChunkMap), (0x0A04, execBaleVerify),
   (0x0A05, execBaleActivate), (0x0A06, execBaleStatus), (0x0A07, execBaleAbandon), (0x0A08, execUpdateLockSet)]

/-- The codes of power and alarms. -/
def powerGo : List GoRow :=
  [(0x0B01, execPowerStateSet), (0x0B02, execPowerStatus), (0x0B03, execTelemetryRead), (0x0B04, execCompatSet),
   (0x0B05, execModeRead), (0x0C01, execAlarmStatus), (0x0C02, execMonitorConfig), (0x0C03, execSelfTest),
   (0x0C04, execThaw), (0x0C05, execVigilLogRead), (0x0C06, execLedgerRead), (0x0C07, execLedgerHead)]

/-- The codes of the life-cycle and time. -/
def lifeGo : List GoRow :=
  [(0x0D01, execLifecycleStatus), (0x0D02, execLifecycleAdvance), (0x0D03, execOwnerClaim), (0x0D04, execDebugChallenge),
   (0x0D05, execDebugUnlock), (0x0D06, execDebugClose), (0x0D07, execDecommission), (0x0E01, execTimeRead),
   (0x0E02, execTimeSet), (0x0E03, execTimeKeySet), (0x0E04, execDriftRead)]

/-- The M codes of Table 2-17 with their meanings. -/
def goRows : List GoRow :=
  sessionGo ++ keyGo ++ strandGo ++ documentGo ++ sheafGo ++ cardGo ++ pairGo ++ baleGo ++ powerGo ++ lifeGo

/-- GO on an IDLE mailbox: the meaning of the CODE in its buffer; a CODE that is not allocated is answered as R67 gives. -/
def runBuffer (s : State) (f : Nat) : Out :=
  let b := (fnOf s f).cmdBuf
  let q := bufCommand f b
  match goRows.find? (fun r => r.1 == bufCode b) with
  | some r => r.2 q s
  | none => execMbxGoCodeNotAllocated (bufCode b) q s

/-- A command that waited for the Steward is taken, once it runs again (R386). -/
def takeGo (s : State) (f : Nat) : Out :=
  match (fnOf s f).held with
  | some { why := .go q, code, .. } =>
    let s := setFn s f { fnOf s f with state := .idle, held := none }
    (match goRows.find? (fun r => r.1 == code) with
     | some r => r.2 q s
     | none => execMbxGoCodeNotAllocated code q s)
  | _ => .next s

/-- The function whose command waits for the Steward, the earliest taken first. -/
def waitingGo (s : State) : Option Nat :=
  let l := s.fns.filterMap (fun e => match e.2.held with
    | some { why := .go _, turn, .. } => some (turn, e.1)
    | _ => none)
  (l.foldl (fun best x => match best with
    | some b => if x.1 < b.1 then some x else some b
    | none => some x) none).map (·.2)

/-- The write is one of MBX_CTRL with GO to a mailbox that is IDLE. A RELEASE written with it finds STATE not DONE and is ignored. -/
def isGo (f : Nat) (bar : Bar) (off size v : Nat) (s : State) : Bool :=
  bar == .bar0 && off == 0 && size == 4 && bit v 0 && (fnOf s f).state == .idle

/-- REGISTER_WRITE. -/
def execRegisterWrite (fn : Nat) (bar : Bar) (offset size value : Nat) (s : State) : Out :=
  if !fnReached s fn then done s s
  else if isGo fn bar offset size value s then runBuffer s fn
  else done s (writeRegister fn bar offset size value s)

end Sys2Proof.Machine
end

