-- ==== Sys2Proof/Machine/Jobs.lean ====
section
/-! DEFINITION. The job rows of the opcode table: a job ring's head descriptor is fetched (R46–R48, R50), with what its DMA
reads, and the job waits for its engine (R55). -/

namespace Sys2Proof.Machine

/-! ### Fetching (R47–R50) -/

/-- Throttle lets a function's rings fetch 10,000 descriptors in a second (R345), notes/assumptions/48.md: seconds are those of
the tick. -/
def fetchAllowed (s : State) (f : Nat) : Bool :=
  let w := fnOf s f
  !throttled s || w.fetchSec != s.now / 1000000 || w.fetches < 10000

/-- A descriptor of function `f` is fetched: it is counted. -/
def countFetch (s : State) (f : Nat) : State :=
  let w := fnOf s f
  let sec := s.now / 1000000
  setFn s f { w with fetchSec := sec, fetches := if w.fetchSec == sec then w.fetches + 1 else 1 }

/-- Completions of function `f` that wait for ring space (R484). -/
def waitingCompletions (s : State) (f : Nat) : Nat :=
  ((fnOf s f).event.map (fun e => (e.2.queue.filter (fun v => !v.unsolicited)).length)).sum

/-- Ring `r` of function `f` fetches its next descriptor now: it is enabled, not halted and not empty (R47, R49), Bus Master
Enable is set (R54), the start has brought up service (R446, R447), and neither Throttle (R345) nor a full completion buffer (R484) holds it. -/
def fetches (s : State) (f r : Nat) : Bool :=
  let j := jobRingOf (fnOf s f) r
  fnReached s f && s.update.mbxReady && r < 4 && j.enable && !j.halted && j.cons % 2 ^ j.sizeLog2 != j.prod % 2 ^ j.sizeLog2 &&
  (fnOf s f).busMaster && fetchAllowed s f && waitingCompletions s f < 4096

/-- The floor a job is placed on: its context's, or the one chosen at the fetch (R171). -/
def placeJob (s : State) (g : Engine) (d : Desc) : Nat :=
  match g, jobContext s d with
  | .thresher, some x => x.floor
  | .thresher, none => chooseFloor s
  | _, _ => 0

/-- The descriptor is consumed: the job joins its queue with its ring's priority (R46, R172, R224), and its session is used
(R44). -/
def takeDescriptor (s : State) (op : Nat) (g : Engine) (q : JobReq) : State :=
  let j := jobRingOf (fnOf s q.fn) q.ring
  let w := fnOf s q.fn
  let s := setFn s q.fn { w with job := tblSet w.job q.ring { j with cons := (j.cons + 1) % 2 ^ j.sizeLog2 } }
  let s := touchSession (countFetch s q.fn) q.fn j.session
  let b : Job := { id := s.jobNo, opcode := op, engine := g, req := q, priority := j.priority, queue := j.priority
                   since := s.now, turn := s.turnNo, floor := placeJob s g q.desc, session := j.session
                   context := if q.desc.context == 0xFFFFFFFF then none else some q.desc.context }
  { s with jobs := s.jobs ++ [b], jobNo := s.jobNo + 1, turnNo := s.turnNo + 1 }

/-- A ring's next descriptor is read: a failed read and an event ring that is not enabled halt the ring, and the descriptor is
not consumed (R48). -/
def fetchJob (op : Nat) (g : Engine) (q : JobReq) (s : State) : State :=
  if !fetches s q.fn q.ring then s
  else if !q.fetched then haltRing s q.fn q.ring 2
  else if !(eventRingOf (fnOf s q.fn) q.desc.eventRing).enabled then haltRing s q.fn q.ring 3
  else startJobs (takeDescriptor s op g q)

/-! ### Thresher -/

/-- AES_GCM_ENCRYPT. -/
def execAesGcmEncrypt (j : JobReq) (s : State) : Out := done s (fetchJob 0x0201 .thresher j s)

/-- AES_GCM_DECRYPT. -/
def execAesGcmDecrypt (j : JobReq) (s : State) : Out := done s (fetchJob 0x0202 .thresher j s)

/-- AES_GMAC_GENERATE. -/
def execAesGmacGenerate (j : JobReq) (s : State) : Out := done s (fetchJob 0x0203 .thresher j s)

/-- AES_GMAC_VERIFY. -/
def execAesGmacVerify (j : JobReq) (s : State) : Out := done s (fetchJob 0x0204 .thresher j s)

/-- AES_CTR. -/
def execAesCtr (j : JobReq) (s : State) : Out := done s (fetchJob 0x0205 .thresher j s)

/-- AES_CBC_ENCRYPT. -/
def execAesCbcEncrypt (j : JobReq) (s : State) : Out := done s (fetchJob 0x0206 .thresher j s)

/-- AES_CBC_DECRYPT. -/
def execAesCbcDecrypt (j : JobReq) (s : State) : Out := done s (fetchJob 0x0207 .thresher j s)

/-- AES_CMAC_GENERATE. -/
def execAesCmacGenerate (j : JobReq) (s : State) : Out := done s (fetchJob 0x0208 .thresher j s)

/-- AES_CMAC_VERIFY. -/
def execAesCmacVerify (j : JobReq) (s : State) : Out := done s (fetchJob 0x0209 .thresher j s)

/-- AES_ECB_WRAP. -/
def execAesEcbWrap (j : JobReq) (s : State) : Out := done s (fetchJob 0x020A .thresher j s)

/-- AES_ECB_UNWRAP. -/
def execAesEcbUnwrap (j : JobReq) (s : State) : Out := done s (fetchJob 0x020B .thresher j s)

/-- TDEA_CBC_ENCRYPT. -/
def execTdeaCbcEncrypt (j : JobReq) (s : State) : Out := done s (fetchJob 0x0210 .thresher j s)

/-- TDEA_CBC_DECRYPT. -/
def execTdeaCbcDecrypt (j : JobReq) (s : State) : Out := done s (fetchJob 0x0211 .thresher j s)

/-- TDEA_MAC3. -/
def execTdeaMac3 (j : JobReq) (s : State) : Out := done s (fetchJob 0x0212 .thresher j s)

/-! ### Flail -/

/-- DIGEST. -/
def execDigest (j : JobReq) (s : State) : Out := done s (fetchJob 0x0301 .flail j s)

/-- XOF. -/
def execXof (j : JobReq) (s : State) : Out := done s (fetchJob 0x0302 .flail j s)

/-! ### Mill -/

/-- ECDSA_SIGN. -/
def execEcdsaSign (j : JobReq) (s : State) : Out := done s (fetchJob 0x0401 .mill j s)

/-- ECDSA_VERIFY. -/
def execEcdsaVerify (j : JobReq) (s : State) : Out := done s (fetchJob 0x0402 .mill j s)

/-- EDDSA_SIGN. -/
def execEddsaSign (j : JobReq) (s : State) : Out := done s (fetchJob 0x0403 .mill j s)

/-- EDDSA_VERIFY. -/
def execEddsaVerify (j : JobReq) (s : State) : Out := done s (fetchJob 0x0404 .mill j s)

/-- ECDH. -/
def execEcdh (j : JobReq) (s : State) : Out := done s (fetchJob 0x0405 .mill j s)

/-- RSA_SIGN. -/
def execRsaSign (j : JobReq) (s : State) : Out := done s (fetchJob 0x0406 .mill j s)

/-- RSA_VERIFY. -/
def execRsaVerify (j : JobReq) (s : State) : Out := done s (fetchJob 0x0407 .mill j s)

/-- RSA_DECRYPT. -/
def execRsaDecrypt (j : JobReq) (s : State) : Out := done s (fetchJob 0x0408 .mill j s)

/-- RSA_ENCRYPT. -/
def execRsaEncrypt (j : JobReq) (s : State) : Out := done s (fetchJob 0x0409 .mill j s)

/-- MLDSA_SIGN. -/
def execMldsaSign (j : JobReq) (s : State) : Out := done s (fetchJob 0x040A .mill j s)

/-- MLDSA_VERIFY. -/
def execMldsaVerify (j : JobReq) (s : State) : Out := done s (fetchJob 0x040B .mill j s)

/-- MLKEM_ENCAPS. -/
def execMlkemEncaps (j : JobReq) (s : State) : Out := done s (fetchJob 0x040C .mill j s)

/-- MLKEM_DECAPS. -/
def execMlkemDecaps (j : JobReq) (s : State) : Out := done s (fetchJob 0x040D .mill j s)

/-- MODEXP. -/
def execModexp (j : JobReq) (s : State) : Out := done s (fetchJob 0x0410 .mill j s)

/-- MODMUL. -/
def execModmul (j : JobReq) (s : State) : Out := done s (fetchJob 0x0411 .mill j s)

/-! ### Documents -/

/-- VERIFY_OFFLINE. -/
def execVerifyOffline (j : JobReq) (s : State) : Out := done s (fetchJob 0x0601 .hand j s)

/-! ### Other opcodes (R67) -/

/-- A descriptor whose OPCODE is not a J code: the job completes with E_CODE when its turn comes. -/
def execDescriptorCodeNotAllocated (opcode : Nat) (j : JobReq) (s : State) : Out :=
  done s (if (engineOf opcode).isNone then fetchJob opcode (unknownEngine opcode) j s else s)

end Sys2Proof.Machine
end

