-- ==== Sys2Proof/Machine/PairEvents.lean ====
section
/-! DEFINITION. What comes over the Hawser and the Hitch, and the pair's timers (R395–R410, R413, R414). -/

namespace Sys2Proof.Machine

/-- Once a unit is Purged or the main domain is off, nothing here runs. -/
def onPair (s : State) (k : State → State) : Out := done s (if powered s then k s else s)

/-! ### Links and frames -/

/-- The capture ports of a path's quad (R68, R394). -/
def pathPorts : Path → List Nat
  | .a => [120, 121, 122, 123]
  | .b => [124, 125, 126, 127]

/-- The Hawser's quads are powered: in Drowse only while the unit is paired (Table 16-3). -/
def pathPowered (s : State) : Bool := s.pair.paired || s.power.state != .drowse

/-- A path's link is trained: its session begins with a HELLO (R394, R396); lanes that serve capture ports carry none. Before
step 8 of the start, and in End of life, the paths stay down (R370, R446). -/
def execHawserLinkUp (path : Path) (s : State) : Out :=
  onPair s (fun s =>
    if (pathOf s path).link || !hawserStarted s || !pathPowered s || (pathPorts path).any (fun p => (portOf s p).cfg.admin == 1) then s else pathBegins s path)

/-- A path loses its link (R396). -/
def execHawserPathDown (path : Path) (s : State) : Out := onPair s (fun s => pathEnds s path false)

/-- A HELLO (R396): it starts a path session anew where one was up; a Resync unit asks for its copy as the path comes
up (R414). -/
def execHawserHello (path : Path) (h : Hello) (s : State) : Out :=
  onPair s (fun s =>
    if !(pathOf s path).link then s
    else
      let s := if (pathOf s path).up then pathBegins s path else s
      let s := tryUp (setPath s path { pathOf s path with peerNonce := h.nonce, hello := some h }) path
      if (pathOf s path).up && s.pair.role == .resync then sendKeyed s path hwNotice (le 2 3 ++ zeros 6) else s)

/-- A KEYEX frame (R417). -/
def execHawserKeyex (path : Path) (frame : Keyex) (s : State) : Out :=
  onPair s (fun s => if (pathOf s path).link then keyexFrame s path frame.peer frame.body else s)

/-- The other path. -/
def otherPath : Path → Path
  | .a => .b | .b => .a

/-- The Hawser engine's next heartbeat: every 50 µs on each path, those of path B 25 µs after those of path A (R397). -/
def execHeartbeatSend (s : State) : Out :=
  onPair s (fun s =>
    let s := advanceTo s s.pair.beatAt
    let s := sendKeyed s s.pair.beatPath hwHeartbeat (heartbeatBytes s)
    setPair s { s.pair with beatAt := s.now + 25, beatPath := otherPath s.pair.beatPath })

/-! ### A heartbeat (R397, R401, R402, R406, R413) -/

/-- The TAI offset of a Standby or Resync unit follows the peer tick offset (R406). -/
def followOffset (s : State) : State :=
  if (s.pair.role == .standby || s.pair.role == .resync) && s.almanac.offsetSet then
    { s with almanac := { s.almanac with offset := s.pair.peerOffset + s.pair.tickOffset } }
  else s

/-- What the heartbeat says of the peer is recorded. The peer's TICK now is the one it sent and the one-way delay, which is
measured: a FREE VALUE, notes/assumptions/70.md (R406). -/
def recordBeat (s : State) (path : Path) (h : Heartbeat) : State :=
  let s := setPath s path { pathOf s path with lastBeat := some s.now, silent := false }
  followOffset (setPair s { s.pair with
    peerReachable := true, peerRole := h.role, peerAlarm := h.alarm, peerField := h.fieldOut
    peerEpoch := h.epoch, peerParts := h.partsId, peerUpdate := h.update
    tickOffset := (h.tick : Int) + Config.hawserDelay s.now - s.now })

/-- The peer drives HITCH_OUT, by its own report. -/
def beatDrives (h : Heartbeat) : Bool := bit h.hitch 0

/-- R401: in the quiet time, more than 10 µs after the line fell, a live peer reports that it drives it. -/
def lineBroken (s : State) (h : Heartbeat) : Bool :=
  match s.pair.claim with
  | .quiet _ => !s.pair.hitchIn && beatDrives h && s.pair.hitchSince + 10 < s.now && !acting s
  | _ => false

/-- An Active unit sees its peer's role (R391, R402, R414, R423). A peer that reports Solo or Active counts as lost to the pair: reason 4,
notes/assumptions/24.md (DEDUCED). -/
def activeBeat (s : State) (h : Heartbeat) : State :=
  if h.role == 2 then setDegraded (setPair s { s.pair with peerMayClaim := true }) false 5
  else if h.role == 3 || h.role == 4 then
    setDegraded (setPair s { s.pair with peerMayClaim := false }) true (if 3 ≤ h.alarm then 14 else if h.role == 3 then 15 else 8)
  else setDegraded s true 4

/-- After a start, or Isolated with heartbeats that begin to arrive (Table 14-5). -/
def seekBeat (s : State) (h : Heartbeat) : State :=
  if !mayClaim s then s
  else if h.role == 1 then goResync s 5
  else if s.pair.claim == .none && !s.pair.hitchIn && s.pair.copy != .stale && h.epoch ≤ s.pair.epoch then beginClaim s
  else s

/-- A later FIELD_SEQ, modulo 2^16. -/
def newerSeq (old new : Nat) : Bool := old != new && (new + 65536 - old) % 65536 < 32768

/-- A Standby applies the Active's values from its heartbeats (R413). -/
def standbyBeat (s : State) (h : Heartbeat) : State :=
  if h.role == 1 && newerSeq s.pair.fieldSeq h.fieldSeq then applyField s h.fieldOut h.fieldSeq else s

/-- A Resync unit drives nothing, and keeps the FIELD_SEQ of the values that it will drive as a Standby (R412, R413). -/
def resyncBeat (s : State) (h : Heartbeat) : State :=
  if h.role == 1 then setPair s { s.pair with fieldSeq := h.fieldSeq } else s

/-- A valid heartbeat. -/
def beat (s : State) (path : Path) (h : Heartbeat) : State :=
  let s := recordBeat s path h
  if lineBroken s h then goIsolated (setPair s { s.pair with lineFault := true }) 8
  else
    match s.pair.role with
    | .active => switchCheck (activeBeat s h)
    | .standby => standbyBeat s h
    | .resync => resyncBeat s h
    | .isolated => seekBeat s h
    | _ => s

/-- A HEARTBEAT frame (R397). -/
def execHawserHeartbeat (path : Path) (protection : FrameSeal) (h : Heartbeat) (s : State) : Out :=
  onPair s (fun s => keyedFrame s path hwHeartbeat (beatBytes h) protection (fun s => beat s path h))

/-! ### Epochs (R404, R405, R407, R414) -/

/-- The epoch that is to be applied next: a Standby's follows the last it has applied; a Resync unit's is the first that ends after the full
copy, and then each in order (R404, R414). -/
def dueEpoch (s : State) : Option Nat :=
  if s.pair.role == .standby then some (s.pair.epoch + 1)
  else if s.pair.role == .resync && s.pair.copying then s.pair.copyNext
  else none

/-- A complete epoch is acknowledged on both paths and applied as one commit; a Resync unit that has come within 2 of the
Active's latest is Standby, and drives the values of the Active unless its watchdog has fired (R404, R412, R414). -/
def applyEpoch (s : State) (epoch : Nat) (rs : List CopyRecord) : State :=
  let s := sendBoth s hwEpochAck (le 8 epoch)
  let s := rs.foldl (applyRecord) s
  let s := setPair s { s.pair with epoch, incoming := tblDrop s.pair.incoming (fun k _ => k ≤ epoch)
                                   ends := tblDrop s.pair.ends (fun k _ => k ≤ epoch) }
  if s.pair.role == .resync then
    if s.pair.peerEpoch ≤ epoch + 2 then
      let driven := if s.scarecrow.wdogFired then s.pair.driven else s.pair.peerField
      setRole (setPair s { s.pair with copy := .current, copying := false, copyNext := none, driven }) .standby 6
    else setPair s { s.pair with copyNext := some (epoch + 1) }
  else s

/-- No path that is up can bring epoch `e` any more: each has brought its end or a later one. -/
def epochPast (s : State) (e : Nat) : Bool :=
  (!s.pair.pathA.up || e ≤ s.pair.pathA.lastEnd) && (!s.pair.pathB.up || e ≤ s.pair.pathB.lastEnd)

/-- A missing epoch, or a DIGEST that does not match, makes the unit request resync (R404). -/
def askResync (s : State) : State := goResync s 15

/-- Epochs are applied in order as they become whole (R404). -/
def serveEpochs : Nat → State → State
  | 0, s => s
  | fuel + 1, s =>
    match dueEpoch s with
    | none => s
    | some e =>
      match tblFind s.pair.ends e with
      | some (n, digest) =>
        if epochWhole s e n then
          match epochRecords s e n digest with
          | some rs => serveEpochs fuel (applyEpoch s e rs)
          | none => askResync s
        else if epochPast s e then askResync s else s
      | none => if epochPast s e then askResync s else s

/-- Serve the epochs that have arrived. -/
def takeEpochs (s : State) : State := serveEpochs (s.pair.ends.length + 1) s

/-- A record of an epoch: the first copy of it counts, from whichever path (R404). -/
def epochRecord (s : State) (epoch index : Nat) (r : CopyRecord) : State :=
  let takes := (s.pair.role == .standby && s.pair.epoch < epoch) ||
    (s.pair.role == .resync && s.pair.copying && (s.pair.copyNext.getD 0) ≤ epoch)
  if !takes || tblHas (recordsOf s epoch) index then s
  else takeEpochs (setPair s { s.pair with incoming := tblSet s.pair.incoming epoch (tblSet (recordsOf s epoch) index r) })

/-- EPOCH_DATA. -/
def execHawserEpochData (path : Path) (protection : FrameSeal) (epoch index : Nat) (r : CopyRecord) (s : State) : Out :=
  onPair s (fun s => keyedFrame s path hwEpochData (lastPiece (recordBytes s r)) protection (fun s => epochRecord s epoch index r))

/-- The end of an epoch, by a path: it counts once, and the epoch is applied when it is its turn and it is whole (R404). Until its records are
whole the other path may still bring them. -/
def epochEnd (s : State) (path : Path) (epoch records : Nat) (digest : Bytes) : State :=
  let s := setPath s path { pathOf s path with lastEnd := max epoch (pathOf s path).lastEnd }
  let s := if s.pair.role == .resync && s.pair.copying && s.pair.copyNext.isNone then setPair s { s.pair with copyNext := some epoch } else s
  match dueEpoch s with
  | none => s
  | some e =>
    if epoch < e || tblHas s.pair.ends epoch then takeEpochs s
    else takeEpochs (setPair s { s.pair with ends := tblSet s.pair.ends epoch (records, digest) })

/-- EPOCH_END. -/
def execHawserEpochEnd (path : Path) (protection : FrameSeal) (epoch records : Nat) (final : Bool) (digest : Bytes) (s : State) : Out :=
  onPair s (fun s => keyedFrame s path hwEpochEnd (le 8 epoch ++ le 4 records ++ le 4 (ofBool final) ++ fit 32 digest) protection
    (fun s => epochEnd s path epoch records digest))

/-- EPOCH_ACK. -/
def execHawserEpochAck (path : Path) (protection : FrameSeal) (epoch : Nat) (s : State) : Out :=
  onPair s (fun s => keyedFrame s path hwEpochAck (le 8 epoch) protection (fun s =>
    if s.pair.role == .active then switchCheck (releaseWaits (ackEpoch s epoch)) else s))

/-- The end of an epoch's 1 ms on the Active unit (R404). With no peer that takes epochs nothing is kept to be
acknowledged. -/
def execEpochTick (s : State) : Out :=
  onPair s (fun s =>
    if s.pair.role != .active then s
    else
      let s := sendEpoch (lagCheck s) false
      if s.pair.peerReachable && (s.pair.peerRole == 2 || s.pair.peerRole == 3) then s
      else releaseWaits (setPair s { s.pair with sentEpochs := [], ackedValues := [], lagging := false }))

/-- 20 ms after the end of an epoch that is not acknowledged (R407). -/
def execEpochAckTimeout (s : State) : Out :=
  onPair s (fun s =>
    match s.pair.sentEpochs with
    | [] => s
    | (_, t, _) :: _ =>
      if s.pair.role != .active || s.pair.peerRole != 2 then s
      else
        let s := notice (advanceTo s (t + 20000)) 3
        let s := setDegraded (setPair s { s.pair with sentEpochs := [], ackedValues := [], peerRole := 3 }) true 15
        releaseWaits (switchCheck s))

/-- BULK (R414): the first record of a full copy replaces the unit's own copied items. -/
def execHawserBulk (path : Path) (protection : FrameSeal) (r : CopyRecord) (s : State) : Out :=
  onPair s (fun s => keyedFrame s path hwBulk (lastPiece (recordBytes s r)) protection (fun s =>
    if s.pair.role != .resync then s
    else
      let s := if s.pair.copying then s else setPair (clearCopied s) { (clearCopied s).pair with copying := true }
      applyRecord s r))

/-- NOTICE (Table 14-3): 2 makes a unit that is not Active depart; 3 asks an Active unit for a full copy, and sends a
Standby to Resync (R407, R414). -/
def noticed (s : State) (kind : Nat) : State :=
  match kind, s.pair.role with
  | 2, .active => s
  | 2, .solo => s
  | 2, _ => depart s
  | 3, .active => sendCopy (setDegraded (setPair s { s.pair with peerMayClaim := false }) true 15)
  | 3, .standby => goResync s 15
  | _, _ => s

/-- NOTICE. -/
def execHawserNotice (path : Path) (protection : FrameSeal) (kind : Nat) (s : State) : Out :=
  onPair s (fun s => keyedFrame s path hwNotice (le 2 kind ++ zeros 6) protection (fun s => noticed s kind))

/-- SHADOW (R413): the Standby applies the values and answers. -/
def execHawserShadow (path : Path) (protection : FrameSeal) (out fieldSeq : Nat) (s : State) : Out :=
  onPair s (fun s => keyedFrame s path hwShadow (le 2 out ++ le 2 fieldSeq ++ zeros 4) protection (fun s =>
    if s.pair.role != .standby then s
    else
      let s := if newerSeq s.pair.fieldSeq fieldSeq then applyField s (out % 65536) fieldSeq else s
      sendKeyed s path hwShadowAck (le 2 fieldSeq ++ zeros 6)))

/-- SHADOW_ACK (R413): the response is written. -/
def execHawserShadowAck (path : Path) (protection : FrameSeal) (fieldSeq : Nat) (s : State) : Out :=
  onPair s (fun s => keyedFrame s path hwShadowAck (le 2 fieldSeq ++ zeros 6) protection (fun s =>
    match (fnOf s 0).held with
    | some { why := .shadow seq t, .. } => if seq == fieldSeq then finishHeld s 0 sOk 0 (fieldReply s (s.now - t)) else s
    | _ => s))

/-- No SHADOW_ACK within 60 µs (R413). -/
def execFieldShadowTimeout (s : State) : Out :=
  onPair s (fun s =>
    match (fnOf s 0).held with
    | some { why := .shadow _ t, .. } =>
      let s := advanceTo s (t + 60)
      finishHeld s 0 ePeer (peerWord s 12) []
    | _ => s)

/-! ### Loss of the peer (R398, R402, R424) -/

/-- The last heartbeat on either path. -/
def lastBeat (s : State) : Nat := max (s.pair.pathA.lastBeat.getD 0) (s.pair.pathB.lastBeat.getD 0)

/-- No heartbeat on either path for 250 µs (R398). -/
def execPeerLost (s : State) : Out :=
  onPair s (fun s =>
    if !s.pair.paired || !s.pair.peerReachable then s
    else
      let s := advanceTo s (lastBeat s + 250)
      let s := setPath s .a { s.pair.pathA with silent := true }
      let s := setPath s .b { s.pair.pathB with silent := true }
      let s := setPair s { s.pair with peerReachable := false }
      match s.pair.role with
      | .active => releaseWaits (switchCheck (pairEvent (setPair s { s.pair with degraded := true }) 1 4))
      | .standby => if s.pair.hitchIn then goIsolated s 4 else pairEvent s (roleNo s.pair.role) 4
      | .resync => goIsolated s 4
      | _ => pairEvent s (roleNo s.pair.role) 4)

/-- One path without heartbeats for 250 µs while the other carries them, whether or not its link is up (R398): the HAWSER_PATH monitor. -/
def execHawserPathSilent (path : Path) (s : State) : Out :=
  onPair s (fun s =>
    let w := pathOf s path
    let o := pathOf s (otherPath path)
    if !s.pair.paired || w.silent || !o.up || o.silent then s
    else
      let s := advanceTo s (w.lastBeat.getD s.now + 250)
      report (setPath s path { pathOf s path with silent := true }) 0x1D (pathNo path))

/-- An Active unit that holds the Hitch for 1 ms without any heartbeat (R402). -/
def execPeerMayClaimTimeout (s : State) : Out :=
  onPair s (fun s =>
    if s.pair.role != .active || !s.pair.hitchOut || s.pair.peerReachable || !s.pair.peerMayClaim then s
    else
      let s := advanceTo s (max (lastBeat s) s.pair.drivenSince + 1000)
      setPair s { s.pair with peerMayClaim := false })

/-- No heartbeat within 2 s of a start (Table 14-5). -/
def execStartPeerWaitExpiry (s : State) : Out :=
  onPair s (fun s =>
    if !s.pair.starting || s.pair.peerReachable || s.pair.claim != .none then s
    else
      let s := advanceTo s s.pair.startDeadline
      if mayClaim s && s.pair.copy == .own && !s.pair.peerMayClaim then beginClaim s else goIsolated s 12)

/-! ### The Hitch (R399–R401, R408) -/

/-- Seat B stops driving and waits its back-off of 2–20 µs (R400). -/
def backOff (s : State) : State :=
  let u := 2 + (Config.random s.rng 0).toNat % 19
  let s := draw s
  setPair s { s.pair with hitchOut := false, claim := .backoff (s.now + u) }

/-- HITCH_IN's level, stable for 1 µs, changes (R399). -/
def hitchChange (s : State) (asserted : Bool) : State :=
  let s := setPair s { s.pair with hitchIn := asserted, hitchSince := s.now }
  match s.pair.claim with
  | .none => if s.pair.role == .standby && !asserted then beginClaim s else s
  | .quiet _ => s
  | .window _ =>
    if asserted then
      let s := setPair s { s.pair with collision := true }
      if s.pair.seat == 0 then s else backOff s
    else setPair s { s.pair with claim := .window s.now }
  | .backoff _ => s

/-- HITCH_IN changes. -/
def execHitchInChange (asserted : Bool) (s : State) : Out :=
  onPair s (fun s => if s.pair.hitchIn == asserted then s else hitchChange s asserted)

/-- A claim under way may go on: a holder's through a collision, and that of a unit which may still claim (R402, Table 14-8). -/
def claimStands (s : State) : Bool := s.pair.role == .active || mayClaim s

/-- After the quiet time of 100 µs the unit drives HITCH_OUT and its claim window opens (R400). -/
def execHitchQuietExpiry (s : State) : Out :=
  onPair s (fun s =>
    match s.pair.claim with
    | .quiet f =>
      if !claimStands s then releaseHitch s
      else if s.pair.hitchIn then s
      else
        let s := driveHitch (advanceTo s (max f s.pair.hitchSince + 100))
        setPair s { s.pair with claim := .window s.now }
    | _ => s)

/-- The claim window passes quietly (R400, R408). A source that pairs ends its PAIR_COMPLETE (R416). -/
def execHitchClaimConfirmed (s : State) : Out :=
  onPair s (fun s =>
    match s.pair.claim with
    | .window f =>
      if !claimStands s then releaseHitch s
      else if s.pair.hitchIn then s
      else
        let s := takeOver (advanceTo s (f + 20))
        match s.pair.keyex with
        | some k => if k.agreed then keyexEnds s k else s
        | none => s
    | _ => s)

/-- Seat B's back-off ends (R400): it withdraws where HITCH_IN reads asserted, else it starts again at step 1. A unit that
was Active and withdraws goes to Resync, or is Isolated without heartbeats (R402). -/
def execHitchBackoffExpiry (s : State) : Out :=
  onPair s (fun s =>
    match s.pair.claim with
    | .backoff u =>
      let s := advanceTo s u
      if !s.pair.hitchIn then setPair s { s.pair with claim := .quiet s.pair.hitchSince }
      else
        let s := setPair s { s.pair with claim := .none }
        if s.pair.role == .active then (if s.pair.peerReachable then goResync s 13 else goIsolated s 13)
        else pairEvent s (roleNo s.pair.role) 13
    | _ => s)

/-- A holder that sees HITCH_IN asserted for 20 µs applies the seat rule (R400). -/
def execHitchHolderCollision (s : State) : Out :=
  onPair s (fun s =>
    if s.pair.role != .active || !s.pair.hitchOut || !s.pair.hitchIn || s.pair.claim != .none then s
    else
      let s := advanceTo s (s.pair.hitchSince + 20)
      let s := setPair s { s.pair with collision := true }
      if s.pair.seat == 0 then setPair s { s.pair with claim := .window s.now } else backOff s)

/-! ### Pairing timers and ANNOUNCE (R410, R420) -/

/-- PAIR_BEGIN lapses after 600 s, and its keys are erased (R420). -/
def execPairBeginLapse (s : State) : Out :=
  onPair s (fun s =>
    match s.pair.identity with
    | some i =>
      if s.pair.keyex.isSome then s
      else
        let s := advanceTo s (i.begun + 600000000)
        setPair s { s.pair with identity := none, early := none }
    | none => s)

/-- The key agreement has not completed 10 s after both units have started it (R420); when the peer does, this unit cannot know: a FREE
VALUE, notes/assumptions/70.md. -/
def execPairKeyexTimeout (s : State) : Out :=
  onPair s (fun s =>
    match s.pair.keyex with
    | some k => if k.agreed then s else keyexFails (advanceTo s (k.started + Config.peerStart k.started + 10000000)) k 10
    | none => s)

/-- Every 10 s an acting unit announces on each enabled port (R410). -/
def execAnnouncePeriodic (s : State) : Out :=
  onPair s (fun s =>
    if !acting s then s
    else
      let s := advanceTo s (s.pair.lastAnnounce + 10000000)
      announceAll (setPair s { s.pair with lastAnnounce := s.now }) 3)

end Sys2Proof.Machine
end

