-- ==== Sys2Proof/Machine/Resets.lean ====
section
/-! DEFINITION. Function-level reset (R62–R65), virtual functions (R28) and Bus Master Enable (R54). -/

namespace Sys2Proof.Machine

/-- A mailbox of an existing function: IDLE once the mailboxes are open, and outside an activation pause (R40, R62). -/
def mailboxAfterReset (s : State) : MbxState :=
  match s.update.mbxReady, s.update.activation with
  | true, .pause _ _ _ => .notReady
  | true, _ => .idle
  | false, _ => .notReady

/-- The outcome of a command that the reset takes from its mailbox goes to the Ledger (R64): one that has its effect already
ends OK; one that has none yet has none, and its STATUS is a FREE VALUE, notes/assumptions/50.md. A slot write goes on, and
its commit writes the entry; a command that no Steward has taken has no outcome. -/
def dropHeld (s : State) (f : Nat) : State :=
  match (fnOf s f).held with
  | none => s
  | some h =>
    let write := fun (s : State) (st : Nat) => if isLogged h.code then logCommand s h.code f h.tag st 0 h.payload else s
    match h.why with
    | .commit _ => s
    | .epoch _ _ => write s sOk
    | .shadow _ _ => write s sOk
    | .retry _ => write (draw s) (Config.free 0x0064 s.rng)
    | .switchover _ => write (draw s) (Config.free 0x0064 s.rng)
    | .go _ => s

/-- The function's own state after a reset (R62): its sessions' serial numbers and operations go on, and its PCIe configuration
is not part of the reset. -/
def fnAfterReset (s : State) (w : Fn) : Fn :=
  { state := mailboxAfterReset s, opNo := w.opNo, ops := w.ops.map (fun o => { o with silent := true }), serials := w.serials
    busMaster := w.busMaster, msixOn := w.msixOn, msixSent := w.msixSent }

/-- Events that were dropped and that no LOST event will report any more go to the Ledger (R56, R60). -/
def noteDropped (s : State) (f : Nat) : State :=
  (List.range 4).foldl (fun s r =>
    let n := (eventRingOf (fnOf s f) r).lost
    if n == 0 then s else noteLost s f r n) s

/-- Reset one function (R62–R64): its jobs are abandoned, its contexts are free. -/
def resetFn (s : State) (f : Nat) : State :=
  let s := noteDropped (releaseContexts (abandonJobs (dropHeld s f) f) f) f
  let s := setFn s f (fnAfterReset s (fnOf s f))
  let s := if f == 0 && s.hatch.held && !s.hatch.internal then releaseLock s else s
  startJobs (settleFloors s)

/-- The virtual functions that exist. -/
def liveVfs (s : State) : List Nat := (liveFns s).filter (· != 0)

/-- A function-level reset: on the PF, VF Enable is cleared and every VF is reset (R65). -/
def flr (s : State) (f : Nat) : State :=
  if f == 0 then
    let s := (liveVfs s).foldl resetFn (resetFn s 0)
    { s with vfEnable := false }
  else resetFn s f

/-- FUNCTION_LEVEL_RESET. -/
def execFunctionLevelReset (fn : Nat) (s : State) : Out := done s (if fnReached s fn then flr s fn else s)

/-- PERST# acts as a function-level reset of every function, and the link trains anew (R65). -/
def execPerstAssert (s : State) : Out :=
  done s (if powered s then
      let s := flr s 0
      setPower s { s.power with linkUp := false, linkWidth := 0, linkRate := 0 }
    else s)

/-- The PF changes VF Enable or NumVFs (R28): a VF that goes is notified (Table 2-5) and reset; one that comes has its mailbox. -/
def changeVfs (s : State) (on : Bool) (n : Nat) : State :=
  let t := { s with vfEnable := on, numVfs := min sriovTotalVfs n }
  let gone := (liveVfs s).filter (fun f => !fnExists t f)
  let new := (liveVfs t).filter (fun f => !fnExists s f)
  let s := gone.foldl (fun s f => resetFn (raiseCause s f .notice) f) s
  let s := { s with vfEnable := on, numVfs := min sriovTotalVfs n }
  new.foldl (fun s f => setFn s f { fnOf s f with state := mailboxAfterReset s }) s

/-- VF_ENABLE_CHANGE. -/
def execVfEnableChange (on : Bool) (numVfs : Nat) (s : State) : Out := done s (if powered s then changeVfs s on numVfs else s)

/-- Bus Master Enable changes: jobs and events that wait for it go on when it is set (R54). -/
def setBusMaster (s : State) (f : Nat) (on : Bool) : State :=
  let s := setFn s f { fnOf s f with busMaster := on }
  if on then startJobs ((List.range 4).foldl (fun s r => flushRing s f r) (deliverJobs s f)) else s

/-- BUS_MASTER_ENABLE_CHANGE. -/
def execBusMasterEnableChange (fn : Nat) (on : Bool) (s : State) : Out :=
  done s (if fnReached s fn then setBusMaster s fn on else s)

end Sys2Proof.Machine
end

