-- ==== Sys2Proof/Machine/Dispatch.lean ====
section
/-! DEFINITION. The dispatch: one arm per command, each a direct call of its meaning. -/

namespace Sys2Proof.Machine

/-- The effect of a command on everything but the queue. -/
def exec (i : Instr) (s : State) : Host.Outcome State Fault Refusal :=
  match i with
  | .getInfo q => Sys2Proof.Machine.execGetInfo q s
  | .sessionOpen q => Sys2Proof.Machine.execSessionOpen q s
  | .sessionAuth q => Sys2Proof.Machine.execSessionAuth q s
  | .sessionClose q => Sys2Proof.Machine.execSessionClose q s
  | .clientEnroll q => Sys2Proof.Machine.execClientEnroll q s
  | .clientRevoke q => Sys2Proof.Machine.execClientRevoke q s
  | .keyGenerate q => Sys2Proof.Machine.execKeyGenerate q s
  | .keyImport q => Sys2Proof.Machine.execKeyImport q s
  | .keyImportWrapped q => Sys2Proof.Machine.execKeyImportWrapped q s
  | .keyExportWrapped q => Sys2Proof.Machine.execKeyExportWrapped q s
  | .keyDestroy q => Sys2Proof.Machine.execKeyDestroy q s
  | .keyInfo q => Sys2Proof.Machine.execKeyInfo q s
  | .keySetAttr q => Sys2Proof.Machine.execKeySetAttr q s
  | .keyPublicRead q => Sys2Proof.Machine.execKeyPublicRead q s
  | .counterRead q => Sys2Proof.Machine.execCounterRead q s
  | .counterAdvance q => Sys2Proof.Machine.execCounterAdvance q s
  | .counterAllocate q => Sys2Proof.Machine.execCounterAllocate q s
  | .contextClaim q => Sys2Proof.Machine.execContextClaim q s
  | .contextRelease q => Sys2Proof.Machine.execContextRelease q s
  | .contextInfo q => Sys2Proof.Machine.execContextInfo q s
  | .twinSet q => Sys2Proof.Machine.execTwinSet q s
  | .digestContextReset q => Sys2Proof.Machine.execDigestContextReset q s
  | .curveList q => Sys2Proof.Machine.execCurveList q s
  | .strandConfig q => Sys2Proof.Machine.execStrandConfig q s
  | .strandList q => Sys2Proof.Machine.execStrandList q s
  | .strandStatus q => Sys2Proof.Machine.execStrandStatus q s
  | .strandClose q => Sys2Proof.Machine.execStrandClose q s
  | .strandSubscribe q => Sys2Proof.Machine.execStrandSubscribe q s
  | .scannerTrustImport q => Sys2Proof.Machine.execScannerTrustImport q s
  | .sealConfig q => Sys2Proof.Machine.execSealConfig q s
  | .sealKeySet q => Sys2Proof.Machine.execSealKeySet q s
  | .portConfig q => Sys2Proof.Machine.execPortConfig q s
  | .portStatus q => Sys2Proof.Machine.execPortStatus q s
  | .portCounters q => Sys2Proof.Machine.execPortCounters q s
  | .trustImportMasterlist q file => Sys2Proof.Machine.execTrustImportMasterlist q file s
  | .trustImportCrl q file => Sys2Proof.Machine.execTrustImportCrl q file s
  | .trustImportIsKey q => Sys2Proof.Machine.execTrustImportIsKey q s
  | .trustList q => Sys2Proof.Machine.execTrustList q s
  | .trustRemove q => Sys2Proof.Machine.execTrustRemove q s
  | .verdictKeySet q => Sys2Proof.Machine.execVerdictKeySet q s
  | .dscacheFlush q => Sys2Proof.Machine.execDscacheFlush q s
  | .verifyPolicySet q => Sys2Proof.Machine.execVerifyPolicySet q s
  | .sheafLoad q file => Sys2Proof.Machine.execSheafLoad q file s
  | .sheafList q => Sys2Proof.Machine.execSheafList q s
  | .sheafRemove q => Sys2Proof.Machine.execSheafRemove q s
  | .sheafBind q => Sys2Proof.Machine.execSheafBind q s
  | .sheafSignerSet q => Sys2Proof.Machine.execSheafSignerSet q s
  | .cardStatus q => Sys2Proof.Machine.execCardStatus q s
  | .officerEnrol q link => Sys2Proof.Machine.execOfficerEnrol q link s
  | .officerRemove q => Sys2Proof.Machine.execOfficerRemove q s
  | .quorumSet q => Sys2Proof.Machine.execQuorumSet q s
  | .quorumBegin q => Sys2Proof.Machine.execQuorumBegin q s
  | .quorumApprove q link => Sys2Proof.Machine.execQuorumApprove q link s
  | .quorumCancel q => Sys2Proof.Machine.execQuorumCancel q s
  | .cardForceErase q link => Sys2Proof.Machine.execCardForceErase q link s
  | .custodyJournalRead q => Sys2Proof.Machine.execCustodyJournalRead q s
  | .pairBegin q => Sys2Proof.Machine.execPairBegin q s
  | .pairComplete q => Sys2Proof.Machine.execPairComplete q s
  | .pairStatus q => Sys2Proof.Machine.execPairStatus q s
  | .pairSwitchover q => Sys2Proof.Machine.execPairSwitchover q s
  | .pairDissolve q => Sys2Proof.Machine.execPairDissolve q s
  | .fieldOutputSet q => Sys2Proof.Machine.execFieldOutputSet q s
  | .fieldOutputRead q => Sys2Proof.Machine.execFieldOutputRead q s
  | .baleBegin q => Sys2Proof.Machine.execBaleBegin q s
  | .baleChunk q file => Sys2Proof.Machine.execBaleChunk q file s
  | .baleChunkMap q => Sys2Proof.Machine.execBaleChunkMap q s
  | .baleVerify q => Sys2Proof.Machine.execBaleVerify q s
  | .baleActivate q => Sys2Proof.Machine.execBaleActivate q s
  | .baleStatus q => Sys2Proof.Machine.execBaleStatus q s
  | .baleAbandon q => Sys2Proof.Machine.execBaleAbandon q s
  | .updateLockSet q => Sys2Proof.Machine.execUpdateLockSet q s
  | .powerStateSet q => Sys2Proof.Machine.execPowerStateSet q s
  | .powerStatus q => Sys2Proof.Machine.execPowerStatus q s
  | .telemetryRead q => Sys2Proof.Machine.execTelemetryRead q s
  | .compatSet q => Sys2Proof.Machine.execCompatSet q s
  | .modeRead q => Sys2Proof.Machine.execModeRead q s
  | .alarmStatus q => Sys2Proof.Machine.execAlarmStatus q s
  | .monitorConfig q => Sys2Proof.Machine.execMonitorConfig q s
  | .selfTest q => Sys2Proof.Machine.execSelfTest q s
  | .thaw q => Sys2Proof.Machine.execThaw q s
  | .vigilLogRead q => Sys2Proof.Machine.execVigilLogRead q s
  | .ledgerRead q => Sys2Proof.Machine.execLedgerRead q s
  | .ledgerHead q => Sys2Proof.Machine.execLedgerHead q s
  | .lifecycleStatus q => Sys2Proof.Machine.execLifecycleStatus q s
  | .lifecycleAdvance q => Sys2Proof.Machine.execLifecycleAdvance q s
  | .ownerClaim q => Sys2Proof.Machine.execOwnerClaim q s
  | .debugChallenge q => Sys2Proof.Machine.execDebugChallenge q s
  | .debugUnlock q => Sys2Proof.Machine.execDebugUnlock q s
  | .debugClose q => Sys2Proof.Machine.execDebugClose q s
  | .decommission q => Sys2Proof.Machine.execDecommission q s
  | .timeRead q => Sys2Proof.Machine.execTimeRead q s
  | .timeSet q => Sys2Proof.Machine.execTimeSet q s
  | .timeKeySet q => Sys2Proof.Machine.execTimeKeySet q s
  | .driftRead q => Sys2Proof.Machine.execDriftRead q s
  | .aesGcmEncrypt j => Sys2Proof.Machine.execAesGcmEncrypt j s
  | .aesGcmDecrypt j => Sys2Proof.Machine.execAesGcmDecrypt j s
  | .aesGmacGenerate j => Sys2Proof.Machine.execAesGmacGenerate j s
  | .aesGmacVerify j => Sys2Proof.Machine.execAesGmacVerify j s
  | .aesCtr j => Sys2Proof.Machine.execAesCtr j s
  | .aesCbcEncrypt j => Sys2Proof.Machine.execAesCbcEncrypt j s
  | .aesCbcDecrypt j => Sys2Proof.Machine.execAesCbcDecrypt j s
  | .aesCmacGenerate j => Sys2Proof.Machine.execAesCmacGenerate j s
  | .aesCmacVerify j => Sys2Proof.Machine.execAesCmacVerify j s
  | .aesEcbWrap j => Sys2Proof.Machine.execAesEcbWrap j s
  | .aesEcbUnwrap j => Sys2Proof.Machine.execAesEcbUnwrap j s
  | .tdeaCbcEncrypt j => Sys2Proof.Machine.execTdeaCbcEncrypt j s
  | .tdeaCbcDecrypt j => Sys2Proof.Machine.execTdeaCbcDecrypt j s
  | .tdeaMac3 j => Sys2Proof.Machine.execTdeaMac3 j s
  | .digest j => Sys2Proof.Machine.execDigest j s
  | .xof j => Sys2Proof.Machine.execXof j s
  | .ecdsaSign j => Sys2Proof.Machine.execEcdsaSign j s
  | .ecdsaVerify j => Sys2Proof.Machine.execEcdsaVerify j s
  | .eddsaSign j => Sys2Proof.Machine.execEddsaSign j s
  | .eddsaVerify j => Sys2Proof.Machine.execEddsaVerify j s
  | .ecdh j => Sys2Proof.Machine.execEcdh j s
  | .rsaSign j => Sys2Proof.Machine.execRsaSign j s
  | .rsaVerify j => Sys2Proof.Machine.execRsaVerify j s
  | .rsaDecrypt j => Sys2Proof.Machine.execRsaDecrypt j s
  | .rsaEncrypt j => Sys2Proof.Machine.execRsaEncrypt j s
  | .mldsaSign j => Sys2Proof.Machine.execMldsaSign j s
  | .mldsaVerify j => Sys2Proof.Machine.execMldsaVerify j s
  | .mlkemEncaps j => Sys2Proof.Machine.execMlkemEncaps j s
  | .mlkemDecaps j => Sys2Proof.Machine.execMlkemDecaps j s
  | .modexp j => Sys2Proof.Machine.execModexp j s
  | .modmul j => Sys2Proof.Machine.execModmul j s
  | .verifyOffline j => Sys2Proof.Machine.execVerifyOffline j s
  | .mbxGoRejected fn => Sys2Proof.Machine.execMbxGoRejected fn s
  | .mbxRelease fn => Sys2Proof.Machine.execMbxRelease fn s
  | .jobRingEnable fn ring ctrl => Sys2Proof.Machine.execJobRingEnable fn ring ctrl s
  | .jobRingDisable fn ring ctrl => Sys2Proof.Machine.execJobRingDisable fn ring ctrl s
  | .jobRingProduce fn ring index => Sys2Proof.Machine.execJobRingProduce fn ring index s
  | .eventRingEnable fn ring ctrl => Sys2Proof.Machine.execEventRingEnable fn ring ctrl s
  | .eventRingDisable fn ring ctrl => Sys2Proof.Machine.execEventRingDisable fn ring ctrl s
  | .eventRingConsume fn ring index => Sys2Proof.Machine.execEventRingConsume fn ring index s
  | .eventCoalesceExpiry fn ring => Sys2Proof.Machine.execEventCoalesceExpiry fn ring s
  | .hatchLockAcquire value => Sys2Proof.Machine.execHatchLockAcquire value s
  | .hatchLockRelease value => Sys2Proof.Machine.execHatchLockRelease value s
  | .hatchStart => Sys2Proof.Machine.execHatchStart s
  | .hatchFinal => Sys2Proof.Machine.execHatchFinal s
  | .hatchAbort => Sys2Proof.Machine.execHatchAbort s
  | .hatchDinSubmit word => Sys2Proof.Machine.execHatchDinSubmit word s
  | .hatchDoutConsume => Sys2Proof.Machine.execHatchDoutConsume s
  | .hatchOperationDone => Sys2Proof.Machine.execHatchOperationDone s
  | .hatchIdleRelease => Sys2Proof.Machine.execHatchIdleRelease s
  | .flailStart => Sys2Proof.Machine.execFlailStart s
  | .flailFinal => Sys2Proof.Machine.execFlailFinal s
  | .flailAbort => Sys2Proof.Machine.execFlailAbort s
  | .flailDinSubmit word => Sys2Proof.Machine.execFlailDinSubmit word s
  | .flailOutRead index => Sys2Proof.Machine.execFlailOutRead index s
  | .flailFallbackDone => Sys2Proof.Machine.execFlailFallbackDone s
  | .portCounterLatchRead slot counter => Sys2Proof.Machine.execPortCounterLatchRead slot counter s
  | .registerWrite fn bar offset size value => Sys2Proof.Machine.execRegisterWrite fn bar offset size value s
  | .jobComplete job outcome => Sys2Proof.Machine.execJobComplete job outcome s
  | .deferredOpEnd fn no => Sys2Proof.Machine.execDeferredOpEnd fn no s
  | .deferredOpTimeout fn no => Sys2Proof.Machine.execDeferredOpTimeout fn no s
  | .sessionAuthTimeout fn index => Sys2Proof.Machine.execSessionAuthTimeout fn index s
  | .sessionIdleTimeout fn index => Sys2Proof.Machine.execSessionIdleTimeout fn index s
  | .busMasterEnableChange fn on => Sys2Proof.Machine.execBusMasterEnableChange fn on s
  | .vfEnableChange on numVfs => Sys2Proof.Machine.execVfEnableChange on numVfs s
  | .functionLevelReset fn => Sys2Proof.Machine.execFunctionLevelReset fn s
  | .perstAssert => Sys2Proof.Machine.execPerstAssert s
  | .rstNAssert => Sys2Proof.Machine.execRstNAssert s
  | .powerArrival => Sys2Proof.Machine.execPowerArrival s
  | .coldResetStart env => Sys2Proof.Machine.execColdResetStart env s
  | .selfResetDue => Sys2Proof.Machine.execSelfResetDue s
  | .railGood rail => Sys2Proof.Machine.execRailGood rail s
  | .railGoodTimeout rail => Sys2Proof.Machine.execRailGoodTimeout rail s
  | .railFaultRetry => Sys2Proof.Machine.execRailFaultRetry s
  | .phaseFault rail phase => Sys2Proof.Machine.execPhaseFault rail phase s
  | .phaseImbalance rail phase => Sys2Proof.Machine.execPhaseImbalance rail phase s
  | .feedLost feed => Sys2Proof.Machine.execFeedLost feed s
  | .feedReturn feed => Sys2Proof.Machine.execFeedReturn feed s
  | .switchFaultRetry feed => Sys2Proof.Machine.execSwitchFaultRetry feed s
  | .ethrefLoss k => Sys2Proof.Machine.execEthrefLoss k s
  | .ethrefReturn k => Sys2Proof.Machine.execEthrefReturn k s
  | .vauxLoss => Sys2Proof.Machine.execVauxLoss s
  | .vauxReturn => Sys2Proof.Machine.execVauxReturn s
  | .alwaysOnPowerLoss => Sys2Proof.Machine.execAlwaysOnPowerLoss s
  | .monitorEvent monitor value => Sys2Proof.Machine.execMonitorEvent monitor value s
  | .decisionSecondEvaluation second => Sys2Proof.Machine.execDecisionSecondEvaluation second s
  | .monitorCauseCleared monitor => Sys2Proof.Machine.execMonitorCauseCleared monitor s
  | .throttleEnd => Sys2Proof.Machine.execThrottleEnd s
  | .escalationWindowEnd monitor => Sys2Proof.Machine.execEscalationWindowEnd monitor s
  | .loftKeyReload => Sys2Proof.Machine.execLoftKeyReload s
  | .zerofillDone => Sys2Proof.Machine.execZerofillDone s
  | .vigilMonitorEvent monitor value => Sys2Proof.Machine.execVigilMonitorEvent monitor value s
  | .watchdogRefresh => Sys2Proof.Machine.execWatchdogRefresh s
  | .watchdogExpiry => Sys2Proof.Machine.execWatchdogExpiry s
  | .latentTestDue checker unit passed => Sys2Proof.Machine.execLatentTestDue checker unit passed s
  | .withdrawalTestDone unit passed => Sys2Proof.Machine.execWithdrawalTestDone unit passed s
  | .keyBusStall port => Sys2Proof.Machine.execKeyBusStall port s
  | .keyPortRetestDone port passed => Sys2Proof.Machine.execKeyPortRetestDone port passed s
  | .keySlotCommit index => Sys2Proof.Machine.execKeySlotCommit index s
  | .floorWakeDone floor => Sys2Proof.Machine.execFloorWakeDone floor s
  | .winnowSliceEnd job bytes => Sys2Proof.Machine.execWinnowSliceEnd job bytes s
  | .winnowAgePromotion job => Sys2Proof.Machine.execWinnowAgePromotion job s
  | .millAgePromotion job => Sys2Proof.Machine.execMillAgePromotion job s
  | .millStoneDone stone fault => Sys2Proof.Machine.execMillStoneDone stone fault s
  | .millReleaseCheckDone job passed => Sys2Proof.Machine.execMillReleaseCheckDone job passed s
  | .stoneWipeDone stone => Sys2Proof.Machine.execStoneWipeDone stone s
  | .stoneIdleGate stone => Sys2Proof.Machine.execStoneIdleGate stone s
  | .stoneWakeDone stone => Sys2Proof.Machine.execStoneWakeDone stone s
  | .scrubPass findings => Sys2Proof.Machine.execScrubPass findings s
  | .almanacStore => Sys2Proof.Machine.execAlmanacStore s
  | .crystalCalibration ppb => Sys2Proof.Machine.execCrystalCalibration ppb s
  | .portLinkUp slot partner => Sys2Proof.Machine.execPortLinkUp slot partner s
  | .portLinkDown loss => Sys2Proof.Machine.execPortLinkDown loss s
  | .rxFrame slot frame => Sys2Proof.Machine.execRxFrame slot frame s
  | .unkeyedWindowReset => Sys2Proof.Machine.execUnkeyedWindowReset s
  | .tagVerifyDone strand seq twinOk => Sys2Proof.Machine.execTagVerifyDone strand seq twinOk s
  | .contentDigestDone strand digest => Sys2Proof.Machine.execContentDigestDone strand digest s
  | .knotDigestDone strand datapathOk => Sys2Proof.Machine.execKnotDigestDone strand datapathOk s
  | .archiveEncryptDone strand twinOk => Sys2Proof.Machine.execArchiveEncryptDone strand twinOk s
  | .slotMissing strand seq => Sys2Proof.Machine.execSlotMissing strand seq s
  | .nakRepeat strand => Sys2Proof.Machine.execNakRepeat strand s
  | .gapTimeout strand => Sys2Proof.Machine.execGapTimeout strand s
  | .strandPauseRepeat strand => Sys2Proof.Machine.execStrandPauseRepeat strand s
  | .linkPauseRefresh floor => Sys2Proof.Machine.execLinkPauseRefresh floor s
  | .pauseQuantaExpiry slot => Sys2Proof.Machine.execPauseQuantaExpiry slot s
  | .openReq strand => Sys2Proof.Machine.execOpenReq strand s
  | .openConfirm strand => Sys2Proof.Machine.execOpenConfirm strand s
  | .rekeyReq strand => Sys2Proof.Machine.execRekeyReq strand s
  | .rekeyConfirm strand => Sys2Proof.Machine.execRekeyConfirm strand s
  | .closeReq strand => Sys2Proof.Machine.execCloseReq strand s
  | .unknownCtrl strand => Sys2Proof.Machine.execUnknownCtrl strand s
  | .keyingTimeout strand => Sys2Proof.Machine.execKeyingTimeout strand s
  | .rekeyConfirmTimeout strand => Sys2Proof.Machine.execRekeyConfirmTimeout strand s
  | .rekeyInterval strand => Sys2Proof.Machine.execRekeyInterval strand s
  | .closeGraceTimeout strand => Sys2Proof.Machine.execCloseGraceTimeout strand s
  | .segmentBoundary strand => Sys2Proof.Machine.execSegmentBoundary strand s
  | .idleSealDue strand => Sys2Proof.Machine.execIdleSealDue strand s
  | .sealSignDone strand checkOk => Sys2Proof.Machine.execSealSignDone strand checkOk s
  | .strandRecordPersist => Sys2Proof.Machine.execStrandRecordPersist s
  | .chipBegin strand => Sys2Proof.Machine.execChipBegin strand s
  | .chipRsp strand => Sys2Proof.Machine.execChipRsp strand s
  | .chipEnd strand => Sys2Proof.Machine.execChipEnd strand s
  | .chipApduTimeout strand => Sys2Proof.Machine.execChipApduTimeout strand s
  | .chipSessionTimeout strand => Sys2Proof.Machine.execChipSessionTimeout strand s
  | .verdictSignDone verdict checkOk => Sys2Proof.Machine.execVerdictSignDone verdict checkOk s
  | .sheafMsgEvent strand => Sys2Proof.Machine.execSheafMsgEvent strand s
  | .sheafTimerExpiry strand binding timer => Sys2Proof.Machine.execSheafTimerExpiry strand binding timer s
  | .sheafActionDone strand binding tag => Sys2Proof.Machine.execSheafActionDone strand binding tag s
  | .hawserPathDown path => Sys2Proof.Machine.execHawserPathDown path s
  | .hawserHello path h => Sys2Proof.Machine.execHawserHello path h s
  | .hawserKeyex path frame => Sys2Proof.Machine.execHawserKeyex path frame s
  | .heartbeatSend => Sys2Proof.Machine.execHeartbeatSend s
  | .hawserHeartbeat path protection h => Sys2Proof.Machine.execHawserHeartbeat path protection h s
  | .hawserEpochData path protection epoch index r => Sys2Proof.Machine.execHawserEpochData path protection epoch index r s
  | .hawserEpochEnd path protection epoch records final digest => Sys2Proof.Machine.execHawserEpochEnd path protection epoch records final digest s
  | .hawserEpochAck path protection epoch => Sys2Proof.Machine.execHawserEpochAck path protection epoch s
  | .hawserShadow path protection out fieldSeq => Sys2Proof.Machine.execHawserShadow path protection out fieldSeq s
  | .hawserShadowAck path protection fieldSeq => Sys2Proof.Machine.execHawserShadowAck path protection fieldSeq s
  | .hawserBulk path protection r => Sys2Proof.Machine.execHawserBulk path protection r s
  | .hawserNotice path protection kind => Sys2Proof.Machine.execHawserNotice path protection kind s
  | .epochTick => Sys2Proof.Machine.execEpochTick s
  | .epochAckTimeout => Sys2Proof.Machine.execEpochAckTimeout s
  | .peerLost => Sys2Proof.Machine.execPeerLost s
  | .hawserPathSilent path => Sys2Proof.Machine.execHawserPathSilent path s
  | .hitchInChange asserted => Sys2Proof.Machine.execHitchInChange asserted s
  | .hitchQuietExpiry => Sys2Proof.Machine.execHitchQuietExpiry s
  | .hitchClaimConfirmed => Sys2Proof.Machine.execHitchClaimConfirmed s
  | .hitchBackoffExpiry => Sys2Proof.Machine.execHitchBackoffExpiry s
  | .hitchHolderCollision => Sys2Proof.Machine.execHitchHolderCollision s
  | .peerMayClaimTimeout => Sys2Proof.Machine.execPeerMayClaimTimeout s
  | .startPeerWaitExpiry => Sys2Proof.Machine.execStartPeerWaitExpiry s
  | .fieldShadowTimeout => Sys2Proof.Machine.execFieldShadowTimeout s
  | .pairBeginLapse => Sys2Proof.Machine.execPairBeginLapse s
  | .pairKeyexTimeout => Sys2Proof.Machine.execPairKeyexTimeout s
  | .announcePeriodic => Sys2Proof.Machine.execAnnouncePeriodic s
  | .activationDrainEnd => Sys2Proof.Machine.execActivationDrainEnd s
  | .activationDrainTimeout => Sys2Proof.Machine.execActivationDrainTimeout s
  | .activationPauseEnd loaded migrated => Sys2Proof.Machine.execActivationPauseEnd loaded migrated s
  | .trialConfirm => Sys2Proof.Machine.execTrialConfirm s
  | .trialDeadline => Sys2Proof.Machine.execTrialDeadline s
  | .cardActivation slot card => Sys2Proof.Machine.execCardActivation slot card s
  | .cardRemoved slot => Sys2Proof.Machine.execCardRemoved slot s
  | .cardOvercurrent slot => Sys2Proof.Machine.execCardOvercurrent slot s
  | .debugLevelExpiry => Sys2Proof.Machine.execDebugLevelExpiry s
  | .lanyardIdentify r => Sys2Proof.Machine.execLanyardIdentify r s
  | .lanyardStatus r => Sys2Proof.Machine.execLanyardStatus r s
  | .lanyardTraceRead r => Sys2Proof.Machine.execLanyardTraceRead r s
  | .lanyardStatsRead r => Sys2Proof.Machine.execLanyardStatsRead r s
  | .lanyardBpSet r => Sys2Proof.Machine.execLanyardBpSet r s
  | .lanyardBpClear r => Sys2Proof.Machine.execLanyardBpClear r s
  | .lanyardHalt r => Sys2Proof.Machine.execLanyardHalt r s
  | .lanyardResume r => Sys2Proof.Machine.execLanyardResume r s
  | .lanyardStep r => Sys2Proof.Machine.execLanyardStep r s
  | .lanyardRead r => Sys2Proof.Machine.execLanyardRead r s
  | .lanyardWrite r => Sys2Proof.Machine.execLanyardWrite r s
  | .lanyardFramingReset => Sys2Proof.Machine.execLanyardFramingReset s
  | .tapOperation op => Sys2Proof.Machine.execTapOperation op s
  | .tapTckInProduction => Sys2Proof.Machine.execTapTckInProduction s
  | .smbusReadBoot => Sys2Proof.Machine.execSmbusReadBoot s
  | .smbusReadStatus => Sys2Proof.Machine.execSmbusReadStatus s
  | .smbusReadTelemetry => Sys2Proof.Machine.execSmbusReadTelemetry s
  | .smbusReadSerial => Sys2Proof.Machine.execSmbusReadSerial s
  | .frameTransmitted slot => Sys2Proof.Machine.execFrameTransmitted slot s
  | .hawserLinkUp path => Sys2Proof.Machine.execHawserLinkUp path s
  | .pcieLinkUp widths rates => Sys2Proof.Machine.execPcieLinkUp widths rates s
  | .pcieLinkDown => Sys2Proof.Machine.execPcieLinkDown s
  | .hatchBlockDone => Sys2Proof.Machine.execHatchBlockDone s
  | .flailWordDone => Sys2Proof.Machine.execFlailWordDone s
  | .mbxGoCodeNotAllocated code q => Sys2Proof.Machine.execMbxGoCodeNotAllocated code q s
  | .descriptorCodeNotAllocated opcode j => Sys2Proof.Machine.execDescriptorCodeNotAllocated opcode j s

end Sys2Proof.Machine
end

