-- ==== Sys2Proof/Machine/Idle.lean ====
section
/-! DEFINITION. What the block does with no command waiting. -/

namespace Sys2Proof.Machine

/-- A step of the tick in Drowse and Vigil: a period of the 32.768 kHz crystal, 30.517578125 µs corrected by the measured ratio of
R307, in whole microseconds (R302). -/
def crystalStep (s : State) : State :=
  let a := s.almanac
  let nano : Int := a.crystalFrac + 30517578125 + 30517578125 * a.crystalPpb / 1000000000
  let t := nano.toNat
  pass { s with almanac := { a with crystalFrac := t % 1000000000 } } (t / 1000000000)

/-- An idle tick: one microsecond passes, the resolution of the tick on the PLL, and in Drowse and Vigil a period of the crystal
(R302). After step 10 of the start the first one sees step 11 (R446). DESIGN CHOICE, notes/assumptions/1.md. -/
def idleTick (s : State) : State :=
  let s := captureStarts s
  if s.power.state == .drowse || s.power.state == .vigil then crystalStep s else pass s 1

/-- An idle step: a command that waited for a halted Steward is taken once the Steward runs again (R386); else the tick moves on.
DESIGN CHOICE, notes/assumptions/1.md. -/
def idle (s : State) : Out :=
  match waitingGo s with
  | some f => if stewardWorks s then takeGo s f else .next (idleTick s)
  | none => .next (idleTick s)

end Sys2Proof.Machine
end

