-- ==== Sys2Proof/Machine/Balls.lean ====
section
/-! DEFINITION. The ball map of the package (R501–R507): which signal or supply each of the 55 × 55 balls carries. -/

namespace Sys2Proof.Machine

/-- What a ball carries (Table 18-10): a lane of a quad, a named signal, or a supply. -/
inductive Ball where
  | txp (quad lane : Nat) | txn (quad lane : Nat) | rxp (quad lane : Nat) | rxn (quad lane : Nat)
  | signal (name : String)
  | vcore | vser | vddh | vio | vaux | vbat | vss
  | reserved
deriving DecidableEq, Repr

/-- The letters of rows, in sequence (R501). -/
def rowLetters : List Char := ['A', 'B', 'C', 'D', 'E', 'F', 'G', 'H', 'J', 'K', 'L', 'M', 'N', 'P', 'T', 'U', 'V', 'W', 'Y']

/-- The letters of the row with an index, 1 to 55 (R501). -/
def rowName (index : Nat) : List Char :=
  let k := (index - 1) % 19
  let last := (rowLetters[k]?).toList
  match (index - 1) / 19 with
  | 0 => last
  | 1 => 'A' :: last
  | _ => 'B' :: last

/-- Slot, depth and position of a ball of the edge strips (R503); `none` in the core. -/
def slotOfBall (row col : Nat) : Option (Nat × Nat × Nat) :=
  if row ≤ 5 && col ≤ 50 then some ((col - 1) / 5, row - 1, (col - 1) % 5)
  else if 51 ≤ col && row ≤ 50 then some (10 + (row - 1) / 5, 55 - col, (row - 1) % 5)
  else if 51 ≤ row && 6 ≤ col then some (20 + (55 - col) / 5, 55 - row, (55 - col) % 5)
  else if col ≤ 5 && 6 ≤ row then some (30 + (55 - row) / 5, col - 1, (55 - row) % 5)
  else none

/-- The slot of a quad (R503). -/
def slotOfQuad (quad : Nat) : Nat := quad + quad / 9 + 1

/-- A quad slot's pattern (Table 18-11): the lane of depths 0, 1, 3 and 4, and the supplies of depth 2. -/
def quadBall (quad depth position : Nat) : Ball :=
  let lane := if depth < 2 then depth else depth - 1
  if depth == 2 then (if position == 1 || position == 3 then .vser else .vss)
  else match position with
    | 0 => .txp quad lane
    | 1 => .txn quad lane
    | 3 => .rxp quad lane
    | 4 => .rxn quad lane
    | _ => .vss

/-- The pairs of a corner slot (R505): at depth 1 and at depth 3, P at position 1 and N at position 2. -/
def cornerPairs (slot : Nat) : List (List String) :=
  match slot with
  | 0 => [["PCIE_REFCLK_P", "PCIE_REFCLK_N"], ["VSER_SNS_P", "VSER_SNS_N"]]
  | 10 => [["ETHREF0_P", "ETHREF0_N"], ["ETHREF1_P", "ETHREF1_N"]]
  | 20 => [["ETHREF2_P", "ETHREF2_N"], ["ETHREF3_P", "ETHREF3_N"]]
  | _ => [["VCORE_SNS_P", "VCORE_SNS_N"], ["VDDH_SNS_P", "VDDH_SNS_N"]]

/-- A corner slot's ball (R505): every other one is VSS. -/
def cornerBall (slot depth position : Nat) : Ball :=
  if depth % 2 == 1 && (position == 1 || position == 2) then
    match ((cornerPairs slot).getD (depth / 2) [])[position - 1]? with
    | some n => .signal n
    | none => .vss
  else .vss

/-- A numbered row of names: `pre`0, `pre`1, …, each with a suffix. -/
def numbered (pre : String) (n : Nat) (suffix : String := "") : List String :=
  (List.range n).map (fun k => pre ++ toString k ++ suffix)

/-- The signals of row F from column 6 (Table 18-12); columns 44–50 end in VSS. -/
def rowF : List String :=
  ["VIN_A_SNS", "VIN_B_SNS", "VIN_A_GATE", "VIN_B_GATE", "IIN_A_SNS", "IIN_B_SNS"] ++ numbered "VCORE_PWM" 16 ++
    numbered "VCORE_CS" 16 ++ numbered "VSER_PWM" 4 ++ ["VCORE_FLT_N", "VSER_FLT_N"]

/-- The signals of row G from column 6 (Table 18-12). -/
def rowG : List String :=
  numbered "VSER_CS" 4 ++ ["VIO_EN", "VIO_PG", "VDDH_EN", "VDDH_PG"] ++ numbered "FO" 16 ++
    ["HITCH_OUT", "HITCH_IN", "SMB_CLK", "SMB_DAT", "RST_N", "PERST_N", "SEAT", "LNY_CLK", "LNY_DAT", "TCK", "TMS", "TDI", "TDO",
     "TRST_N"]

/-- The signals of row H from column 6 (Table 18-12). -/
def rowH : List String :=
  (List.range 4).flatMap (fun n => ["_IO", "_CLK", "_RST", "_VCC", "_C4", "_PRES_N"].map (fun x => "TC" ++ toString n ++ x)) ++
    ["MESH_A_D0", "MESH_A_D1", "MESH_A_R0", "MESH_A_R1", "MESH_B_D0", "MESH_B_D1", "MESH_B_R0", "MESH_B_R1"] ++ numbered "SW" 4 ++
    ["MOTION_N", "XTAL32_IN", "XTAL32_OUT"]

/-- The named signal of a row from column 6, or the supply that follows them. -/
def bandSignal (names : List String) (col : Nat) (after : Ball) : Ball :=
  match names[col - 6]? with
  | some n => .signal n
  | none => after

/-- A ball of the core, rows 6–50 and columns 6–50 (R506, Table 18-12). -/
def coreBall (row col : Nat) : Ball :=
  match row with
  | 6 => bandSignal rowF col .vss
  | 7 => bandSignal rowG col .vio
  | 8 => bandSignal rowH col (if col ≤ 46 then .vbat else .vaux)
  | 9 => if col ≤ 24 then .reserved else if col ≤ 28 then .vaux else .vio
  | 10 => if col ≤ 16 then .vio else .vss
  | _ =>
    if row == 11 || (row == 12 && col ≤ 20) then .vddh
    else if row == 49 || row == 50 || (row == 48 && col ≤ 35) then .vser
    else if (row + col) % 2 == 0 then .vcore else .vss

/-- The ball at a row index and a column, 1 to 55 each (R501–R506). -/
def ballAt (row col : Nat) : Ball :=
  match slotOfBall row col with
  | some (slot, d, e) => if slot % 10 == 0 then cornerBall slot d e else quadBall (slot - slot / 10 - 1) d e
  | none => coreBall row col

end Sys2Proof.Machine
end

