-- ==== Sys2Proof/WellFormed.lean ====
section
/-! DEFINITION. Well-formed commands: every operand within the width or range that the spec gives the field, pin, port, strand,
ring or register it stands for. The machine is total on ill-formed ones too; they say nothing of the device. -/

namespace Sys2Proof

/-! ### Operand ranges -/

/-- A function number (R28). -/
def wfFn (fn : Nat) : Bool := fn < 64

/-- A ring number (Table 2-4). -/
def wfRing (ring : Nat) : Bool := ring < 4

/-- A 32-bit word. -/
def wfWord (w : Nat) : Bool := w < 2 ^ 32

/-- A strand ID (R32). -/
def wfStrand (i : Nat) : Bool := i < 4096

/-- A port slot: the 128 ports that Table 4-13 can name (R68). -/
def wfSlot (p : Nat) : Bool := p < 128

/-- A mailbox command: header fields in their widths (Table 2-6), and a payload of the LEN bytes, at most 4,064. -/
def wfMbx (q : MbxReq) : Bool :=
  wfFn q.fn && q.flags < 2 ^ 16 && q.tag < 2 ^ 32 && q.len < 2 ^ 32 && q.session < 2 ^ 32 && q.rsv.length ≤ 16 &&
  q.payload.length == min q.len 4064

/-- A fragment (Table 2-11). -/
def wfFrag (f : Frag) : Bool := f.addr < 2 ^ 64 && f.len < 2 ^ 32 && f.flags < 2 ^ 32

/-- A job descriptor's fields in their widths (Table 2-10). -/
def wfDesc (d : Desc) : Bool :=
  d.flags < 2 ^ 16 && d.tag < 2 ^ 32 && d.key < 2 ^ 32 && d.context < 2 ^ 32 && d.srcList < 2 ^ 64 && d.dstList < 2 ^ 64 &&
  d.srcCount < 2 ^ 16 && d.dstCount < 2 ^ 16 && d.totalLen < 2 ^ 32 && d.aadLen < 2 ^ 32 && d.param.length ≤ 16 &&
  d.eventRing < 256 && d.rsv.length ≤ 3

/-- A job as its ring delivers it. -/
def wfJob (j : JobReq) : Bool :=
  wfFn j.fn && wfRing j.ring && wfDesc j.desc && j.src.all wfFrag && j.dst.all wfFrag && j.src.length == j.desc.srcCount &&
  j.dst.length == j.desc.dstCount

/-- A Lanyard request: TARGET is a byte, the rest in its words (R383). -/
def wfLny (r : LnyReq) : Bool := r.target < 16 && r.count < 16 && r.addr < 2 ^ 32 && r.wdata.all wfWord && r.crc < 256 &&
  (match r.reservedOp with | some o => 0xB ≤ o && o < 16 | none => true)

/-- A frame: addresses of six bytes, at most three tags (R83). -/
def wfFrame (x : WireFrame) : Bool :=
  x.dst.length == 6 && x.src.length == 6 && x.etherType < 2 ^ 16 && x.tags.all (fun t => t.1 < 2 ^ 16 && t.2 < 2 ^ 16)

/-- A card's fields in their widths (Table 11-2). -/
def wfCard (c : Card) : Bool :=
  c.cardId.length ≤ 16 && c.state < 3 && c.pinTries ≤ 5 && c.caps < 2 ^ 32 && c.commit < 2 ^ 32 && c.atrC.length ≤ 33 && c.atrB.length ≤ 33

/-- A withdrawable unit (R476); Flail cores 16–31 are the SHA-2 cores. -/
def wfUnit (u : EngineUnit) : Bool :=
  match u with
  | .aes f c => f < 6 && c < 16
  | .flail c => c < 32
  | .stone n => n < 64
  | .hand n => n < 8

/-- A key-bus port (R151, R201). -/
def wfPort (p : KeyPort) : Bool :=
  match p with
  | .floor f => f < 6
  | .group g => g < 8

/-- Phases of a rail's stage: 16 for VDD_CORE, 4 for VDD_SER, one for the others (R457). -/
def wfPhase (r : Rail) (p : Nat) : Bool :=
  match r with
  | .vcore => p < 16
  | .vser => p < 4
  | _ => p < 1

/-- A scrub finding (R284, R285). -/
def wfFinding (x : ScrubFinding) : Bool :=
  match x with
  | .repaired off region => off < 0x4000000 && region < 11
  | .counterCopies id _ _ => id < 0x80000
  | .wearCopies i _ _ => i < 67584
  | .almanacCopies _ _ => true
  | .settingsCopies _ _ => true
  | .settingsDamaged => true
  | .keyDamaged i => i < 67584
  | .counterDamaged id => id < 0x80000
  | .trustDamaged id => wfWord id
  | .sheafDamaged n => n < 64
  | .ledgerDamaged seq => 0 < seq

/-- A HELLO (Table 14-3). -/
def wfHello (h : Hello) : Bool := h.serial < 2 ^ 64 && h.seat < 2 && h.kid.length == 8

/-- A heartbeat (Table 14-4). -/
def wfBeat (h : Heartbeat) : Bool :=
  h.serial < 2 ^ 64 && h.tick < 2 ^ 64 && h.role < 5 && h.seat < 2 && h.alarm < 6 && h.copy < 3 && h.partsId.length == 8

/-! ### Commands -/

/-- The command is well formed. -/
def Instr.wellFormed (i : Instr) : Bool :=
  match i with
  | .getInfo q => wfMbx q
  | .sessionOpen q => wfMbx q
  | .sessionAuth q => wfMbx q
  | .sessionClose q => wfMbx q
  | .clientEnroll q => wfMbx q
  | .clientRevoke q => wfMbx q
  | .keyGenerate q => wfMbx q
  | .keyImport q => wfMbx q
  | .keyImportWrapped q => wfMbx q
  | .keyExportWrapped q => wfMbx q
  | .keyDestroy q => wfMbx q
  | .keyInfo q => wfMbx q
  | .keySetAttr q => wfMbx q
  | .keyPublicRead q => wfMbx q
  | .counterRead q => wfMbx q
  | .counterAdvance q => wfMbx q
  | .counterAllocate q => wfMbx q
  | .contextClaim q => wfMbx q
  | .contextRelease q => wfMbx q
  | .contextInfo q => wfMbx q
  | .twinSet q => wfMbx q
  | .digestContextReset q => wfMbx q
  | .curveList q => wfMbx q
  | .strandConfig q => wfMbx q
  | .strandList q => wfMbx q
  | .strandStatus q => wfMbx q
  | .strandClose q => wfMbx q
  | .strandSubscribe q => wfMbx q
  | .scannerTrustImport q => wfMbx q
  | .sealConfig q => wfMbx q
  | .sealKeySet q => wfMbx q
  | .portConfig q => wfMbx q
  | .portStatus q => wfMbx q
  | .portCounters q => wfMbx q
  | .trustImportMasterlist q _ => wfMbx q
  | .trustImportCrl q _ => wfMbx q
  | .trustImportIsKey q => wfMbx q
  | .trustList q => wfMbx q
  | .trustRemove q => wfMbx q
  | .verdictKeySet q => wfMbx q
  | .dscacheFlush q => wfMbx q
  | .verifyPolicySet q => wfMbx q
  | .sheafLoad q _ => wfMbx q
  | .sheafList q => wfMbx q
  | .sheafRemove q => wfMbx q
  | .sheafBind q => wfMbx q
  | .sheafSignerSet q => wfMbx q
  | .cardStatus q => wfMbx q
  | .officerEnrol q _ => wfMbx q
  | .officerRemove q => wfMbx q
  | .quorumSet q => wfMbx q
  | .quorumBegin q => wfMbx q
  | .quorumApprove q _ => wfMbx q
  | .quorumCancel q => wfMbx q
  | .cardForceErase q _ => wfMbx q
  | .custodyJournalRead q => wfMbx q
  | .pairBegin q => wfMbx q
  | .pairComplete q => wfMbx q
  | .pairStatus q => wfMbx q
  | .pairSwitchover q => wfMbx q
  | .pairDissolve q => wfMbx q
  | .fieldOutputSet q => wfMbx q
  | .fieldOutputRead q => wfMbx q
  | .baleBegin q => wfMbx q
  | .baleChunk q _ => wfMbx q
  | .baleChunkMap q => wfMbx q
  | .baleVerify q => wfMbx q
  | .baleActivate q => wfMbx q
  | .baleStatus q => wfMbx q
  | .baleAbandon q => wfMbx q
  | .updateLockSet q => wfMbx q
  | .powerStateSet q => wfMbx q
  | .powerStatus q => wfMbx q
  | .telemetryRead q => wfMbx q
  | .compatSet q => wfMbx q
  | .modeRead q => wfMbx q
  | .alarmStatus q => wfMbx q
  | .monitorConfig q => wfMbx q
  | .selfTest q => wfMbx q
  | .thaw q => wfMbx q
  | .vigilLogRead q => wfMbx q
  | .ledgerRead q => wfMbx q
  | .ledgerHead q => wfMbx q
  | .lifecycleStatus q => wfMbx q
  | .lifecycleAdvance q => wfMbx q
  | .ownerClaim q => wfMbx q
  | .debugChallenge q => wfMbx q
  | .debugUnlock q => wfMbx q
  | .debugClose q => wfMbx q
  | .decommission q => wfMbx q
  | .timeRead q => wfMbx q
  | .timeSet q => wfMbx q
  | .timeKeySet q => wfMbx q
  | .driftRead q => wfMbx q
  | .aesGcmEncrypt j => wfJob j
  | .aesGcmDecrypt j => wfJob j
  | .aesGmacGenerate j => wfJob j
  | .aesGmacVerify j => wfJob j
  | .aesCtr j => wfJob j
  | .aesCbcEncrypt j => wfJob j
  | .aesCbcDecrypt j => wfJob j
  | .aesCmacGenerate j => wfJob j
  | .aesCmacVerify j => wfJob j
  | .aesEcbWrap j => wfJob j
  | .aesEcbUnwrap j => wfJob j
  | .tdeaCbcEncrypt j => wfJob j
  | .tdeaCbcDecrypt j => wfJob j
  | .tdeaMac3 j => wfJob j
  | .digest j => wfJob j
  | .xof j => wfJob j
  | .ecdsaSign j => wfJob j
  | .ecdsaVerify j => wfJob j
  | .eddsaSign j => wfJob j
  | .eddsaVerify j => wfJob j
  | .ecdh j => wfJob j
  | .rsaSign j => wfJob j
  | .rsaVerify j => wfJob j
  | .rsaDecrypt j => wfJob j
  | .rsaEncrypt j => wfJob j
  | .mldsaSign j => wfJob j
  | .mldsaVerify j => wfJob j
  | .mlkemEncaps j => wfJob j
  | .mlkemDecaps j => wfJob j
  | .modexp j => wfJob j
  | .modmul j => wfJob j
  | .verifyOffline j => wfJob j
  | .mbxGoRejected fn => wfFn fn
  | .mbxRelease fn => wfFn fn
  | .jobRingEnable fn ring ctrl => wfFn fn && wfRing ring && wfWord ctrl
  | .jobRingDisable fn ring ctrl => wfFn fn && wfRing ring && wfWord ctrl
  | .jobRingProduce fn ring index => wfFn fn && wfRing ring && index < 2 ^ 16
  | .eventRingEnable fn ring ctrl => wfFn fn && wfRing ring && wfWord ctrl
  | .eventRingDisable fn ring ctrl => wfFn fn && wfRing ring && wfWord ctrl
  | .eventRingConsume fn ring index => wfFn fn && wfRing ring && index < 2 ^ 16
  | .eventCoalesceExpiry fn ring => wfFn fn && wfRing ring
  | .hatchLockAcquire value => wfWord value
  | .hatchLockRelease value => wfWord value
  | .hatchStart => true
  | .hatchFinal => true
  | .hatchAbort => true
  | .hatchDinSubmit word => wfWord word
  | .hatchDoutConsume => true
  | .hatchOperationDone => true
  | .hatchIdleRelease => true
  | .flailStart => true
  | .flailFinal => true
  | .flailAbort => true
  | .flailDinSubmit word => wfWord word
  | .flailOutRead index => index < 16
  | .flailFallbackDone => true
  | .portCounterLatchRead slot counter => wfSlot slot && counter < 64
  | .registerWrite fn _ _ size value => wfFn fn && value < 2 ^ (8 * size)
  | .jobComplete _ _ => true
  | .deferredOpEnd fn _ => wfFn fn
  | .deferredOpTimeout fn _ => wfFn fn
  | .sessionAuthTimeout fn index => wfFn fn && index < 256
  | .sessionIdleTimeout fn index => wfFn fn && index < 256
  | .busMasterEnableChange fn _ => wfFn fn
  | .vfEnableChange _ numVfs => numVfs ≤ 63
  | .functionLevelReset fn => wfFn fn
  | .perstAssert => true
  | .rstNAssert => true
  | .powerArrival => true
  | .coldResetStart _ => true
  | .selfResetDue => true
  | .railGood _ => true
  | .railGoodTimeout _ => true
  | .railFaultRetry => true
  | .phaseFault rail phase => wfPhase rail phase
  | .phaseImbalance rail phase => wfPhase rail phase
  | .feedLost _ => true
  | .feedReturn _ => true
  | .switchFaultRetry _ => true
  | .ethrefLoss k => k < 4
  | .ethrefReturn k => k < 4
  | .vauxLoss => true
  | .vauxReturn => true
  | .alwaysOnPowerLoss => true
  | .monitorEvent monitor value => monitor < 32 && wfWord value
  | .decisionSecondEvaluation second => second ≤ 5
  | .monitorCauseCleared monitor => monitor < 32
  | .throttleEnd => true
  | .escalationWindowEnd monitor => monitor < 32
  | .loftKeyReload => true
  | .zerofillDone => true
  | .vigilMonitorEvent monitor value => monitor < 32 && wfWord value
  | .watchdogRefresh => true
  | .watchdogExpiry => true
  | .latentTestDue _ _ _ => true
  | .withdrawalTestDone unit _ => wfUnit unit
  | .keyBusStall port => wfPort port
  | .keyPortRetestDone port _ => wfPort port
  | .keySlotCommit index => index < 67584
  | .floorWakeDone floor => floor < 6
  | .winnowSliceEnd _ bytes => bytes ≤ 65536
  | .winnowAgePromotion _ => true
  | .millAgePromotion _ => true
  | .millStoneDone stone _ => stone < 64
  | .millReleaseCheckDone _ _ => true
  | .stoneWipeDone stone => stone < 64
  | .stoneIdleGate stone => stone < 64
  | .stoneWakeDone stone => stone < 64
  | .scrubPass findings => findings.all wfFinding
  | .almanacStore => true
  | .crystalCalibration _ => true
  | .portLinkUp slot _ => wfSlot slot
  | .portLinkDown loss => wfSlot loss.slot
  | .rxFrame slot frame => wfSlot slot && wfFrame frame
  | .unkeyedWindowReset => true
  | .tagVerifyDone strand seq _ => wfStrand strand && seq < 2 ^ 64
  | .contentDigestDone strand d => wfStrand strand && d.seq < 2 ^ 64
  | .knotDigestDone strand _ => wfStrand strand
  | .archiveEncryptDone strand _ => wfStrand strand
  | .slotMissing strand seq => wfStrand strand && seq < 2 ^ 64
  | .nakRepeat strand => wfStrand strand
  | .gapTimeout strand => wfStrand strand
  | .strandPauseRepeat strand => wfStrand strand
  | .linkPauseRefresh floor => floor < 6
  | .pauseQuantaExpiry slot => wfSlot slot
  | .openReq strand => wfStrand strand
  | .openConfirm strand => wfStrand strand
  | .rekeyReq strand => wfStrand strand
  | .rekeyConfirm strand => wfStrand strand
  | .closeReq strand => wfStrand strand
  | .unknownCtrl strand => wfStrand strand
  | .keyingTimeout strand => wfStrand strand
  | .rekeyConfirmTimeout strand => wfStrand strand
  | .rekeyInterval strand => wfStrand strand
  | .closeGraceTimeout strand => wfStrand strand
  | .segmentBoundary strand => wfStrand strand
  | .idleSealDue strand => wfStrand strand
  | .sealSignDone strand _ => wfStrand strand
  | .strandRecordPersist => true
  | .chipBegin strand => wfStrand strand
  | .chipRsp strand => wfStrand strand
  | .chipEnd strand => wfStrand strand
  | .chipApduTimeout strand => wfStrand strand
  | .chipSessionTimeout strand => wfStrand strand
  | .verdictSignDone _ _ => true
  | .sheafMsgEvent strand => wfStrand strand
  | .sheafTimerExpiry strand binding timer => wfStrand strand && binding < 16 && timer < 8
  | .sheafActionDone strand binding _ => wfStrand strand && binding < 16
  | .hawserPathDown _ => true
  | .hawserHello _ h => wfHello h
  | .hawserKeyex _ _ => true
  | .heartbeatSend => true
  | .hawserHeartbeat _ _ h => wfBeat h
  | .hawserEpochData _ _ _ _ _ => true
  | .hawserEpochEnd _ _ _ _ _ _ => true
  | .hawserEpochAck _ _ _ => true
  | .hawserShadow _ _ out fieldSeq => out < 2 ^ 16 && fieldSeq < 2 ^ 16
  | .hawserShadowAck _ _ fieldSeq => fieldSeq < 2 ^ 16
  | .hawserBulk _ _ _ => true
  | .hawserNotice _ _ _ => true
  | .epochTick => true
  | .epochAckTimeout => true
  | .peerLost => true
  | .hawserPathSilent _ => true
  | .hitchInChange _ => true
  | .hitchQuietExpiry => true
  | .hitchClaimConfirmed => true
  | .hitchBackoffExpiry => true
  | .hitchHolderCollision => true
  | .peerMayClaimTimeout => true
  | .startPeerWaitExpiry => true
  | .fieldShadowTimeout => true
  | .pairBeginLapse => true
  | .pairKeyexTimeout => true
  | .announcePeriodic => true
  | .activationDrainEnd => true
  | .activationDrainTimeout => true
  | .activationPauseEnd _ _ => true
  | .trialConfirm => true
  | .trialDeadline => true
  | .cardActivation slot card => slot < 4 && wfCard card
  | .cardRemoved slot => slot < 4
  | .cardOvercurrent slot => slot < 4
  | .debugLevelExpiry => true
  | .lanyardIdentify r => wfLny r
  | .lanyardStatus r => wfLny r
  | .lanyardTraceRead r => wfLny r
  | .lanyardStatsRead r => wfLny r
  | .lanyardBpSet r => wfLny r
  | .lanyardBpClear r => wfLny r
  | .lanyardHalt r => wfLny r
  | .lanyardResume r => wfLny r
  | .lanyardStep r => wfLny r
  | .lanyardRead r => wfLny r
  | .lanyardWrite r => wfLny r
  | .lanyardFramingReset => true
  | .tapOperation _ => true
  | .tapTckInProduction => true
  | .smbusReadBoot => true
  | .smbusReadStatus => true
  | .smbusReadTelemetry => true
  | .smbusReadSerial => true
  | .frameTransmitted slot => wfSlot slot
  | .hawserLinkUp _ => true
  | .pcieLinkUp widths rates => 0 < widths && widths < 32 && 0 < rates && rates < 32
  | .pcieLinkDown => true
  | .hatchBlockDone => true
  | .flailWordDone => true
  | .mbxGoCodeNotAllocated code q => code < 2 ^ 16 && wfMbx q
  | .descriptorCodeNotAllocated opcode j => opcode < 2 ^ 16 && wfJob j

end Sys2Proof
end

