-- ==== Sys2Proof/Safety.lean ====
section
/-! DEFINITION. The terms in which claims are stated: a step that completes, a mailbox command that is admitted (R38), and what
no command changes. -/

namespace Sys2Proof.Machine

/-- A run is safe while every step answers a next state: the block neither stops nor meets a command without a meaning. -/
def completes (s : State) : Prop := ∃ t, step s = .next t

/-- What no command, event, reset or purge changes: the unit's identity (R32, R33) and the commands that wait. -/
def Kept (s t : State) : Prop := t.ident = s.ident ∧ t.pending = s.pending

/-- The Steward takes a command from function `f`: the device is powered, the function exists (R28), the Steward is not halted
through the Lanyard (R386), and the mailbox reads IDLE (R39). -/
def stewardTakes (s : State) (f : Nat) : Bool :=
  stewardWorks s && fnExists s f && (fnOf s f).state == .idle

/-- The state on which a mailbox command's own checks run, if it passes steps 1 to 9 of R38: its session's idle time restarts
(R44), and the approval of a guarded command is consumed (R333). -/
def admitted (c : CmdSpec) (q : MbxReq) (s : State) : Option State :=
  if !stewardTakes s q.fn || (headerCheck c q s).isSome then none
  else
    let s := if c.access == .n then s else touchSession s q.fn q.session
    if (modeCheck c q s).isSome then none
    else if isGuarded s c q then (coveringApproval s c.code q).map (consumeApproval s)
    else some s

/-- The response of an admitted command that succeeds: the Ledger entry where R511 asks for one, the response header and payload,
and DONE (R37, R39). -/
def answer (c : CmdSpec) (q : MbxReq) (s : State) (payload : Bytes) : State :=
  finishCmd s c.code q.fn q.tag sOk 0 q.payload payload

/-- The response of an admitted command that ends with another STATUS (R37, R66). -/
def decline (c : CmdSpec) (q : MbxReq) (s : State) (status detail : Nat) : State :=
  finishCmd s c.code q.fn q.tag status detail q.payload []

/-- An admitted deferred command starts: an operation number of its own, and DONE at once (R41). -/
def begins (c : CmdSpec) (q : MbxReq) (s : State) (file : Option Bytes) (link : CardLink) : State :=
  startDeferred s c q { st := s, file, link }

/-- An admitted command holds its mailbox BUSY until what it waits for (R293, R405, R413). -/
def waitsFor (c : CmdSpec) (q : MbxReq) (s : State) (why : HeldFor) : State :=
  let h : Held := { code := c.code, tag := q.tag, payload := q.payload, why, turn := s.turnNo, session := q.session }
  setFn { s with turnNo := s.turnNo + 1 } q.fn { fnOf s q.fn with state := .busy, held := some h }

/-- The payload is `n` bytes and its reserved bytes are zero (R8, R512). -/
abbrev wellFormed (q : MbxReq) (n : Nat) (reserved : List (Nat × Nat)) : Prop := badFormat q n reserved = none

/-- Every admitted command that meets `H` succeeds: `exec` answers the next state with the effect `eff` on the state, the payload
`pay` in the response, and what follows every effect. -/
def Answers (c : CmdSpec) (i : MbxReq → Instr) (H : MbxReq → State → Prop) (eff : MbxReq → State → State)
    (pay : MbxReq → State → Bytes) : Prop :=
  ∀ q s s₀, admitted c q s = some s₀ → H q s₀ → exec (i q) s = .next (finish s (answer c q (eff q s₀) (pay q s₀)))

/-- A command that only reads: `Answers` with no effect on what it reads. -/
def Reads (c : CmdSpec) (i : MbxReq → Instr) (H : MbxReq → State → Prop) (pay : MbxReq → State → Bytes) : Prop :=
  Answers c i H (fun _ s => s) pay

/-- Every admitted deferred command that meets `H` starts, with the effect `eff` (R41). -/
def Starts (c : CmdSpec) (i : MbxReq → Instr) (H : MbxReq → State → Prop) (eff : MbxReq → State → State) : Prop :=
  ∀ q s s₀, admitted c q s = some s₀ → H q s₀ → exec (i q) s = .next (finish s (begins c q (eff q s₀) none []))

/-- Every admitted command that meets `H` has the effect `eff` and then waits. -/
def Waits (c : CmdSpec) (i : MbxReq → Instr) (H : MbxReq → State → Prop) (eff : MbxReq → State → State)
    (why : MbxReq → State → HeldFor) : Prop :=
  ∀ q s s₀, admitted c q s = some s₀ → H q s₀ → exec (i q) s = .next (finish s (waitsFor c q (eff q s₀) (why q s₀)))

/-- Operation `n` of function `f` is one of `code` and may end: the Steward works, and no purge reached it (R41, R153). -/
abbrev mayEnd (s : State) (f n : Nat) (o : DefOp) (code : Nat) : Prop :=
  opOf s f n = some o ∧ o.code = code ∧ stewardWorks s = true ∧ o.gone = 0 ∧ (purged s && closedByPurge code) = false

/-- The end of an operation's work answers the next state with this effect, after which waiting jobs start (R41). -/
def EndsWith (s : State) (f n : Nat) (t : State) : Prop := exec (.deferredOpEnd f n) s = .next (finish s (startJobs t))

/-- The job rows of the opcode table with the opcodes and engines of Table 2-17. -/
def jobRows : List (Nat × Engine × (JobReq → Instr)) :=
  [(0x0201, .thresher, .aesGcmEncrypt), (0x0202, .thresher, .aesGcmDecrypt), (0x0203, .thresher, .aesGmacGenerate),
   (0x0204, .thresher, .aesGmacVerify), (0x0205, .thresher, .aesCtr), (0x0206, .thresher, .aesCbcEncrypt),
   (0x0207, .thresher, .aesCbcDecrypt), (0x0208, .thresher, .aesCmacGenerate), (0x0209, .thresher, .aesCmacVerify),
   (0x020A, .thresher, .aesEcbWrap), (0x020B, .thresher, .aesEcbUnwrap), (0x0210, .thresher, .tdeaCbcEncrypt),
   (0x0211, .thresher, .tdeaCbcDecrypt), (0x0212, .thresher, .tdeaMac3), (0x0301, .flail, .digest), (0x0302, .flail, .xof),
   (0x0401, .mill, .ecdsaSign), (0x0402, .mill, .ecdsaVerify), (0x0403, .mill, .eddsaSign), (0x0404, .mill, .eddsaVerify),
   (0x0405, .mill, .ecdh), (0x0406, .mill, .rsaSign), (0x0407, .mill, .rsaVerify), (0x0408, .mill, .rsaDecrypt),
   (0x0409, .mill, .rsaEncrypt), (0x040A, .mill, .mldsaSign), (0x040B, .mill, .mldsaVerify), (0x040C, .mill, .mlkemEncaps),
   (0x040D, .mill, .mlkemDecaps), (0x0410, .mill, .modexp), (0x0411, .mill, .modmul), (0x0601, .hand, .verifyOffline)]

/-- A Lanyard request meets nothing on its way: its OP is one of Table 13-8, its target can take it, and no parity error (R384). -/
abbrev goesThrough (r : LnyReq) : Prop := r.reservedOp = none ∧ r.busy = false ∧ r.parity = false

/-- The rows that write a register of the Hatch window other than the lock (R179, R197). -/
def hatchWrites (word : Nat) : List Instr :=
  [.hatchStart, .hatchFinal, .hatchAbort, .hatchDinSubmit word, .flailStart, .flailFinal, .flailAbort, .flailDinSubmit word]

/-- A row takes up the CTRL frame at NEXT of open strand `i` when its MSG is `msg`: a valid message has its effect, an invalid one is
knotted and otherwise ignored. -/
def TakesCtrl (i msg : Nat) (row : Instr) (valid : State → WSlot → Bool) (eff : State → WSlot → State) : Prop :=
  ∀ w s, ctrlAtNext s i = some w → i < 4096 → msgOf w.payload = msg →
    exec row s = .next (finish s (advance (if (plainMsg w).isSome && valid s w then eff s w else knotCtrl s i w) i))

/-- The SMBus rows with their command code and data (Table 16-8). -/
def smbusRows : List (Instr × Nat × (State → Bytes)) :=
  [(.smbusReadBoot, 0x00, fun s => le 1 s.update.step ++ le 1 (bootCode s)),
   (.smbusReadStatus, 0x01, fun s => le 2 (pack [(powerNo s.power.state, 0, 2), (alarmLevel s, 2, 3),
     (roleNo s.pair.role, 5, 3), (ofBool s.update.mbxReady, 8, 1), (ofBool s.update.captureReady, 9, 1),
     (ofBool s.power.feedAOk, 10, 1), (ofBool s.power.feedBOk, 11, 1)])),
   (.smbusReadTelemetry, 0x10, fun s => le 1 48 ++ telemetryBytes s),
   (.smbusReadSerial, 0x20, fun s => le 1 8 ++ le 8 s.ident.serial)]

/-- The mailbox rows with what Table 2-17 says of the command, and the command as it stands in the buffer. -/
def specOf (i : Instr) : Option (CmdSpec × MbxReq) :=
  match i with
  | .getInfo q => some (specGetInfo, q)
  | .sessionOpen q => some (specSessionOpen, q)
  | .sessionAuth q => some (specSessionAuth, q)
  | .sessionClose q => some (specSessionClose, q)
  | .clientEnroll q => some (specClientEnroll, q)
  | .clientRevoke q => some (specClientRevoke, q)
  | .keyGenerate q => some (specKeyGenerate, q)
  | .keyImport q => some (specKeyImport, q)
  | .keyImportWrapped q => some (specKeyImportWrapped, q)
  | .keyExportWrapped q => some (specKeyExportWrapped, q)
  | .keyDestroy q => some (specKeyDestroy, q)
  | .keyInfo q => some (specKeyInfo, q)
  | .keySetAttr q => some (specKeySetAttr, q)
  | .keyPublicRead q => some (specKeyPublicRead, q)
  | .counterRead q => some (specCounterRead, q)
  | .counterAdvance q => some (specCounterAdvance, q)
  | .counterAllocate q => some (specCounterAllocate, q)
  | .contextClaim q => some (specContextClaim, q)
  | .contextRelease q => some (specContextRelease, q)
  | .contextInfo q => some (specContextInfo, q)
  | .twinSet q => some (specTwinSet, q)
  | .digestContextReset q => some (specDigestContextReset, q)
  | .curveList q => some (specCurveList, q)
  | .strandConfig q => some (specStrandConfig, q)
  | .strandList q => some (specStrandList, q)
  | .strandStatus q => some (specStrandStatus, q)
  | .strandClose q => some (specStrandClose, q)
  | .strandSubscribe q => some (specStrandSubscribe, q)
  | .scannerTrustImport q => some (specScannerTrustImport, q)
  | .sealConfig q => some (specSealConfig, q)
  | .sealKeySet q => some (specSealKeySet, q)
  | .portConfig q => some (specPortConfig, q)
  | .portStatus q => some (specPortStatus, q)
  | .portCounters q => some (specPortCounters, q)
  | .trustImportMasterlist q _ => some (specTrustImportMasterlist, q)
  | .trustImportCrl q _ => some (specTrustImportCrl, q)
  | .trustImportIsKey q => some (specTrustImportIsKey, q)
  | .trustList q => some (specTrustList, q)
  | .trustRemove q => some (specTrustRemove, q)
  | .verdictKeySet q => some (specVerdictKeySet, q)
  | .dscacheFlush q => some (specDscacheFlush, q)
  | .verifyPolicySet q => some (specVerifyPolicySet, q)
  | .sheafLoad q _ => some (specSheafLoad, q)
  | .sheafList q => some (specSheafList, q)
  | .sheafRemove q => some (specSheafRemove, q)
  | .sheafBind q => some (specSheafBind, q)
  | .sheafSignerSet q => some (specSheafSignerSet, q)
  | .cardStatus q => some (specCardStatus, q)
  | .officerEnrol q _ => some (specOfficerEnrol, q)
  | .officerRemove q => some (specOfficerRemove, q)
  | .quorumSet q => some (specQuorumSet, q)
  | .quorumBegin q => some (specQuorumBegin, q)
  | .quorumApprove q _ => some (specQuorumApprove, q)
  | .quorumCancel q => some (specQuorumCancel, q)
  | .cardForceErase q _ => some (specCardForceErase, q)
  | .custodyJournalRead q => some (specCustodyJournalRead, q)
  | .pairBegin q => some (specPairBegin, q)
  | .pairComplete q => some (specPairComplete, q)
  | .pairStatus q => some (specPairStatus, q)
  | .pairSwitchover q => some (specPairSwitchover, q)
  | .pairDissolve q => some (specPairDissolve, q)
  | .fieldOutputSet q => some (specFieldOutputSet, q)
  | .fieldOutputRead q => some (specFieldOutputRead, q)
  | .baleBegin q => some (specBaleBegin, q)
  | .baleChunk q _ => some (specBaleChunk, q)
  | .baleChunkMap q => some (specBaleChunkMap, q)
  | .baleVerify q => some (specBaleVerify, q)
  | .baleActivate q => some (specBaleActivate, q)
  | .baleStatus q => some (specBaleStatus, q)
  | .baleAbandon q => some (specBaleAbandon, q)
  | .updateLockSet q => some (specUpdateLockSet, q)
  | .powerStateSet q => some (specPowerStateSet, q)
  | .powerStatus q => some (specPowerStatus, q)
  | .telemetryRead q => some (specTelemetryRead, q)
  | .compatSet q => some (specCompatSet, q)
  | .modeRead q => some (specModeRead, q)
  | .alarmStatus q => some (specAlarmStatus, q)
  | .monitorConfig q => some (specMonitorConfig, q)
  | .selfTest q => some (specSelfTest, q)
  | .thaw q => some (specThaw, q)
  | .vigilLogRead q => some (specVigilLogRead, q)
  | .ledgerRead q => some (specLedgerRead, q)
  | .ledgerHead q => some (specLedgerHead, q)
  | .lifecycleStatus q => some (specLifecycleStatus, q)
  | .lifecycleAdvance q => some (specLifecycleAdvance, q)
  | .ownerClaim q => some (specOwnerClaim, q)
  | .debugChallenge q => some (specDebugChallenge, q)
  | .debugUnlock q => some (specDebugUnlock, q)
  | .debugClose q => some (specDebugClose, q)
  | .decommission q => some (specDecommission, q)
  | .timeRead q => some (specTimeRead, q)
  | .timeSet q => some (specTimeSet, q)
  | .timeKeySet q => some (specTimeKeySet, q)
  | .driftRead q => some (specDriftRead, q)
  | _ => none

/-- Mailbox commands that only read. -/
def readRows : List (CmdSpec × (MbxReq → Instr)) :=
  [(specGetInfo, .getInfo), (specKeyInfo, .keyInfo), (specCounterRead, .counterRead), (specTimeRead, .timeRead),
   (specDriftRead, .driftRead), (specLedgerRead, .ledgerRead), (specContextInfo, .contextInfo), (specCurveList, .curveList),
   (specStrandList, .strandList), (specStrandStatus, .strandStatus), (specTrustList, .trustList),
   (specSheafList, .sheafList), (specCardStatus, .cardStatus), (specCustodyJournalRead, .custodyJournalRead),
   (specPairStatus, .pairStatus), (specFieldOutputRead, .fieldOutputRead), (specBaleChunkMap, .baleChunkMap),
   (specBaleStatus, .baleStatus), (specPowerStatus, .powerStatus), (specTelemetryRead, .telemetryRead),
   (specModeRead, .modeRead), (specAlarmStatus, .alarmStatus), (specVigilLogRead, .vigilLogRead),
   (specLifecycleStatus, .lifecycleStatus), (specPortStatus, .portStatus)]

/-- The floor's link PAUSE stands as its free Bins and its cores ask (R92, R477). -/
def binsSettled (s : State) (f : Nat) : Prop :=
  if (floorOf s f).pausing then freeBins s f ≤ 4194304 ∨ starved s f = true
  else 2097152 ≤ freeBins s f ∧ starved s f = false

/-- Nothing follows an effect by itself: no Series-7 decision waits, no Hatch START waits, no strand is open or has work for a Hand,
no slot's write is under way, no table instance and no verdict is there, no Hand serves a request, the Mill has no work of the device's
own, the unit does not hand over, and no floor's PAUSE is due. -/
def quiet (s : State) : Prop :=
  (s.scarecrow.compat ≠ 1 ∨ s.scarecrow.decisions = []) ∧ s.hatch.starting = false ∧
  (∀ e ∈ s.strands, isOpen e.2 = false ∧ e.2.ctrl = [] ∧ e.2.sealQ = [] ∧ e.2.chip = none) ∧
  s.writes = [] ∧ s.verdicts = [] ∧ s.instances = [] ∧ (∀ e ∈ s.fns, ∀ o ∈ e.2.ops, o.code ≠ 0x0101) ∧ (∀ b ∈ s.jobs, b.own = none ∧ b.engine ≠ .hand ∧ b.asks = none) ∧
  s.pair.leaving = none ∧ (∀ h, (fnOf s 0).held = some h → h.why ≠ .switchover none) ∧ ∀ f < 6, binsSettled s f

/-- The device is otherwise at rest: nothing follows by itself, no strand is configured, no job is there, and the fall-back digest
path waits for no core. -/
def atRest (s : State) : Prop :=
  quiet s ∧ s.strands = [] ∧ s.jobs = [] ∧ s.flail.inWord = false ∧ s.flail.finishing = false

end Sys2Proof.Machine
end

