-- ==== Sys2Proof/Certificates/Slice0/Obligations.lean ====
section
/-! DEFINITION. The statements about the block for the provers, from the numbered rules of spec/: what every command does, which
checks turn it away, and what holds after every step. -/

open Sys2Proof Sys2Proof.Machine

/-! ### Information and sessions (R42–R45, R428) -/

/-- GET_INFO, SESSION_OPEN, SESSION_AUTH and SESSION_CLOSE: what each answers and what it changes (R42–R44, Table 15-3).
SESSION_AUTH completes with OK exactly where the signature verifies; else the session is closed and the failure counted. -/
def Obligations.SessionCommandsComplete : Prop :=
  Reads specGetInfo .getInfo (fun q _ => wellFormed q 0 [])
    (fun _ s => le 8 s.ident.serial ++ le 2 0x9144 ++ le 1 1 ++
      le 1 (pack [(s.update.bank, 0, 1), (ofBool (s.update.phase == .trial), 1, 1), (ofBool s.update.recovery, 2, 1),
        (ofBool (s.update.code == 1), 3, 1), (ofBool s.ident.optionN, 4, 1)]) ++
      le 4 (running s).svn ++ (List.range 7).flatMap (fun k => le 4 ((running s).versions.getD k 0)) ++
      le 2 (running s).schema ++ le 2 (pairFormat s) ++ fit 8 (partsId s) ++ fit 16 (running s).release ++
      fit 32 (running s).baleId) ∧
  (∀ q s s₀ k i, admitted specSessionOpen q s = some s₀ → wellFormed q 8 [(1, 3)] → fld q 0 1 ≤ 3 → fld q 4 4 ≤ 3600 →
    (clientOf s₀ q.fn).lockEnd ≤ s₀.now → throttled s₀ = false → tblFind (clientOf s₀ q.fn).creds (fld q 0 1) = some k →
    firstFrom 0 16 (fun n => !(fnOf s₀ q.fn).sessions.any (fun x => x.index == n)) = some i →
    let x : Session := { index := i, serial := nextSerial s₀ q.fn i, cred := fld q 0 1, challenge := randomBytes s₀ 32
                         expires := s₀.now + 30000000, idleS := if fld q 4 4 == 0 then 300 else fld q 4 4, lastUse := s₀.now }
    let w := fnOf s₀ q.fn
    exec (.sessionOpen q) s = .next (finish s (answer specSessionOpen q
      (setFn (draw s₀) q.fn { w with sessions := w.sessions ++ [x], serials := tblSet w.serials i x.serial })
      (le 4 (sessionId q.fn x) ++ le 2 k.alg ++ zeros 2 ++ le 8 x.expires ++ x.challenge)))) ∧
  (∀ q s s₀ x, admitted specSessionAuth q s = some s₀ → wellFormed q (4 + fld q 0 2) [(2, 2)] →
    sessionOf s₀ q.fn q.session = some x → x.auth = false → s₀.now < x.expires →
    exec (.sessionAuth q) s = .next (finish s (if authVerifies s₀ q.fn x (q.payload.drop 4)
      then answer specSessionAuth q (authenticate s₀ q.fn x) []
      else decline specSessionAuth q (authFails q s₀ x).st eAuth 0))) ∧
  (∀ q s s₀ x, admitted specSessionClose q s = some s₀ → wellFormed q 0 [] → sessionOf s₀ q.fn q.session = some x →
    exec (.sessionClose q) s = .next (finish s (answer specSessionClose q (closeSession s₀ q.fn x) [])))

/-- CLIENT_ENROLL stores the credential, closing the sessions that an earlier one in its place opened, where its key passes the
checks of Table 7-5, and ends with E_PK_REJECT where it does not; CLIENT_REVOKE removes what it names and closes what those
credentials opened (R45). -/
def Obligations.CredentialCommandsComplete : Prop :=
  (∀ q s s₀, admitted specClientEnroll q s = some s₀ → wellFormed q (8 + fld q 4 2) [(6, 2)] → fld q 0 1 < 64 → fld q 1 1 ≤ 3 →
    (fld q 2 2 = 1 ∨ fld q 2 2 = 2) → fld q 4 2 = credLen (fld q 2 2) →
    let kept := setCred s₀ (fld q 0 1) (fld q 1 1) (some { alg := fld q 2 2, key := q.payload.drop 8 })
    exec (.clientEnroll q) s = .next (finish s (if credKeyOk s₀ (fld q 2 2) (q.payload.drop 8)
      then answer specClientEnroll q
        (if tblHas (clientOf s₀ (fld q 0 1)).creds (fld q 1 1) then dropCredSessions kept (fld q 0 1) (fld q 1 1) else kept) []
      else decline specClientEnroll q s₀ ePkReject 0))) ∧
  Answers specClientRevoke .clientRevoke
    (fun q s => wellFormed q 4 [(2, 2)] ∧ fld q 0 1 < 64 ∧
      (fld q 1 1 = 0xFF ∨ (fld q 1 1 ≤ 3 ∧ (revoked s (fld q 0 1) (fld q 1 1)).isEmpty = false)))
    (fun q s => (revoked s (fld q 0 1) (fld q 1 1)).foldl
      (fun s k => dropCredSessions (setCred s (fld q 0 1) k none) (fld q 0 1) k) s)
    (fun _ _ => [])

/-! ### Keys (R287–R298) -/

/-- KEY_GENERATE starts, and at its end a stone's key pair, or a symmetric key, is drawn and its slot's write begins; KEY_IMPORT
waits for its slot's commit with the material imported, KEY_EXPORT_WRAPPED answers the blob of Table 10-6, and KEY_IMPORT_WRAPPED
waits for its commit where the blob opens under the wrapper and ends with E_AUTH where it does not (R152, R201, R293–R296). Whether
the inverse check of a wrap fails, and on which floor, are free values (notes/assumptions/30.md): it ends with E_TWIN. -/
def Obligations.KeyMaterialCommandsComplete : Prop :=
  (Starts specKeyGenerate .keyGenerate
    (fun q s => wellFormed q 16 [(5, 1), (12, 4)] ∧ firstField (badKeyFields q s) = none ∧ fenced s (hIndex (qHandle q)) = false ∧
      publicType (fld q 4 1) = false ∧ hClass (qHandle q) ∈ typeClasses (fld q 4 1) ∧
      ∃ i, writeTarget s q.fn (qHandle q) (fld q 4 1) (fld q 8 4) = .ok i)
    (fun _ s => s) ∧
   ∀ f n o s i, mayEnd s f n o 0x0101 →
     let h := rd o.payload 0 4
     let t := rd o.payload 4 1
     let set := rd o.payload 6 2
     let attr := rd o.payload 8 4
     s.writes.any (fun w => w.fn == f && w.op == some o.no) = false → fenced s (hIndex h) = false → publicType t = false →
     hClass h ∈ typeClasses t → writeTarget s f h t attr = .ok i → pairMade s f o = true →
     let k : KeySlot := { cls := hClass h, type := t, set, attr, material := fit ((keyLen s t set).getD 0) (Config.keyGen t set s.rng) }
     let u := ownEnds (draw s) (.keyPair f o.no)
     EndsWith s f n { u with writes := u.writes ++ [
       { index := i, content := some k, newGen := true, fn := f, code := 0x0101, tag := o.tag, payload := o.payload
         purgeClass := hClass h, op := some o.no, reply := le 4 (handle (hClass h) (nextGen (genOf s i)) i) ++ zeros 12 }] }) ∧
  (∀ q s s₀ i, admitted specKeyImport q s = some s₀ → wellFormed q (16 + fld q 12 2) [(5, 1), (14, 2)] →
    firstField (badKeyFields q s₀) = none → keyLen s₀ (fld q 4 1) (fld q 6 2) = some (q.payload.drop 16).length →
    fenced s₀ (hIndex (qHandle q)) = false →
    (hClass (qHandle q) = clsGeneral ∨ hClass (qHandle q) = clsPublic) → hClass (qHandle q) ∈ typeClasses (fld q 4 1) →
    writeTarget s₀ q.fn (qHandle q) (fld q 4 1) (fld q 8 4) = .ok i →
    materialOk s₀ (fld q 4 1) (fld q 6 2) (q.payload.drop 16) = true →
    let k : KeySlot := { cls := hClass (qHandle q), type := fld q 4 1, set := fld q 6 2, attr := fld q 8 4
                         material := q.payload.drop 16 }
    let w : SlotWrite := { index := i, content := some k, newGen := true, fn := q.fn, code := 0x0102, tag := q.tag
                           payload := q.payload, reply := le 4 (handle k.cls (nextGen (genOf s₀ i)) i), purgeClass := k.cls }
    exec (.keyImport q) s = .next (finish s (waitsFor specKeyImport q { s₀ with writes := s₀.writes ++ [w] } (.commit i)))) ∧
  (∀ q s s₀ k w, admitted specKeyExportWrapped q s = some s₀ → wellFormed q 12 [(9, 3)] →
    badIndex (hIndex (qHandle q)) = false → wrongIndex (fld q 8 1 == 1) (fld q 4 4) = false → fld q 8 1 ≠ 0 → fld q 8 1 ≤ 3 →
    strandIndex (hIndex (qHandle q)) = false → strandIndex (hIndex (fld q 4 4)) = false →
    fenced s₀ (hIndex (qHandle q)) = false → fenced s₀ (hIndex (fld q 4 4)) = false →
    keyAt s₀ (qHandle q) = .ok k → keyAt s₀ (fld q 4 4) = .ok w → mayManage k q.fn = true → mayUse w q.fn = true →
    (k.cls = clsGeneral ∨ k.cls = clsEvidence) → bit k.attr aExportable = true → bit w.attr aWrap = true →
    fitsExport (fld q 8 1) w = true → k.damaged = false → w.damaged = false →
    let floor := ofLe (randomBytes s₀ 1) % 6
    let t := draw s₀
    exec (.keyExportWrapped q) s = .next (finish s (if Config.inverseFails s₀.rng
      then decline specKeyExportWrapped q (twinMismatch t floor [] false q.tag) eTwin floor
      else answer specKeyExportWrapped q (draw t) (blobOf t (fld q 8 1) k w)))) ∧
  (∀ q s s₀ wk i, admitted specKeyImportWrapped q s = some s₀ →
    let b := q.payload.drop 12
    let attr := rd b 8 4 % 2 ^ 16 + q.fn * 2 ^ 16
    wellFormed q (12 + fld q 8 2) [(10, 2), (24, 4), (40, 4)] → b.length = 32 + rd b 24 2 + rd b 26 2 → rd b 0 1 = 1 →
    rd b 1 1 ≠ 0 → rd b 1 1 ≤ 3 → keyType (rd b 2 1) = true → publicType (rd b 2 1) = false → rd b 3 1 ≤ 2 →
    keyLen s₀ (rd b 2 1) (rd b 4 2) = some (rd b 6 2) → attrReserved (rd b 8 4) = false →
    (rd b 3 1 == clsCustody && bit (rd b 8 4) aExportable) = false → rd b 26 2 = wrappedLen (rd b 6 2) →
    encLens (rd b 1 1) (rd b 24 2) = true →
    badWriteHandle (qHandle q) (rd b 2 1) = false → wrongIndex (rd b 1 1 == 1) (fld q 4 4) = false →
    strandIndex (hIndex (fld q 4 4)) = false → fenced s₀ (hIndex (qHandle q)) = false → fenced s₀ (hIndex (fld q 4 4)) = false →
    keyAt s₀ (fld q 4 4) = .ok wk → mayUse wk q.fn = true → bit wk.attr aUnwrap = true → fitsImport (rd b 1 1) wk = true →
    rd b 3 1 = hClass (qHandle q) → rd b 3 1 ∈ typeClasses (rd b 2 1) → wk.damaged = false →
    rd b 24 2 = encLen (rd b 1 1) wk.set → writeTarget s₀ q.fn (qHandle q) (rd b 2 1) attr = .ok i →
    let plain := (importKek (rd b 1 1) wk (slice b 32 (rd b 24 2))).bind
      (fun kek => Config.kwpUnwrap kek (slice b (32 + rd b 24 2) (rd b 26 2)))
    let whole := fun (p : Bytes) => p.take 16 == b.take 16 && p.length == 16 + rd b 6 2
    let k := fun (p : Bytes) => ({ cls := rd b 3 1, type := rd b 2 1, set := rd b 4 2, attr, material := p.drop 16 } : KeySlot)
    let floor := ofLe (randomBytes s₀ 1) % 6
    let t := draw s₀
    exec (.keyImportWrapped q) s = .next (finish s (
      if slice b 16 8 ≠ fit 8 (wrapperKid s₀ (rd b 1 1) wk) then decline specKeyImportWrapped q s₀ eAuth 0
      else if Config.inverseFails s₀.rng
      then decline specKeyImportWrapped q (twinMismatch t floor [] false q.tag) eTwin floor
      else match plain.filter whole with
        | some p => waitsFor specKeyImportWrapped q { t with writes := t.writes ++ [
            { index := i, content := some (k p), newGen := true, fn := q.fn, code := 0x0103, tag := q.tag, payload := q.payload
              reply := le 4 (handle (rd b 3 1) (nextGen (genOf s₀ i)) i), purgeClass := rd b 3 1 }] } (.commit i)
        | none => decline specKeyImportWrapped q t eAuth 0)))

/-- KEY_DESTROY and KEY_SET_ATTR wait for the commit of an erasure or of the slot with its attributes changed; KEY_INFO and
KEY_PUBLIC_READ answer what the slot holds (R290, R297, R298, Table 10-5). -/
def Obligations.KeySlotCommandsComplete : Prop :=
  (∀ q s s₀ k, admitted specKeyDestroy q s = some s₀ → wellFormed q 4 [] → badIndex (hIndex (qHandle q)) = false →
    strandIndex (hIndex (qHandle q)) = false → fenced s₀ (hIndex (qHandle q)) = false → keyAt s₀ (qHandle q) = .ok k →
    mayManage k q.fn = true →
    let w : SlotWrite := { index := hIndex (qHandle q), content := none, newGen := false, fn := q.fn, code := 0x0105, tag := q.tag
                           payload := q.payload, reply := [], purgeClass := k.cls }
    exec (.keyDestroy q) s =
      .next (finish s (waitsFor specKeyDestroy q { s₀ with writes := s₀.writes ++ [w] } (.commit (hIndex (qHandle q)))))) ∧
  (∀ q s s₀ k, admitted specKeySetAttr q s = some s₀ → wellFormed q 8 [] → attrReserved (fld q 4 4) = false →
    badIndex (hIndex (qHandle q)) = false → strandIndex (hIndex (qHandle q)) = false →
    fenced s₀ (hIndex (qHandle q)) = false → keyAt s₀ (qHandle q) = .ok k → mayManage k q.fn = true →
    attrForbidden k.attr (fld q 4 4) q.fn = false →
    let w : SlotWrite := { index := hIndex (qHandle q), content := some { k with attr := fld q 4 4 }, newGen := false, fn := q.fn
                           code := 0x0107, tag := q.tag, payload := q.payload, reply := [], purgeClass := k.cls }
    exec (.keySetAttr q) s =
      .next (finish s (waitsFor specKeySetAttr q { s₀ with writes := s₀.writes ++ [w] } (.commit (hIndex (qHandle q)))))) ∧
  Reads specKeyInfo .keyInfo
    (fun q s => wellFormed q 4 [] ∧ badIndex (hIndex (qHandle q)) = false ∧ strandIndex (hIndex (qHandle q)) = false ∧
      fenced s (hIndex (qHandle q)) = false ∧
      ∀ k, tblFind s.keys (hIndex (qHandle q)) = some k → (mayManage k q.fn || bit k.attr aShared) = true)
    (fun q s => keyInfoBytes s (hIndex (qHandle q))) ∧
  (∀ q s s₀ k p, admitted specKeyPublicRead q s = some s₀ → wellFormed q 4 [] → badIndex (hIndex (qHandle q)) = false →
    strandIndex (hIndex (qHandle q)) = false → fenced s₀ (hIndex (qHandle q)) = false → keyAt s₀ (qHandle q) = .ok k →
    (mayManage k q.fn || bit k.attr aShared) = true → k.damaged = false → publicOf s₀ k = some p →
    exec (.keyPublicRead q) s = .next (finish s (answer specKeyPublicRead q s₀ (le 2 p.length ++ zeros 2 ++ p))))

/-! ### Counters, time and the Ledger (R299–R312, R514) -/

/-- The counter commands: COUNTER_READ answers value, ATTR and STATE, at once or once an
epoch covers a value that R405 holds back; COUNTER_ADVANCE adds STEP while the counter stays below the
limit of R300 and within R405; COUNTER_ALLOCATE allocates a free counter and releases an owned one (R299, R300, R514). -/
def Obligations.CounterCommandsComplete : Prop :=
  Reads specCounterRead .counterRead
    (fun q s => wellFormed q 4 [] ∧ fld q 0 4 < 0x80000 ∧ (counterOf s (fld q 0 4)).damaged = false ∧
      beyondAcked s (fld q 0 4) (counterValue s (fld q 0 4)) = false ∧
      ((counterOf s (fld q 0 4)).allocated = true → deviceCounter (fld q 0 4) = false →
        attrOwner (counterOf s (fld q 0 4)).attr = q.fn ∨ q.fn = 0 ∨ ctrShared (counterOf s (fld q 0 4)) = true))
    (fun q s => le 8 (counterValue s (fld q 0 4)) ++ le 4 (counterOf s (fld q 0 4)).attr ++
      le 1 (counterState s (fld q 0 4)) ++ zeros 3) ∧
  Waits specCounterRead .counterRead
    (fun q s => wellFormed q 4 [] ∧ fld q 0 4 < 0x80000 ∧ (counterOf s (fld q 0 4)).damaged = false ∧
      beyondAcked s (fld q 0 4) (counterValue s (fld q 0 4)) = true ∧
      ((counterOf s (fld q 0 4)).allocated = true → deviceCounter (fld q 0 4) = false →
        attrOwner (counterOf s (fld q 0 4)).attr = q.fn ∨ q.fn = 0 ∨ ctrShared (counterOf s (fld q 0 4)) = true))
    (fun _ s => s) (fun q s => .epoch (fld q 0 4) (counterValue s (fld q 0 4))) ∧
  (∀ q s s₀, admitted specCounterAdvance q s = some s₀ → wellFormed q 8 [] → fld q 0 4 < 0x7FF00 → fld q 4 4 ≠ 0 →
    let c := counterOf s₀ (fld q 0 4)
    let t := setCounter (rememberAcked s₀ (fld q 0 4) c.value) (fld q 0 4) { c with value := c.value + fld q 4 4 }
    c.allocated = true → (attrOwner c.attr = q.fn ∨ ctrShared c = true) → c.damaged = false →
    c.value + fld q 4 4 < counterTop → beyondAcked t (fld q 0 4) (c.value + fld q 4 4) = false →
    exec (.counterAdvance q) s = .next (finish s (answer specCounterAdvance q t (le 8 (c.value + fld q 4 4))))) ∧
  (∀ q s s₀, admitted specCounterAllocate q s = some s₀ → wellFormed q 12 [(1, 3)] → fld q 0 1 = 1 → fld q 4 4 < 0x7FF00 →
    ctrReserved (fld q 8 4) = false → (q.fn = 0 ∨ attrOwner (fld q 8 4) = q.fn) →
    let c := counterOf s₀ (fld q 4 4)
    c.damaged = false → c.allocated = false →
    exec (.counterAllocate q) s = .next (finish s (answer specCounterAllocate q
      (setCounter s₀ (fld q 4 4) { c with allocated := true, attr := fld q 8 4 }) (le 4 (fld q 4 4) ++ zeros 4 ++ le 8 c.value)))) ∧
  (∀ q s s₀, admitted specCounterAllocate q s = some s₀ → wellFormed q 12 [(1, 3)] → fld q 0 1 = 2 → fld q 4 4 < 0x7FF00 →
    let c := counterOf s₀ (fld q 4 4)
    c.allocated = true → (attrOwner c.attr = q.fn ∨ q.fn = 0) →
    exec (.counterAllocate q) s = .next (finish s (answer specCounterAllocate q
      (setCounter s₀ (fld q 4 4) { c with allocated := false, attr := 0 }) (le 4 (fld q 4 4) ++ zeros 4 ++ le 8 c.value))))

/-- TIME_READ and DRIFT_READ answer the Almanac; TIME_KEY_SET names the time key; TIME_SET takes a time statement whose signature
verifies, and ends with E_AUTH where it does not (R304–R307, R313). The step of a first setting needs no approval (R305).
LEDGER_READ answers up to 31 entries from FIRST_SEQ upward, and LEDGER_HEAD the head, with a signature while a seal key is named
(R289, R312). -/
def Obligations.TimeAndLedgerCommandsComplete : Prop :=
  (Reads specTimeRead .timeRead (fun q _ => wellFormed q 0 [])
     (fun _ s => le 8 s.now ++ leInt 8 s.almanac.offset ++ le 2 s.almanac.leap ++
       le 2 (pack [(ofBool s.almanac.offsetSet, 0, 1), (ofBool s.almanac.timeLost, 1, 1), (ofBool s.almanac.lowRate, 2, 1)]) ++
       zeros 4 ++ le 8 ((nowUtc s).getD 0) ++ le 8 s.ident.serial) ∧
   Reads specDriftRead .driftRead (fun q _ => wellFormed q 0 [])
     (fun _ s => leInt 4 s.almanac.crystalPpb ++ le 4 s.almanac.uncertainty ++ le 8 s.almanac.setTick ++ le 8 s.almanac.pllUs ++
       le 8 s.almanac.crystalUs ++ le 8 (errorUs s.almanac)) ∧
   (∀ q s s₀ k, admitted specTimeKeySet q s = some s₀ → wellFormed q 4 [] → wrongIndex false (fld q 0 4) = false →
     hClass (fld q 0 4) = clsPublic → keyAt s₀ (fld q 0 4) = .ok k → k.type = 0x11 → k.set = 2 → bit k.attr aVerify = true →
     exec (.timeKeySet q) s = .next (finish s (answer specTimeKeySet q
       { s₀ with almanac := { s₀.almanac with timeKey := fld q 0 4 } } []))) ∧
   (∀ q s s₀ k, admitted specTimeSet q s = some s₀ → wellFormed q 120 [(20, 4)] → ownKey s₀ s₀.almanac.timeKey = some k →
     bit k.attr aVerify = true → 10 ≤ fld q 16 2 → fld q 16 2 ≤ 100 → fld q 18 2 = 0 → fld q 0 8 ≤ s₀.now → s₀.now < fld q 0 8 + 10000000 →
     (s₀.almanac.refSet = true → s₀.almanac.lastRef < fld q 0 8) →
     let a := timeStatement s₀ (fld q 0 8) (fld q 8 8) (fld q 16 2)
     (-300000000 ≤ timeStep s₀ a) → timeStep s₀ a ≤ 300000000 →
     exec (.timeSet q) s = .next (finish s (
       if verifyP384 k.material (timeMessage s₀ q.payload) (slice q.payload 24 96)
       then answer specTimeSet q (share { s₀ with almanac := a } (.time (timeCopy a)))
         (leInt 8 a.offset ++ le 4 a.uncertainty ++ zeros 4 ++ leInt 8 (timeStep s₀ a))
       else decline specTimeSet q s₀ eAuth 0)))) ∧
  (Reads specLedgerRead .ledgerRead (fun q _ => wellFormed q 8 [])
     (fun q s =>
       let es := s.ledger.entries.filter (fun e => fld q 0 8 ≤ e.seq)
       le 2 (es.take 31).length ++ le 2 (if 31 < es.length then 1 else 0) ++ zeros 4 ++
         (es.take 31).flatMap (Sys2Proof.Machine.ledgerRead s.ledger)) ∧
   (∀ q s s₀, admitted specLedgerHead q s = some s₀ → wellFormed q 32 [] →
     let oldest := match s₀.ledger.entries with | [] => 0 | e :: _ => e.seq
     let b := le 8 s₀.ledger.seq ++ le 8 oldest ++ fit 32 (Sys2Proof.Machine.ledgerHead s₀.ledger) ++ le 8 s₀.ident.serial ++
       le 8 s₀.now ++ fit 32 q.payload
     exec (.ledgerHead q) s = .next (finish s (match namedSealKey s₀ with
       | none => answer specLedgerHead q s₀ (b ++ le 2 0 ++ zeros 6 ++ zeros 96)
       | some k =>
         if bit k.attr aSign then answer specLedgerHead q (draw s₀) (b ++ le 2 1 ++ zeros 6 ++
           signP384 s₀ k.material (ascii "OPM-LEDGER" ++ (b ++ le 2 1 ++ zeros 6)))
         else decline specLedgerHead q s₀ eDenied 0))))

/-! ### Contexts, twin computation and curves (R148, R168–R171, R190, R206) -/

/-- The context commands, TWIN_SET and CURVE_LIST; DIGEST_CONTEXT_RESET leaves a cipher message, open or ended, as it is (R148, R168–R170,
R190, R206). -/
def Obligations.ContextCommandsComplete : Prop :=
  Answers specContextClaim .contextClaim
    (fun q s => wellFormed q 4 [] ∧ fld q 0 4 < 16384 ∧ tblFind s.contexts (fld q 0 4) = none ∧
      (s.contexts.filter (fun e => e.2.holder == q.fn)).length < 2048)
    (fun q s => setContext s (fld q 0 4) { holder := q.fn, floor := chooseFloor s })
    (fun q s => le 4 (fld q 0 4) ++ le 1 (chooseFloor s) ++ zeros 3) ∧
  (∀ q s s₀ x, admitted specContextRelease q s = some s₀ → wellFormed q 4 [] → fld q 0 4 < 16384 →
    tblFind s₀.contexts (fld q 0 4) = some x → x.holder = q.fn → (contextBusy s₀ (fld q 0 4) = false ∨ q.flags ≠ 0) →
    let t := stopContext s₀ (fld q 0 4)
    exec (.contextRelease q) s = .next (finish s (answer specContextRelease q
      (startJobs (settleFloor { t with contexts := tblDel t.contexts (fld q 0 4) } x.floor)) []))) ∧
  Reads specContextInfo .contextInfo (fun q _ => wellFormed q 4 [] ∧ fld q 0 4 < 16384)
    (fun q s => contextBytes s q.fn (fld q 0 4)) ∧
  (∀ q s s₀ x, admitted specDigestContextReset q s = some s₀ → wellFormed q 4 [] → fld q 0 4 < 16384 →
    tblFind s₀.contexts (fld q 0 4) = some x → x.holder = q.fn → contextBusy s₀ (fld q 0 4) = false →
    exec (.digestContextReset q) s = .next (finish s (answer specDigestContextReset q
      (setContext s₀ (fld q 0 4) { x with
        msg := if x.msg.any (fun m => !digestMessage m) then x.msg else none
        ended := if x.endedDigest then none else x.ended, remembered := none }) []))) ∧
  Answers specTwinSet .twinSet (fun q _ => wellFormed q 4 [(1, 3)] ∧ fld q 0 1 ≤ 1)
    (fun q s => startJobs ((List.range 6).foldl linkPauseCheck
      (share { s with twin := fld q 0 1 == 1 } (.twin (fld q 0 1 == 1)))))
    (fun _ _ => []) ∧
  Reads specCurveList .curveList (fun q _ => wellFormed q 4 [(2, 2)])
    (fun q s =>
      let l := (allCurves s).filter (fun i => fld q 0 2 ≤ i)
      le 2 (l.take 200).length ++ le 2 (ofBool (200 < l.length)) ++ (l.take 200).flatMap (curveEntry s))

/-! ### Strands, seals and ports (R80, R100, R101, R114, R141–R143) -/

/-- STRAND_CONFIG stores or removes a configuration; STRAND_LIST and STRAND_STATUS answer the strands; STRAND_CLOSE closes at once
or asks the scanner first, with 100 ms of grace; STRAND_SUBSCRIBE adds or removes a subscription (R114, R141–R143, Table 4-13). -/
def Obligations.StrandCommandsComplete : Prop :=
  Answers specStrandConfig .strandConfig
    (fun q s => wellFormed q 64 [(6, 2)] ∧ badStrandCfg q = none ∧ fld q 2 1 = 1 ∧
      archiveFault s q.fn (payloadStrand q).archiveKey = none ∧
      (wantsDigest (payloadStrand q) && overDigest s (payloadStrand q :: otherCfgs s (qStrand q))) = false ∧
      overSeals (payloadStrand q :: otherCfgs s (qStrand q)) = false ∧ strandBarred q s = false)
    (fun q s => configure s (qStrand q) (payloadStrand q)) (fun _ _ => []) ∧
  Answers specStrandConfig .strandConfig
    (fun q s => wellFormed q 64 [(6, 2)] ∧ badStrandCfg q = none ∧ fld q 2 1 = 2 ∧ (strandOf s (qStrand q)).state = .armed)
    (fun q s => unconfigure s (qStrand q)) (fun _ _ => []) ∧
  Reads specStrandList .strandList (fun q _ => wellFormed q 4 [] ∧ fld q 0 2 < 4096)
    (fun q s =>
      let l := listedStrands s (fld q 0 2) (fld q 2 2)
      le 2 (l.take 1000).length ++ le 2 (ofBool (1000 < l.length)) ++
        (l.take 1000).flatMap (fun i => le 2 i ++ le 1 (strandNo (strandOf s i).state) ++ le 1 (strandOf s i).cfg.ingress)) ∧
  Reads specStrandStatus .strandStatus (fun q _ => wellFormed q 4 [(2, 2)] ∧ qStrand q < 4096)
    (fun q s => strandStatusBytes s (qStrand q)) ∧
  Answers specStrandClose .strandClose
    (fun q s => wellFormed q 4 [(3, 1)] ∧ qStrand q < 4096 ∧ fld q 2 1 = 0 ∧ (strandOf s (qStrand q)).state = .opened)
    (fun q s =>
      let t := sendMsg s (qStrand q) 0x000A []
      setStrand t (qStrand q) { strandOf t (qStrand q) with closeEnd := some (t.now + 100000) })
    (fun _ _ => []) ∧
  Answers specStrandClose .strandClose
    (fun q s => wellFormed q 4 [(3, 1)] ∧ qStrand q < 4096 ∧ isOpen (strandOf s (qStrand q)) = true ∧
      (fld q 2 1 = 1 ∨ (fld q 2 1 = 0 ∧ (strandOf s (qStrand q)).state ≠ .opened)))
    (fun q s => closeNow s (qStrand q) 5) (fun _ _ => []) ∧
  Answers specStrandSubscribe .strandSubscribe
    (fun q s => wellFormed q 8 [(6, 2)] ∧ fld q 0 2 ≤ fld q 2 2 ∧ fld q 2 2 < 4096 ∧ fld q 4 1 ≤ 3 ∧ 1 ≤ fld q 5 1 ∧ fld q 5 1 ≤ 7 ∧
      (s.subs.filter (fun u => !sameRange q.fn (fld q 0 2) (fld q 2 2) u && u.client == q.fn)).length < 16)
    (fun q s => { s with subs := s.subs.filter (fun u => !sameRange q.fn (fld q 0 2) (fld q 2 2) u) ++
      [{ client := q.fn, first := fld q 0 2, last := fld q 2 2, ring := fld q 4 1, kinds := fld q 5 1 }] })
    (fun _ _ => []) ∧
  Answers specStrandSubscribe .strandSubscribe
    (fun q _ => wellFormed q 8 [(6, 2)] ∧ fld q 0 2 ≤ fld q 2 2 ∧ fld q 2 2 < 4096 ∧ fld q 4 1 ≤ 3 ∧ fld q 5 1 = 0)
    (fun q s => { s with subs := s.subs.filter (fun u => !sameRange q.fn (fld q 0 2) (fld q 2 2) u) })
    (fun _ _ => [])

/-- SCANNER_TRUST_IMPORT starts, for a certificate where it can be read (assumption 53: the model's reading), and its end adds or
removes a scanner CA or a denied scanner, within 64 and 4,096; SEAL_CONFIG and SEAL_KEY_SET store the seals' algorithm and keys, and seals that waited are made; SEAL_KEY_SET turns away a certificate that cannot
be read or is for another key (R104, R142). -/
def Obligations.SealCommandsComplete : Prop :=
  Starts specScannerTrustImport .scannerTrustImport
    (fun q _ => 2 ≤ fld q 0 1 ∧ fld q 0 1 ≤ 4 ∧ wellFormed q 36 [(1, 3)]) (fun _ s => s) ∧
  (∀ q s s₀, admitted specScannerTrustImport q s = some s₀ → fld q 0 1 = 1 → fld q 4 2 ≤ 4056 →
    wellFormed q (8 + fld q 4 2) [(1, 3), (6, 2)] →
    exec (.scannerTrustImport q) s = .next (finish s (if (readCert (q.payload.drop 8)).isSome
      then begins specScannerTrustImport q s₀ none [] else decline specScannerTrustImport q s₀ eFormat 40))) ∧
  (∀ f n o s, mayEnd s f n o 0x0506 →
    let op := rd o.payload 0 1
    let der := slice o.payload 8 (rd o.payload 4 2)
    let id := slice o.payload 4 32
    (op = 1 → s.scannerCas.any (fun c => c.1 == sha3 der) = false → s.scannerCas.length < 64 → EndsWith s f n
      (endOp (share { s with scannerCas := s.scannerCas ++ [(sha3 der, der)] } (.scanner true (sha3 der) true der)) f o sOk 0 [])) ∧
    (op = 2 → EndsWith s f n (endOp (share { s with scannerCas := s.scannerCas.filter (fun c => c.1 != id) }
      (.scanner true id false [])) f o sOk 0 [])) ∧
    (op = 3 → id ∉ s.scannerDenied → s.scannerDenied.length < 4096 → EndsWith s f n
      (endOp (share { s with scannerDenied := s.scannerDenied ++ [id] } (.scanner false id true [])) f o sOk 0 [])) ∧
    (op = 4 → EndsWith s f n (endOp (share { s with scannerDenied := s.scannerDenied.filter (· != id) }
      (.scanner false id false [])) f o sOk 0 []))) ∧
  Answers specSealConfig .sealConfig
    (fun q _ => wellFormed q 8 [(1, 1), (4, 4)] ∧ (fld q 0 1 = 1 ∨ fld q 0 1 = 2) ∧ fld q 2 2 ≤ 3600)
    (fun q s =>
      let k : SignKeys := { s.sealKeys with alg := fld q 0 1 }
      releaseAllWaiting (share { s with sealKeys := k, sealIdle := fld q 2 2 } (.sealKeys k (fld q 2 2))))
    (fun _ _ => []) ∧
  (∀ q s s₀, admitted specSealKeySet q s = some s₀ → wellFormed q (12 + fld q 8 2) [(10, 2)] →
    (fld q 4 4 == 0) = classicalSeals s₀ → wrongIndex false (fld q 0 4) = false → wrongIndex false (fld q 4 4) = false →
    signKeyFault s₀ (fld q 0 4) 0x10 0x0002 = none → (fld q 4 4 ≠ 0 → signKeyFault s₀ (fld q 4 4) 0x14 65 = none) →
    let cert := q.payload.drop 12
    let k : SignKeys := { s₀.sealKeys with ecdsa := fld q 0 4, mldsa := fld q 4 4, cert, named := true }
    exec (.sealKeySet q) s = .next (finish s (match readCert cert with
      | none => decline specSealKeySet q s₀ eFormat 44
      | some c =>
        if certFor s₀ (fld q 0 4) c
        then answer specSealKeySet q (releaseAllWaiting (share { s₀ with sealKeys := k } (.sealKeys k s₀.sealIdle))) []
        else decline specSealKeySet q s₀ eDenied 0)))

/-- PORT_CONFIG stores a configuration that R74, R78, R81 and Table 3-4 admit; PORT_STATUS and PORT_COUNTERS answer the port, the
counters being zero after CLEAR; reading a counter's low dword latches its high one (R80, R100, R101). -/
def Obligations.PortCommandsComplete : Prop :=
  (∀ q s s₀ p, admitted specPortConfig q s = some s₀ → wellFormed q 24 [(22, 2)] → slotOf (fld q 0 1) = some p →
    let c := payloadCfg q (portOf s₀ p).cfg.mac
    badPortCfg p c = none →
    exec (.portConfig q) s = .next (finish s (answer specPortConfig q
      (recheckHolds (settleFloor (takeLanes (storePort s₀ p c) p c) (portFloor p)) p) []))) ∧
  (∀ q s s₀ p, admitted specPortStatus q s = some s₀ → wellFormed q 4 [(1, 3)] → slotOf (fld q 0 1) = some p →
    exec (.portStatus q) s = .next (finish s (answer specPortStatus q s₀ (portStatusBytes s₀ p)))) ∧
  (∀ q s s₀ p, admitted specPortCounters q s = some s₀ → wellFormed q 4 [(2, 2)] → slotOf (fld q 0 1) = some p →
    fld q 1 1 ≤ 1 → (fld q 1 1 = 0 ∨ q.fn = 0) →
    exec (.portCounters q) s = .next (finish s (answer specPortCounters q
      (if fld q 1 1 == 1 then setPort s₀ p { portOf s₀ p with counters := [] } else s₀)
      ((List.range 24).flatMap (fun k => le 8 (counterOfPort s₀ p k)))))) ∧
  (∀ p k s, p < 128 → k < 24 →
    let w := portOf s p
    exec (.portCounterLatchRead p k) s =
      .next (finish s (setPort s p { w with latched := tblSet w.latched k (tblGet w.counters k 0 / 2 ^ 32) })))

/-! ### Trust, policies and sheaves (R230–R238, R261–R264) -/

/-- The two imports start with what their DMA brings, and end with the certificates of a signed master list that pass Table 8-9, or
with a CRL that a stored CSCA signed, and otherwise with the STATUS and reason of R232 and R233; TRUST_IMPORT_IS_KEY stores the chain of a custody key where its certificates
can be read, verify in order and end at that key, and ends with E_AUTH where they do not; TRUST_LIST answers up to 62 entries and
TRUST_REMOVE removes one (R231–R235, Table 8-4). -/
def Obligations.TrustCommandsComplete : Prop :=
  (∀ q file s s₀, admitted specTrustImportMasterlist q s = some s₀ → wellFormed q 16 [(12, 4)] →
    exec (.trustImportMasterlist q file) s = .next (finish s (begins specTrustImportMasterlist q s₀ file []))) ∧
  (∀ q file s s₀, admitted specTrustImportCrl q s = some s₀ → wellFormed q 16 [(12, 4)] →
    exec (.trustImportCrl q file) s = .next (finish s (begins specTrustImportCrl q s₀ file []))) ∧
  (∀ f n o b s, mayEnd s f n o 0x0602 → importFile o 4194304 = .ok b →
    EndsWith s f n (match Config.parseMasterList b with
      | none => endOp s f o eAuth 0 (importRecord 0 0 1)
      | some m =>
        let fresh := m.certs.eraseDups.filter (fun d => !storedCsca s d)
        let good := fresh.filter (fun d => (cscaFault s (parsedCerts m.certs) d).isNone)
        let bad := fresh.filterMap (cscaFault s (parsedCerts m.certs))
        if masterListSigned s m then match cscaLimit s good with
          | some limit => endOp s f o eLimit limit (importRecord 0 0 0)
          | none => endOp (addCscas s good) f o sOk 0 (importRecord good.length bad.length (bad.headD 0))
        else endOp s f o eAuth 0 (importRecord 0 0 3))) ∧
  (∀ f n o b s, mayEnd s f n o 0x0603 → importFile o 1048576 = .ok b →
    let fails := fun st d why => endOp s f o st d (importRecord 0 1 why)
    EndsWith s f n (match readCrl b with
      | none => fails eAuth 0 1
      | some c => match (cscas s).find? (fun e => e.2.2.1.subject == c.issuer && e.2.2.1.ski == c.aki) with
        | none => fails eAuth 0 4
        | some (id, _, i, _) =>
          if sigListed s c.sigAlg c.sigHash i = false then fails eAuth 0 2
          else if certVerifies c.sigAlg c.sigHash i.pub c.tbs c.sig = false then fails eAuth 0 3
          else if (crlOf s id).any (fun e => c.thisUpdate ≤ e.2.2.1) then fails eTooLate 0 8
          else match crlLimit s id b c with
            | some limit => endOp s f o eLimit limit (importRecord 0 0 0)
            | none => endOp (storeCrl s id b i.country c) f o sOk 0 (importRecord 1 0 0))) ∧
  (∀ q s s₀ k, admitted specTrustImportIsKey q s = some s₀ → 8 ≤ q.payload.length → 1 ≤ fld q 4 1 → fld q 4 1 ≤ 4 →
    let certs := (splitCerts q.payload (fld q 4 1) 8).1
    wellFormed q (splitCerts q.payload (fld q 4 1) 8).2 [(5, 3)] → wrongIndex false (fld q 0 4) = false →
    (∀ c ∈ certs, c.length ≤ 1024) → keyAt s₀ (fld q 0 4) = .ok k → k.session = false → k.cls = clsCustody →
    asymIndex (hIndex (fld q 0 4)) = true → k.damaged = false → chainCount s₀ < 256 →
    let cs := certs.filterMap Config.parseCvCert
    exec (.trustImportIsKey q) s = .next (finish s (match cs.head?, cs.getLast? with
      | some top, some last =>
        let w := (cvWindow last).getD (0, 0)
        if cs.length == fld q 4 1 && cs.all (fun c => (cvWindow c).isSome) && chainOk cs && publicOf s₀ k == some last.pub
        then answer specTrustImportIsKey q
          (addTrust ((sameChains s₀ top.car last.chr).foldl (fun s i => setTrust s i none) s₀)
            (.chain (fld q 0 4) top.car last.chr (top.car.take 2) w.1 w.2 certs)) (le 4 s₀.trustNo)
        else decline specTrustImportIsKey q s₀ eAuth 0
      | _, _ => decline specTrustImportIsKey q s₀ eAuth 0))) ∧
  Reads specTrustList .trustList (fun q _ => wellFormed q 8 [(1, 3)] ∧ 1 ≤ fld q 0 1 ∧ fld q 0 1 ≤ 3)
    (fun q s =>
      let l := s.trust.filter (fun e => trustKind e.2 == fld q 0 1 && fld q 4 4 ≤ e.1)
      le 2 (l.take 62).length ++ le 2 (ofBool (62 < l.length)) ++ (l.take 62).flatMap (fun e => trustBytes s e.1 e.2)) ∧
  Answers specTrustRemove .trustRemove (fun q _ => wellFormed q 4 []) (fun q s => removeTrust s (fld q 0 4)) (fun _ _ => [])

/-- VERDICT_KEY_SET stores the verdict keys, or turns away a certificate that cannot be read or is for another key; DSCACHE_FLUSH
empties the DS-certificate cache; VERIFY_POLICY_SET stores a policy that R238 admits (R235, R236, R238). -/
def Obligations.VerdictPolicyCommandsComplete : Prop :=
  (∀ q s s₀, admitted specVerdictKeySet q s = some s₀ → wellFormed q (16 + fld q 12 2) [(1, 3), (14, 2)] →
    (fld q 0 1 = 2 ∨ (fld q 0 1 = 1 ∧ fld q 8 4 = 0)) → wrongIndex false (fld q 4 4) = false →
    wrongIndex false (fld q 8 4) = false → signKeyFault s₀ (fld q 4 4) 0x10 0x0002 = none →
    (fld q 0 1 = 2 → signKeyFault s₀ (fld q 8 4) 0x14 65 = none) →
    let cert := q.payload.drop 16
    let k : SignKeys := { alg := fld q 0 1, ecdsa := fld q 4 4, mldsa := fld q 8 4, cert, named := true }
    exec (.verdictKeySet q) s = .next (finish s (match readCert cert with
      | none => decline specVerdictKeySet q s₀ eFormat 48
      | some c =>
        if certFor s₀ (fld q 4 4) c
        then answer specVerdictKeySet q (share { s₀ with verdictKeys := k } (.verdictKeys k)) []
        else decline specVerdictKeySet q s₀ eDenied 0))) ∧
  Answers specDscacheFlush .dscacheFlush (fun q _ => wellFormed q 0 []) (fun _ s => { s with dsCache := [] }) (fun _ _ => []) ∧
  Answers specVerifyPolicySet .verifyPolicySet
    (fun q _ => wellFormed q 32 [(22, 10)] ∧ badPolicy (fld q 0 2) (payloadPolicy q) = none)
    (fun q s => share { s with policies := tblSet s.policies (fld q 0 2) (payloadPolicy q) } (.policy (fld q 0 2) (payloadPolicy q)))
    (fun _ _ => [])

/-- The sheaf commands: SHEAF_LOAD starts with what its DMA brings, and its end commits a file that passes R262 or says what
is wrong with it; SHEAF_LIST answers up to 32 sheaves; SHEAF_REMOVE removes one; SHEAF_BIND binds a table on a run of strands or ends its bindings; SHEAF_SIGNER_SET sets or removes a signer (R261, R262, R264). -/
def Obligations.SheafCommandsComplete : Prop :=
  (∀ q file s s₀, admitted specSheafLoad q s = some s₀ → wellFormed q 16 [(12, 4)] →
    exec (.sheafLoad q file) s = .next (finish s (begins specSheafLoad q s₀ file []))) ∧
  (∀ f n o b s, mayEnd s f n o 0x0701 → loadLimits s (rd o.payload 8 4) = none → o.file = some b →
    let b := fit (rd o.payload 8 4) b
    EndsWith s f n (match checkSheaf s b (rd o.payload 8 4) with
      | .error e => loadFails s f o e (faultWorst b (rd o.payload 8 4) e)
      | .ok (head, t, curves) =>
        let r := commitSheaf s b head t curves
        endOp r.2 f o sOk 0 (loadRecord r.1 0 0xFFFF t.worst 0))) ∧
  Reads specSheafList .sheafList (fun q _ => wellFormed q 4 [(1, 3)])
    (fun q s =>
      let l := s.sheaves.filter (fun e => fld q 0 1 ≤ e.1 && !e.2.unreadable)
      le 2 (l.take 32).length ++ le 2 (ofBool (32 < l.length)) ++ (l.take 32).flatMap (fun e => sheafEntry s e.1 e.2)) ∧
  Answers specSheafRemove .sheafRemove (fun q s => wellFormed q 4 [(1, 3)] ∧ tblHas s.sheaves (fld q 0 1) = true)
    (fun q s => removeSheaf s (fld q 0 1)) (fun _ _ => []) ∧
  (∀ q s s₀, admitted specSheafBind q s = some s₀ → wellFormed q 12 [(9, 3)] → fld q 0 2 ≤ fld q 2 2 → fld q 2 2 < 4096 →
    (msgRange s₀ (fld q 4 1) (fld q 5 1)).isSome → fld q 7 1 < 64 → fld q 8 1 < 4 →
    let strands := (List.range (fld q 2 2 + 1 - fld q 0 2)).map (· + fld q 0 2)
    let b : Binding := { sheaf := fld q 4 1, table := fld q 5 1, client := fld q 7 1, ring := fld q 8 1 }
    (fld q 6 1 = 1 → (sheafOf s₀ (fld q 4 1)).isSome = true → strands.any (bindRefused s₀ b) = false →
      exec (.sheafBind q) s = .next (finish s (answer specSheafBind q
        (strands.foldl (fun s i => setBindings s i (bindingsOf s i ++ [b])) s₀) []))) ∧
    (fld q 6 1 = 2 → tblHas s₀.sheaves (fld q 4 1) = true →
      exec (.sheafBind q) s = .next (finish s (answer specSheafBind q
        (strands.foldl (fun s i => unbindOn s i (fun c => c.sheaf == b.sheaf && c.table == b.table)) s₀) [])))) ∧
  (∀ q s s₀, admitted specSheafSignerSet q s = some s₀ → wellFormed q 12 [(2, 2)] → fld q 0 1 ≤ 3 →
    wrongIndex false (fld q 4 4) = false → wrongIndex false (fld q 8 4) = false →
    (fld q 1 1 = 1 → signerKeyFault s₀ (fld q 4 4) 0x11 0x0002 = none →
      (fld q 8 4 ≠ 0 → signerKeyFault s₀ (fld q 8 4) 0x15 65 = none) →
      exec (.sheafSignerSet q) s = .next (finish s (answer specSheafSignerSet q
        { s₀ with signers := tblSet s₀.signers (fld q 0 1) { ecdsa := fld q 4 4, mldsa := fld q 8 4 } } []))) ∧
    (fld q 1 1 = 2 →
      exec (.sheafSignerSet q) s = .next (finish s (answer specSheafSignerSet q
        { s₀ with signers := tblDel s₀.signers (fld q 0 1) } []))))

/-! ### Tally cards and quorum (R326–R336) -/

/-- CARD_STATUS and CUSTODY_JOURNAL_READ answer; OFFICER_ENROL binds a card that answers 9000 and records its officer ACTIVE;
OFFICER_REMOVE and QUORUM_SET change the records and drop every approval (R326, R327, R330, R334, R336). -/
def Obligations.OfficerCommandsComplete : Prop :=
  Reads specCardStatus .cardStatus (fun q _ => wellFormed q 4 [(1, 3)] ∧ fld q 0 1 ≤ 3) (fun q s => cardStatusBytes s (fld q 0 1)) ∧
  Reads specCustodyJournalRead .custodyJournalRead (fun q _ => wellFormed q 4 [])
    (fun q s =>
      let es := s.journal.filter (fun e => fld q 0 4 ≤ e.jno)
      le 2 (es.take 60).length ++ le 2 (ofBool (60 < es.length)) ++ zeros 4 ++ (es.take 60).flatMap journalBytes) ∧
  (∀ q s s₀ c n, admitted specOfficerEnrol q s = some s₀ → wellFormed q 16 [(3, 1)] → fld q 0 1 ≤ 3 →
    (fld q 1 1 ≤ 15 ∨ fld q 1 1 = 0xFF) → badPin (fld q 2 1) (slice q.payload 4 12) = false →
    readyCard s₀ (fld q 0 1) = some c → enrolNumber s₀ (fld q 1 1) = some n → tblHas s₀.officers n = false →
    enrolDenied s₀ c = false →
    let apdu := le 4 c.commit ++ le 8 s₀.ident.serial ++ le 1 n ++ le 1 (fld q 2 1) ++ fit 12 (slice q.payload 4 12)
    let b := beginJournal s₀ 1 (fld q 0 1) n c apdu
    let w := sendWrite b.2 (fld q 0 1) b.1 {}
    w.1.state = jDone → w.1.sw = swOk →
    exec (.officerEnrol q []) s = .next (finish s (answer specOfficerEnrol q
      (setOfficer w.2 n (some { cardId := c.cardId, pub := c.pub, state := .active })) (le 1 n ++ zeros 3 ++ le 4 w.1.jno)))) ∧
  Answers specOfficerRemove .officerRemove
    (fun q s => wellFormed q 4 [(1, 3)] ∧ fld q 0 1 ≤ 15 ∧ (tblFind s.officers (fld q 0 1)).isSome ∧
      s.quorumM ≤ usableOfficers (setOfficer s (fld q 0 1) none))
    (fun q s => dropApprovals (setOfficer s (fld q 0 1) none)) (fun _ _ => []) ∧
  Answers specQuorumSet .quorumSet
    (fun q s => wellFormed q 4 [(1, 3)] ∧ 1 ≤ fld q 0 1 ∧ fld q 0 1 ≤ 8 ∧ fld q 0 1 ≤ usableOfficers s)
    (fun q s => share (dropApprovals { s with quorumM := fld q 0 1 }) (.quorum (fld q 0 1))) (fun _ _ => [])

/-- QUORUM_BEGIN makes an approval with a fresh challenge; QUORUM_APPROVE adds an officer whose card takes the PIN and whose
signature verifies, APPROVED at m, and ends with E_AUTH where it does not, or with E_TOO_LATE where the approval expires while the
card answers (the time of that exchange is a free value, notes/assumptions/26.md); QUORUM_CANCEL removes one; CARD_FORCE_ERASE
starts on a ready card with the identifier named, and its end locks the card, has it erased and removes its officer (R328, R329,
R332, R334). -/
def Obligations.QuorumCommandsComplete : Prop :=
  (∀ q s s₀, admitted specQuorumBegin q s = some s₀ → wellFormed q 40 [(3, 1), (6, 2)] →
    fld q 0 2 ∈ guardedCodes → fld q 2 1 ≤ 63 → (fld q 4 2 = 0 ∨ (10 ≤ fld q 4 2 ∧ fld q 4 2 ≤ 3600)) →
    (frozen s₀ = true → fld q 0 2 ∈ freezeCodes) → liveApprovals s₀ < 4 →
    let a : Approval := { no := s₀.approvalNo, code := fld q 0 2, client := fld q 2 1, digest := slice q.payload 8 32
                          expires := s₀.now + (if fld q 4 2 == 0 then 600 else fld q 4 2) * 1000000
                          challenge := randomBytes s₀ 32 }
    exec (.quorumBegin q) s = .next (finish s (answer specQuorumBegin q
      (draw { s₀ with approvals := s₀.approvals ++ [a], approvalNo := s₀.approvalNo + 1 })
      (le 4 a.no ++ le 1 s₀.quorumM ++ zeros 3 ++ le 8 a.expires ++ a.challenge)))) ∧
  (∀ q s s₀ a c n o, admitted specQuorumApprove q s = some s₀ → wellFormed q 20 [(6, 2)] → fld q 4 1 ≤ 3 → fld q 5 1 ≤ 12 →
    allZero ((slice q.payload 8 12).drop (fld q 5 1)) = true → s₀.approvals.find? (fun a => a.no == fld q 0 4) = some a →
    s₀.now < a.expires → a.approved = false → readyCard s₀ (fld q 4 1) = some c → officerByCard s₀ c.cardId = some (n, o) →
    o.pub = c.pub → o.state = .active → n ∉ a.signers → hasEntry s₀ c.cardId jConflict = false → c.pinTries ≠ 0 →
    cardVerify c ((slice q.payload 8 12).take (fld q 5 1)) = (swOk, c) →
    let slot := fld q 4 1
    let w := setCard (transmit s₀ slot [] (some (verifyApdu ((slice q.payload 8 12).take (fld q 5 1))))) slot c
    let t := setCardSlot w slot { cardSlotOf w slot with verified := true }
    let v := setCard (transmit t slot [] (some (signApdu (sha384 (approvalMessage t a))))) slot c
    let u := draw (advanceTo v (exchangeEnd v))
    let a' := { a with signers := a.signers ++ [n], approved := decide (s₀.quorumM ≤ a.signers.length + 1) }
    exec (.quorumApprove q []) s = .next (finish s (
      if a.expires ≤ u.now then decline specQuorumApprove q u eTooLate 0
      else if verifyP384 o.pub (approvalMessage t a) (cardSign v c (approvalMessage t a))
      then answer specQuorumApprove q { u with approvals := u.approvals.map (fun b => if b.no == a.no then a' else b) }
        (le 1 (a.signers.length + 1) ++ le 1 u.quorumM ++ le 1 (if a'.approved then 2 else 1) ++ le 1 n)
      else decline specQuorumApprove q u eAuth 0))) ∧
  (∀ q s s₀ a, admitted specQuorumCancel q s = some s₀ → wellFormed q 4 [] →
    s₀.approvals.find? (fun a => a.no == fld q 0 4) = some a →
    exec (.quorumCancel q) s = .next (finish s (answer specQuorumCancel q (consumeApproval s₀ a) []))) ∧
  (∀ q link s s₀ c, admitted specCardForceErase q s = some s₀ → wellFormed q 20 [(1, 3)] → fld q 0 1 ≤ 3 →
    readyCard s₀ (fld q 0 1) = some c → c.cardId = slice q.payload 4 16 →
    exec (.cardForceErase q link) s = .next (finish s (begins specCardForceErase q s₀ none link))) ∧
  (∀ f n o s c, mayEnd s f n o 0x0808 →
    let slot := rd o.payload 0 1
    readyCard s slot = some c → c.cardId = slice o.payload 4 16 →
    (∀ k t, (c.state = 2 ∧ k = 0 ∧ t = s) ∨ (c.state ≠ 2 ∧ lockOut slot c.cardId o.link 17 0 s = (some 0x6983, k, t)) →
      let off := ((officerByCard t c.cardId).map (·.1)).getD 0xFF
      let b := beginJournal t 2 slot off c (le 4 c.commit)
      let w := sendWrite b.2 slot b.1 (linkAt o.link k)
      w.1.state = jDone → w.1.sw = swOk →
      EndsWith s f n (endOp (completeWrite w.2 w.1) f o sOk 0 (eraseRecord w.1.jno off k))) ∧
    (c.state = 1 → 1 ≤ c.pinTries → c.pinTries ≤ 15 → o.link = [] →
      ∃ t, lockOut slot c.cardId o.link 17 0 s = (some 0x6983, c.pinTries + 1, t)))

/-! ### The pair and field outputs (R412, R413, R416–R420) -/

/-- PAIR_BEGIN starts, and its end makes the pairing identity and returns its public halves; PAIR_COMPLETE starts the key agreement,
the joiner sending its message at once, and ends on the joiner as the source's answer is taken and on the source as its claim is
confirmed: the pair is recorded under the key of R417; PAIR_STATUS answers;
PAIR_SWITCHOVER of a healthy Active unit releases what is knotted and waits: for those frames to leave, then for its last epoch to be
acknowledged; PAIR_DISSOLVE makes an Active unit
Solo with its state, and any other leave the pair (R416–R420). FIELD_OUTPUT_SET drives the masked bits; a healthy Active unit's
response waits for the shadow of the Standby, any other answers at once. FIELD_OUTPUT_READ answers the outputs driven, sensed and
the peer's (R412, R413, Table 14-9). -/
def Obligations.PairAndFieldCommandsComplete : Prop :=
  (Starts specPairBegin .pairBegin (fun q _ => wellFormed q 16 [(9, 7)] ∧ fld q 8 1 ≤ 1) (fun _ s => s) ∧
   (∀ f n o s, mayEnd s f n o 0x0901 →
     let join := rd o.payload 8 1
     anyLink s = true → helloFault s (rd o.payload 0 8) = none →
     let ec := fit 48 (Config.keyGen 0x10 2 s.rng)
     let ml := if s.ident.optionN then [] else fit 32 (Config.keyGen 0x14 65 s.rng)
     let mlPub := if s.ident.optionN then [] else fit 1952 (Config.publicHalf 0x14 65 ml)
     let i : PairIdentity := { peer := rd o.payload 0 8, join := join == 1, begun := s.now, ecdsa := ec, mldsa := ml }
     EndsWith s f n (endOp (setPair (draw s) { s.pair with identity := some i, early := none }) f o sOk 0
       (le 8 s.ident.serial ++ le 1 s.pair.seat ++ le 1 join ++ le 2 mlPub.length ++ zeros 4 ++
         fit 97 (Config.publicHalf 0x10 2 ec) ++ zeros 3 ++ mlPub))) ∧
   (∀ q s s₀ i, admitted specPairComplete q s = some s₀ → 116 ≤ q.payload.length → fld q 8 2 = mldsaPubLen s₀ →
     wellFormed q (116 + mldsaPubLen s₀) [(10, 6), (113, 3)] → s₀.pair.identity = some i → i.peer = fld q 0 8 →
     anyLink s₀ = true → helloFault s₀ i.peer = none →
     let k : KeyEx := { fn := q.fn, op := (fnOf s₀ q.fn).opNo + 1, peer := i.peer, peerEcdsa := slice q.payload 16 97
                        peerMldsa := slice q.payload 116 (mldsaPubLen s₀), started := s₀.now }
     exec (.pairComplete q) s = .next (finish s (takeEarly (begins specPairComplete q
       (if i.join then sendJoiner s₀ i k else setPair s₀ { s₀.pair with keyex := some k }) none [])))) ∧
   (∀ p who body k i s, powered s = true → (pathOf s p).link = true → s.pair.keyex = some k → s.pair.identity = some i →
     i.join = true → k.agreed = false → peerDiffers s who = none →
     let kem := if s.ident.optionN then 0 else 1088
     let sigs := if s.ident.optionN then 96 else 3405
     let msg := body.take (129 + kem)
     body.length = 129 + kem + sigs →
     let zkem := if s.ident.optionN then [] else fit 32 (Config.decaps (le 2 768) k.kem (fit 1088 (msg.drop 129)))
     exec (.hawserKeyex p { peer := who, body }) s = .next (finish s (
       if keyexSignedOk s k msg k.mine (body.drop (129 + kem)) then
         match Config.agree 0x0405 (le 2 2) k.ephemeral (slice msg 32 97) with
         | some z => keyexEnds (goResync (recordPair s k.peer (makePairKey s z zkem k.mine msg k.peer)) 1) k
         | none => keyexFails s k 6
       else keyexFails s k 6))) ∧
   (∀ f k s, powered s = true → s.pair.claim = .window f → claimStands s = true → s.pair.hitchIn = false →
     let t := takeOver (advanceTo s (f + 20))
     t.pair.keyex = some k → k.agreed = true →
     exec .hitchClaimConfirmed s = .next (finish s (keyexEnds t k))) ∧
   Reads specPairStatus .pairStatus (fun q _ => wellFormed q 0 [])
     (fun _ s => le 1 (roleNo s.pair.role) ++
       le 1 (pairFlags s + pack [(ofBool s.pair.hitchOut, 4, 1), (ofBool s.pair.hitchIn, 5, 1)]) ++
       le 1 s.pair.seat ++ le 1 (copyNo s.pair.copy) ++ le 1 s.pair.peerRole ++ le 1 (pathsUp s) ++ zeros 2 ++
       le 8 s.pair.peerSerial ++ le 8 s.pair.epoch ++ le 8 (ackedField s) ++ le 4 s.pair.takeovers ++ le 4 s.pair.gap ++
       fit 8 s.pair.pairKid ++ le 2 s.pair.driven ++ zeros 2 ++ leInt 8 s.pair.tickOffset ++ zeros 4) ∧
   Waits specPairSwitchover .pairSwitchover
     (fun q s => wellFormed q 8 [] ∧ fld q 0 8 = s.pair.peerSerial ∧ healthy s = true)
     (fun _ s => releaseKnotted s) (fun _ _ => .switchover none) ∧
   Answers specPairDissolve .pairDissolve
     (fun q s => wellFormed q 8 [] ∧ fld q 0 8 = s.pair.peerSerial ∧ s.pair.role = .active)
     (fun _ s => dissolveActive s) (fun _ _ => []) ∧
   Answers specPairDissolve .pairDissolve
     (fun q s => wellFormed q 8 [] ∧ fld q 0 8 = s.pair.peerSerial ∧ s.pair.role ≠ .active) (fun _ s => depart s) (fun _ _ => [])) ∧
  ((∀ q s s₀, admitted specFieldOutputSet q s = some s₀ → wellFormed q 4 [] →
     let v := (s₀.pair.driven &&& (0xFFFF ^^^ fld q 0 2)) ||| (fld q 2 2 &&& fld q 0 2)
     let seq := nextSeq s₀.pair.fieldSeq
     let t := share (applyField s₀ v seq) (.fieldOut v)
     exec (.fieldOutputSet q) s = .next (finish s (if t.pair.role == .active && !t.pair.degraded && t.pair.peerReachable
       then waitsFor specFieldOutputSet q (sendBoth t hwShadow (le 2 v ++ le 2 seq ++ zeros 4)) (.shadow seq t.now)
       else answer specFieldOutputSet q t (fieldReply t 0)))) ∧
   Reads specFieldOutputRead .fieldOutputRead (fun q _ => wellFormed q 0 [])
     (fun _ s => le 2 s.pair.driven ++ le 2 (fieldSensed s) ++ le 2 s.pair.peerField ++ zeros 2))

/-! ### Bales (R429–R449) -/

/-- The bale commands: BALE_BEGIN opens a download or finds the same one; BALE_CHUNK stores a chunk; BALE_CHUNK_MAP and BALE_STATUS
answer; BALE_VERIFY starts, and its end keeps what a bale without a fault says, in recovery mode with its bank committed; BALE_ACTIVATE
starts its drain, whose end commits the bank that passes the second check and begins the pause, and the pause ends in Trial with
120 s to confirm; BALE_ABANDON drops what is staged, and in Trial reverts with a cold reset; UPDATE_LOCK_SET sets the lock (R430–R436, R449). -/
def Obligations.BaleCommandsComplete : Prop :=
  Answers specBaleBegin .baleBegin
    (fun q s => wellFormed q 40 [(4, 4)] ∧ firstRefusal s 6 = none ∧ 1 ≤ fld q 0 4 ∧ fld q 0 4 ≤ 8388608 ∧ s.update.phase = .idle)
    (fun q s => setUpdate s { s.update with
      phase := .staging, baleLen := fld q 0 4, baleId := slice q.payload 8 32, chunks := [], verified := false, fallback := false
      staged := {} })
    (fun q _ => le 2 (ceilDiv (fld q 0 4) 65536) ++ le 2 0 ++ le 1 0 ++ zeros 3) ∧
  Reads specBaleBegin .baleBegin
    (fun q s => wellFormed q 40 [(4, 4)] ∧ firstRefusal s 6 = none ∧ 1 ≤ fld q 0 4 ∧ fld q 0 4 ≤ 8388608 ∧
      (s.update.phase = .staging ∨ s.update.phase = .staged) ∧ s.update.baleLen = fld q 0 4 ∧ s.update.baleId = slice q.payload 8 32)
    (fun _ s => le 2 (chunkCount s) ++ le 2 (chunksReceived s) ++ le 1 1 ++ zeros 3) ∧
  (∀ q b s s₀, admitted specBaleChunk q s = some s₀ → wellFormed q 16 [(10, 2)] → fld q 8 2 < chunkCount s₀ →
    fld q 12 4 = chunkLen s₀ (fld q 8 2) →
    let t := setUpdate s₀ { s₀.update with
      chunks := tblSet s₀.update.chunks (fld q 8 2) (fit (chunkLen s₀ (fld q 8 2)) b) }
    exec (.baleChunk q (some b)) s =
      .next (finish s (answer specBaleChunk q t (le 2 (chunksReceived t) ++ le 2 (chunkCount t))))) ∧
  Reads specBaleChunkMap .baleChunkMap (fun q _ => wellFormed q 0 [])
    (fun _ s => le 1 (phaseNo s.update.phase) ++ zeros 1 ++ le 2 (chunkCount s) ++ le 2 (chunksReceived s) ++ zeros 2 ++
      le 4 s.update.baleLen ++ fit 32 s.update.baleId ++ le 16 (maskOf (tblKeys s.update.chunks) 128)) ∧
  Starts specBaleVerify .baleVerify (fun q s => wellFormed q 0 [] ∧ firstRefusal s 6 = none) (fun _ s => s) ∧
  (∀ f n o s, mayEnd s f n o 0x0A04 → verifyModes { fn := f } s = none → firstRefusal s 6 = none →
    let x := baleInfo (Sys2Proof.Machine.staged s)
    let t := endOp (setUpdate s { s.update with phase := .staged, verified := true, staged := x }) f o sOk 0
      (le 4 x.svn ++ le 1 (maskOf (changedParts s x) 7) ++ zeros 1 ++ le 2 (pauseMs s x) ++ fit 8 (partsIdOf x.versions))
    EndsWith s f n (match baleFault s with
      | some r => endOp s f o eUpdateRefused r []
      | none => if t.update.recovery then coldReset (commitBank t) else t)) ∧
  Starts specBaleActivate .baleActivate
    (fun q s => wellFormed q 40 [(32, 8)] ∧ slice q.payload 0 32 = s.update.staged.baleId ∧ firstRefusal s 8 = none)
    (fun q s => setUpdate s { s.update with activation := .draining q.fn ((fnOf s q.fn).opNo + 1) s.now }) ∧
  (∀ f op since s, powered s = true → s.update.activation = .draining f op since → drained s f op = true →
    let t := commitBank s
    let u := shutMailboxes (setUpdate t { t.update with activation := .pause f op t.now, changed := changedParts s s.update.staged })
    let u := if u.pair.role = .standby then goResync u 15 else u
    exec .activationDrainEnd s = .next (finish s (match secondCheck s with
      | some r => endActivate (setUpdate s { s.update with activation := .none }) f op eUpdateRefused r []
      | none => if 3 ∈ changedParts s s.update.staged then serdesDown u else u))) ∧
  (∀ f op since o s, stewardWorks s = true → millHolds s = false → s.update.activation = .pause f op since → s.update.attempt ≠ 0 →
    let t := setUpdate s { s.update with
      activation := .none, phase := .trial, deadline := s.now + 120000000, changed := [], testsPassed := [], attemptStart := s.now }
    let u := shiftTimers (openMailboxes t) (s.now - since)
    opOf u f op = some o →
    let v := endOp u f o sOk 0 (le 4 (s.now - since) ++ le 1 s.update.attempt ++ zeros 3 ++ le 8 (s.now + 120000000))
    let v := if 1 ∈ s.update.changed then endChips v 10 else v
    exec (.activationPauseEnd true true) s =
      .next (finish s (startJobs (if v.pair.role = .resync then notice v 3 else v)))) ∧
  Reads specBaleStatus .baleStatus (fun q _ => wellFormed q 0 [])
    (fun _ s => le 1 (phaseNo s.update.phase) ++ le 1 s.update.result ++ le 1 s.update.reason ++ le 1 s.update.attempt ++
      le 2 (chunkCount s) ++ le 2 (chunksReceived s) ++ le 4 (trialLeftMs s) ++ le 4 s.update.svnFloor ++
      le 4 (if s.update.verified then s.update.staged.svn else 0) ++ zeros 4 ++ fit 32 s.update.baleId) ∧
  Answers specBaleAbandon .baleAbandon
    (fun q s => wellFormed q 0 [] ∧ (s.update.phase = .staging ∨ s.update.phase = .staged))
    (fun _ s => updateEnds s 3 0) (fun _ _ => []) ∧
  (∀ q s s₀, admitted specBaleAbandon q s = some s₀ → wellFormed q 0 [] → s.update.phase = .trial →
    exec (.baleAbandon q) s = .next (finish s (coldReset (answer specBaleAbandon q (revertBank s₀ 6) [])))) ∧
  Answers specUpdateLockSet .updateLockSet (fun q _ => wellFormed q 4 [(1, 3)] ∧ fld q 0 1 ≤ 1)
    (fun q s => setUpdate s { s.update with lock := fld q 0 1 == 1 }) (fun _ _ => [])

/-! ### Power, modes and alarms (R341–R365, R459–R467) -/

/-- POWER_STATE_SET: Active and Drowse at once; Vigil after the response, or, of a healthy Active unit, after its switchover.
POWER_STATUS, TELEMETRY_READ and MODE_READ answer; COMPAT_SET sets the compatibility mode (R461, R462, R466, R467, Table 16-7). -/
def Obligations.PowerCommandsComplete : Prop :=
  Answers specPowerStateSet .powerStateSet (fun q _ => wellFormed q 4 [(1, 3)] ∧ fld q 0 1 = 0)
    (fun _ s => leaveDrowse s) (fun _ _ => []) ∧
  Answers specPowerStateSet .powerStateSet (fun q _ => wellFormed q 4 [(1, 3)] ∧ fld q 0 1 = 1)
    (fun _ s => enterDrowse s) (fun _ _ => []) ∧
  (∀ q s s₀, admitted specPowerStateSet q s = some s₀ → wellFormed q 4 [(1, 3)] → fld q 0 1 = 2 →
    (s₀.pair.role = .active → healthy s₀ = false ∧ (s₀.pair.peerReachable && s₀.pair.peerRole == 2) = false) →
    let t := answer specPowerStateSet q (setPower s₀ { s₀.power with state := .vigil }) []
    exec (.powerStateSet q) s = .next (finish s (shutdown (setPower t { t.power with state := s.power.state })))) ∧
  Waits specPowerStateSet .powerStateSet
    (fun q s => wellFormed q 4 [(1, 3)] ∧ fld q 0 1 = 2 ∧ s.pair.role = .active ∧ healthy s = true)
    (fun _ s => releaseKnotted s) (fun _ _ => .switchover none) ∧
  Reads specPowerStatus .powerStatus (fun q _ => wellFormed q 0 [])
    (fun _ s => le 4 (pwrState s) ++ le 4 (pwrPhases s) ++ le 4 (pwrClocks s) ++ le 4 (pwrInputMw s)) ∧
  Reads specTelemetryRead .telemetryRead (fun q _ => wellFormed q 0 []) (fun _ s => telemetryBytes s) ∧
  Answers specCompatSet .compatSet (fun q _ => wellFormed q 4 [(1, 3)] ∧ fld q 0 1 ≤ 2)
    (fun q s => share (setScarecrow s { s.scarecrow with compat := fld q 0 1 }) (.compat (fld q 0 1))) (fun _ _ => []) ∧
  Reads specModeRead .modeRead (fun q _ => wellFormed q 0 [])
    (fun _ s => le 4 (deviceStatus s) ++ le 4 (alarmSummary s) ++ le 4 (pwrState s) ++ le 4 (pairState s) ++
      le 4 (updateStatus s) ++ zeros 4 ++ le 8 s.life.debugExpires)

/-- The alarm commands: ALARM_STATUS and VIGIL_LOG_READ answer; MONITOR_CONFIG sets a level not below the monitor's floor and a
threshold in range; SELF_TEST starts, taking the Hatch for the engines, and its end tells which monitors passed, failed and were left
out (whether one passes is a free value, notes/assumptions/41.md); THAW clears the latch and returns the strands where no cause of
level 3 or above is present, unless its two evaluations disagree (a free value, notes/assumptions/40.md), which Series-7 has not (R181, R341, R342, R354–R356, R358, R365). -/
def Obligations.AlarmCommandsComplete : Prop :=
  Reads specAlarmStatus .alarmStatus (fun q _ => wellFormed q 0 [])
    (fun _ s => le 4 (alarmSummary s) ++ le 4 (alarmActive s) ++ le 4 s.scarecrow.seen ++ le 4 s.scarecrow.latchSrc ++
      le 4 s.scarecrow.count ++ le 4 (loftStatus s) ++ le 4 (sense s) ++ le 4 (series7State s) ++
      (List.range 32).flatMap (fun m => le 4 (monitorWord s m))) ∧
  Answers specMonitorConfig .monitorConfig
    (fun q s => wellFormed q 12 [(2, 2), (8, 4)] ∧ fld q 0 1 < 32 ∧ fld q 1 1 ≤ 5 ∧ thresholdOk s (fld q 0 1) (fld q 4 4) = true ∧
      monitorFloor (fld q 0 1) ≤ fld q 1 1)
    (fun q s =>
      let w := monitorOf s (fld q 0 1)
      let t := if fld q 4 4 == 0x80000000 then w.threshold else toSigned 4 (fld q 4 4)
      share (setMonitor s (fld q 0 1) { w with level := fld q 1 1, threshold := t }) (.monitor (fld q 0 1) (fld q 1 1) t))
    (fun _ _ => []) ∧
  Starts specSelfTest .selfTest (fun q _ => wellFormed q 8 [] ∧ fld q 4 4 ≤ 1)
    (fun q s =>
      let t := setScarecrow s { s.scarecrow with testing := true }
      if fld q 4 4 == 1 then holdInternal t else t) ∧
  (∀ f n o s, mayEnd s f n o 0x0C03 → s.hatch.wanted = false →
    let asked := (testMask (rd o.payload 0 4) (rd o.payload 4 4)).1
    let tested := (testMask (rd o.payload 0 4) (rd o.payload 4 4)).2
    let failed := fun m => bit (Config.free 0x0C03 s.rng) m
    let t := tested.foldl (testOne failed) (draw s)
    let mask := fun (l : List Nat) => le 4 (maskOf l 32)
    EndsWith s f n (endOp (freeInternal (setScarecrow t { t.scarecrow with testing := false })) f o sOk 0
      (mask (tested.filter (fun m => !failed m)) ++ mask (tested.filter failed) ++
        mask (asked.filter (fun m => !tested.contains m)) ++ zeros 4))) ∧
  (∀ q s s₀, admitted specThaw q s = some s₀ → wellFormed q 0 [] → s₀.scarecrow.latched ≠ 5 → thawBlocker s₀ = none →
    exec (.thaw q) s = .next (finish s (if s₀.scarecrow.compat != 1 && Config.thawDisagrees s₀.rng
      then decline specThaw q (draw (report s₀ 0x1F 1)) eState (Config.free 0x0C04 s₀.rng % 32)
      else answer specThaw q (thawAll s₀) []))) ∧
  Reads specVigilLogRead .vigilLogRead (fun q _ => wellFormed q 4 [(1, 3)])
    (fun q s =>
      let es := (s.scarecrow.vigil.drop (fld q 0 1)).take 126
      le 2 es.length ++ le 2 (sat 0xFFFF s.scarecrow.vigilLost) ++ zeros 4 ++ es.flatMap vigilBytes)

/-! ### Life-cycle and debug (R371–R381) -/

/-- LIFECYCLE_STATUS answers; LIFECYCLE_ADVANCE and DECOMMISSION start, with the Ledger entry of R372, for this unit's serial and a
target that R371 allows, and their end burns the rows, posts OP_DONE with the rows as they read back, and asks for a cold reset in
100 ms (whether a row takes every bit is a free value, notes/assumptions/37.md); OWNER_CLAIM starts, and its end, where its keys and signature verify, records owner and
credential and ends the Purged condition (R371–R378, Tables 13-3 to 13-5). DEBUG_CHALLENGE keeps a new challenge for 600 s and
answers it; DEBUG_UNLOCK sets the level of a token for the standing challenge whose signatures verify, and otherwise consumes the
challenge and raises the DEBUG monitor; DEBUG_CLOSE closes (R380, R381). -/
def Obligations.LifecycleAndDebugCommandsComplete : Prop :=
  (Reads specLifecycleStatus .lifecycleStatus (fun q _ => wellFormed q 0 [])
     (fun _ s => le 1 s.life.lifecycle ++
       le 1 (pack [(ofBool s.life.claimed, 0, 1), (ofBool s.life.purged, 1, 1), (ofBool s.ident.optionN, 2, 1)]) ++
       le 1 s.life.debug ++ zeros 1 ++ (s.life.rows.map byte) ++ zeros 1 ++ le 4 s.life.claimNo ++ zeros 4 ++
       le 8 s.life.debugExpires ++ (if s.life.claimed then fit 8 s.life.ownerDigest else zeros 8) ++ fit 8 s.life.vendorDigest ++
       le 8 s.ident.serial) ∧
   (∀ q s s₀ t, admitted specLifecycleAdvance q s = some s₀ → wellFormed q 16 [(1, 7)] → fld q 8 8 = s₀.ident.serial →
     lifeReady s₀ = true → lifeTarget 0x0D02 q.payload s₀ = some t →
     exec (.lifecycleAdvance q) s = .next (finish s (begins specLifecycleAdvance q
       (logCommand s₀ 0x0D02 q.fn q.tag sOk t q.payload) none []))) ∧
   (∀ q s s₀ t, admitted specDecommission q s = some s₀ → wellFormed q 16 [(0, 8)] → fld q 8 8 = s₀.ident.serial →
     lifeReady s₀ = true → lifeTarget 0x0D07 q.payload s₀ = some t →
     exec (.decommission q) s = .next (finish s (begins specDecommission q
       (logCommand s₀ 0x0D07 q.fn q.tag sOk t q.payload) none []))) ∧
   (∀ f n o t s, (o.code = 0x0D02 ∨ o.code = 0x0D07) → mayEnd s f n o o.code →
     lifeTarget o.code o.payload s = some t →
     let old := s.life.lifecycle
     let rows := rowsRead s t
     let u := if old == lcTest && t == lcProduction then leaveTest (purgeAll (draw s)).1 else draw s
     let u := setPower (setLife u { u.life with rows }) { u.power with resetPending := true, resetAt := u.now + 100000 }
     let u := setFn u f { fnOf u f with ops := (fnOf u f).ops.filter (fun p => p.no != o.no) }
     let ok := rows == List.replicate 3 (rowPattern t)
     EndsWith s f n (if o.silent then logCommand u o.code f o.tag (if ok then sOk else eFault) t o.payload else postCompletion u f 0
       { type := 0x0002, status := if ok then sOk else eFault, tag := o.tag, detail := if ok then o.no else 0, record := le 1 old ++ le 1 t ++ zeros 2 ++ rows.map byte ++ zeros 9 })) ∧
   Starts specOwnerClaim .ownerClaim
     (fun q _ => wellFormed q (204 + fld q 6 2) [(105, 3)] ∧ claimKeyLen (fld q 4 2) = some (fld q 6 2)) (fun _ s => s) ∧
   (∀ f n o s, mayEnd s f n o 0x0D03 → s.life.lifecycle = lcProduction → (s.life.claimed = false ∨ s.life.purged = true) →
     let p := o.payload
     let key := slice p 8 97
     let signed := verifyP384 key (ascii "OPM-CLAIM" ++ le 8 s.ident.serial ++ p.take (108 + rd p 6 2)) (slice p (108 + rd p 6 2) 96)
     let keysOk := p384Ok s key && (rd p 4 2 != 1 || p384Ok s (slice p 108 97))
     s.scarecrow.zerofill ≠ 5 → rd p 0 4 = s.life.claimNo + 1 →
     (s.life.purged = true → s.life.claimNo ≠ 0 → sha3 key = s.life.ownerDigest) →
     let t := setLife s { s.life with claimed := true, claimNo := rd p 0 4, ownerKey := key, ownerDigest := sha3 key, purged := false }
     let t := setClient t 0 { clientOf t 0 with
       creds := tblSet (clientOf t 0).creds 0 { alg := rd p 4 2, key := slice p 108 (rd p 6 2) } }
     let t := if s.life.purged then setScarecrow t { t.scarecrow with latched := 0, latchSrc := 0 } else t
     EndsWith s f n (if keysOk && signed then endOp t f o sOk 0 (fit 8 (sha3 key) ++ le 4 (rd p 0 4) ++ zeros 4)
       else endOp s f o eAuth 0 []))) ∧
  ((∀ q s s₀, admitted specDebugChallenge q s = some s₀ → wellFormed q 4 [(1, 3)] → 1 ≤ fld q 0 1 → fld q 0 1 ≤ 3 →
     let c : Challenge := { level := fld q 0 1, bytes := randomBytes s₀ 32, issued := s₀.now, expires := s₀.now + 600000000
                            need := debugNeed s₀ (fld q 0 1) }
     exec (.debugChallenge q) s = .next (finish s (answer specDebugChallenge q
       { draw s₀ with life := { s₀.life with challenge := some c } }
       (c.bytes ++ le 8 c.issued ++ le 8 c.expires ++ le 1 c.level ++ le 1 c.need ++ zeros 6)))) ∧
   (∀ q s s₀ c, admitted specDebugUnlock q s = some s₀ → throttled s₀ = false → s₀.life.lifecycle ≠ lcEndOfLife →
     (fld q 1 1 = 3 → s₀.pair.role = .solo) → s₀.life.challenge = some c → s₀.now < c.expires →
     q.payload.length = tokenLen c.need →
     firstReserved q.payload ([(2, 6)] ++ if bit c.need 1 then [((if bit c.need 0 then 152 else 56) + 97, 3)] else []) = none →
     fld q 0 1 = 1 → fld q 1 1 = c.level → fld q 8 8 = s₀.ident.serial → slice q.payload 16 32 = c.bytes → fld q 48 8 = c.expires →
     let t := if fld q 1 1 == 3 then enterFull s₀ else s₀
     exec (.debugUnlock q) s = .next (finish s (if tokenSigned s₀ c.need q.payload
       then answer specDebugUnlock q { t with life := { t.life with debug := fld q 1 1, debugExpires := fld q 48 8 } } []
       else decline specDebugUnlock q (debugReport { s₀ with life := { s₀.life with challenge := none } }) eAuth 0))) ∧
   Answers specDebugClose .debugClose (fun q _ => wellFormed q 0 []) (fun _ s => closeDebug s) (fun _ _ => []))

/-! ### Jobs (R46–R55, R67, R153–R226, R251) -/

/-- A descriptor at the head of a ring that fetches is consumed, and the job joins its engine's queue and starts when it can: for
every job row, with its opcode and engine of Table 2-17, and for a descriptor whose opcode is no job's (R46, R47, R55, R67). A fetch
that fails, or that names an event ring that is not enabled, halts the ring with CAUSE 2 or 3 and consumes nothing; a ring that does
not fetch leaves the command without effect (R47, R48). -/
def Obligations.JobRowsFetchTheirJob : Prop :=
  (∀ op g i, (op, g, i) ∈ jobRows → ∀ q s,
    (fetches s q.fn q.ring = true → q.fetched = true → (eventRingOf (fnOf s q.fn) q.desc.eventRing).enabled = true →
      exec (i q) s = .next (finish s (startJobs (takeDescriptor s op g q)))) ∧
    (fetches s q.fn q.ring = true → q.fetched = false →
      exec (i q) s = .next (finish s (haltRing s q.fn q.ring 2))) ∧
    (fetches s q.fn q.ring = true → q.fetched = true → (eventRingOf (fnOf s q.fn) q.desc.eventRing).enabled = false →
      exec (i q) s = .next (finish s (haltRing s q.fn q.ring 3))) ∧
    (fetches s q.fn q.ring = false → exec (i q) s = .next (finish s s))) ∧
  (∀ op q s, engineOf op = none → fetches s q.fn q.ring = true → q.fetched = true →
    (eventRingOf (fnOf s q.fn) q.desc.eventRing).enabled = true →
    exec (.descriptorCodeNotAllocated op q) s = .next (finish s (startJobs (takeDescriptor s op .flail q))))

/-- Every job row completes on a device that is otherwise at rest: a descriptor whose ring fetches it and that passes its checks starts
its job at once, a Thresher job on the cores of its awake floor with its key and IV, a Flail job on a core of its kind, a Mill job on an
idle stone and VERIFY_OFFLINE on a Hand under the policy in force; and the engine's end of that job ends it with what its operation
computes over the message with the job's bytes: its output, the STATUS and INLINE (R46, R53, R150, R155, R161, R166, R172, R185, R193,
R209–R214, R251). A Mill's result that Table 7-6 names goes to a check stone, of another group unless it is lattice work, and is handed
over by the events that follow its stone's (R219). A document is at its end once what its Hand asks of the engines is done. -/
def Obligations.JobRowsComplete : Prop :=
  ∀ op g i, (op, g, i) ∈ jobRows → ∀ q s, atRest s → fetches s q.fn q.ring = true → q.fetched = true →
    (eventRingOf (fnOf s q.fn) q.desc.eventRing).enabled = true → q.dmaFail = none →
    let n := s.jobNo
    let u := takeDescriptor s op g q
    let t := finish s (startJobs u)
    ∀ b, jobOf u n = some b → mustWait u b = false → firstFail (jobChecks u b) = none →
    exec (i q) s = .next t ∧
    (g = .thresher → (floorOf u b.floor).fenced = false → (floorOf u b.floor).awake = true → starved u b.floor = false →
      coresInService u b.floor ≠ 0 → jobCores u b ≤ freeCores u b.floor →
      let v := ivFor u b
      ∃ r, jobOf t n = some r ∧ r.stage = .running ∧ r.onCore = true ∧ r.opcode = op ∧ r.req = q ∧ r.iv = v.1 ∧
        r.key = (withKey u b).key ∧ r.twinned = (u.twin || (withKey u b).custody) ∧ r.cores.length = jobCores u b ∧
        messageOf t r = messageOf (openFor v.2 b v.1) { b with iv := v.1 } ∧
        let m := messageOf t r
        let mac := (srcData q).drop (q.desc.totalLen - tagLen m.param)
        let x := thResult op q.desc r.key r.iv (addToMessage m op q.desc (srcData q)) m.data.length
          (if verifiesTag op && dFinal q.desc then mac else [])
        exec (.jobComplete n .good) t =
          .next (finish t (startJobs (endJob (if x.1 = sOk then keepMessage t r else t) r x.1 0 false x.2.1 x.2.2)))) ∧
    (∀ c rest, g = .flail → freeFlail u (onSha2 (flailAlg u b) && op == 0x0301) = c :: rest →
      ∃ r, jobOf t n = some r ∧ r.stage = .running ∧ r.onCore = true ∧ r.opcode = op ∧ r.req = q ∧ r.core = some c ∧
        r.restarted = restarts u b ∧ messageOf t r = messageOf (openFor u b []) b ∧
        let x := flResult op q.desc (addToMessage (messageOf t r) op q.desc (srcData q))
        exec (.jobComplete n .good) t =
          .next (finish t (startJobs (endJob (if x.1 = sOk then keepMessage t r else t) r x.1 0 false x.2.1 x.2.2)))) ∧
    (g = .mill → (∀ k < 64, (stoneOf s k).state = .idle ∧ (stoneOf s k).job = none) → s.groupFences = [] →
      ∃ r k, jobOf t n = some r ∧ r.stage = .running ∧ r.stone = some k ∧ r.opcode = op ∧ r.req = q ∧
        r.key = (withKey u b).key ∧
        let x := millResult (reachTime t r) op (dParam q.desc) r.key (srcData q)
        let e := { r with status := x.1, detail := 0, out := x.2.1, inline := x.2.2, since := (reachTime t r).now, check := none }
        let v := finish t (startJobs (setJob (freeStones (draw (reachTime t r)) e)
          { e with stage := if secondStone op then .checking else .finished }))
        exec (.millStoneDone k .clean) t = .next v ∧
        (secondStone op = true → ∃ c j, jobOf v n = some c ∧ c.check = some j ∧ checkRuns v c = true ∧
          (latticeOp op = true ∨ groupOf j ≠ groupOf k))) ∧
    (∀ h, g = .hand → chooseHand u = some h →
      ∃ r, jobOf t n = some r ∧ r.stage = .running ∧ r.opcode = op ∧ r.req = q ∧ r.hand = some h ∧
        r.policy = some (tblGet s.policies (rd (srcData q) 2 2) {}) ∧
        (askedDone t r = true → exec (.jobComplete n .good) t = .next (finish t (startJobs (offlineDone t r)))))

/-- JOB_COMPLETE: a Thresher or Flail job on its core ends with what it computed, its message kept where it ends OK; a finished Mill
job with the result that its stone computed; a Hand's document, once what the Hand asked of the engines
is done, goes to be signed; a twin mismatch, a parity error, the damaged slot of
a key, an engine fault and a DMA failure end the job with E_TWIN, E_PARITY, E_FAULT and E_DMA, and a lockstep mismatch ends all the
work of its Hand (R22, R53, R54, R149, R194, R285, R479). -/
def Obligations.JobCompletionsEndJobs : Prop :=
  ∀ n s b, jobOf s n = some b → powered s = true → b.own = none →
    ((b.engine = .thresher ∨ b.engine = .flail) → b.stage = .running → b.onCore = true →
      let m := messageOf s b
      let whole := addToMessage m b.opcode b.req.desc (srcData b.req)
      let mac := (srcData b.req).drop (b.req.desc.totalLen - tagLen m.param)
      let r := if b.engine = .flail then flResult b.opcode b.req.desc whole
        else thResult b.opcode b.req.desc b.key b.iv whole m.data.length
          (if verifiesTag b.opcode && dFinal b.req.desc then mac else [])
      exec (.jobComplete n .good) s = .next (finish s (startJobs
        (endJob (if r.1 = sOk then keepMessage s b else s) b r.1 0 false r.2.1 r.2.2))) ∧
      exec (.jobComplete n .parity) s = .next (finish s (startJobs (failJob (reportParity s) b eParity 0))) ∧
      ∀ off, exec (.jobComplete n (.dma off)) s = .next (finish s (startJobs (failJob s b eDma off)))) ∧
    (b.engine = .mill → b.stage = .finished →
      exec (.jobComplete n .good) s = .next (finish s (startJobs (endJob s b b.status b.detail false b.out b.inline))) ∧
      ∀ off, exec (.jobComplete n (.dma off)) s = .next (finish s (startJobs (failJob s b eDma off)))) ∧
    (b.engine = .hand → b.stage = .running → b.hand.any (handHalted s) = false →
      (askedDone s b = true → exec (.jobComplete n .good) s = .next (finish s (startJobs (offlineDone s b)))) ∧
      exec (.jobComplete n .parity) s = .next (finish s (startJobs (failJob (reportParity s) b eParity 0))) ∧
      (∀ off, exec (.jobComplete n (.dma off)) s = .next (finish s (startJobs (failJob s b eDma off)))) ∧
      ∀ h, b.hand = some h →
        exec (.jobComplete n .fault) s = .next (finish s (startJobs (withdraw (report (faultHand s h) 0x15 h) (.hand h) 0x15)))) ∧
    (b.stage = .running → usesSlot b = true →
      exec (.jobComplete n .keyParity) s =
        .next (finish s (startJobs (cutJob (damageSlot s (hIndex b.req.desc.key)) b eParity 0)))) ∧
    (b.engine = .thresher → b.twinned = true → b.stage = .running → b.onCore = true →
      exec (.jobComplete n .twin) s = .next (finish s (startJobs
        (failJob (twinMismatch s b.floor b.cores (!b.custody) b.req.desc.tag) b eTwin b.floor)))) ∧
    (∀ c, b.engine = .flail → b.stage = .running → b.onCore = true → b.core = some c →
      exec (.jobComplete n .fault) s =
        .next (finish s (startJobs (failJob (withdraw (report s 0x19 (c % 16)) (.flail c) 0x19) b eFault 0))))

/-- The engines' own events: a slice returns its entry to the tail of its priority's queue, an entry that has waited 100 µs moves to
the tail of the next queue, a stone at the end of its full-operation time has computed or has failed, a release check lets the result
go or fails it, and stones wipe, gate and wake (R26, R172, R193, R213–R224). That a timer's row moves the clock to its deadline is the
model's choice (notes/assumptions/4.md). -/
def Obligations.EngineEventsAct : Prop :=
  (∀ n bytes s b, jobOf s n = some b → powered s = true → (b.engine = .thresher ∨ b.engine = .flail) → b.stage = .running →
    b.onCore = true →
    exec (.winnowSliceEnd n bytes) s = .next (finish s (startJobs (setJob { s with turnNo := s.turnNo + 1 }
      { b with rest := b.rest - min bytes 65536, onCore := false, core := none, cores := [], queue := b.priority
               turn := s.turnNo, since := s.now })))) ∧
  (∀ n s b, jobOf s n = some b → powered s = true → b.queue < 3 →
    let t := advanceTo s (b.since + 100)
    let u := startJobs (setJob { t with turnNo := t.turnNo + 1 } { b with queue := b.queue + 1, turn := t.turnNo, since := t.now })
    ((b.engine = .thresher ∨ b.engine = .flail) → heldByContext s b = false →
      (b.stage = .queued ∨ (b.stage = .running ∧ b.onCore = false)) →
      exec (.winnowAgePromotion n) s = .next (finish s u)) ∧
    (b.engine = .mill → b.stage = .queued → exec (.millAgePromotion n) s = .next (finish s u))) ∧
  (∀ n s b, n < 64 → powered s = true → (stoneOf s n).state = .busy → (stoneOf s n).job.bind (jobOf s) = some b →
    (b.stone = some n → b.stage = .running →
      exec (.millStoneDone n .clean) s = .next (finish s (startJobs (stoneComputes s b)))) ∧
    exec (.millStoneDone n .residue) s = .next (finish s (startJobs (stoneFails s b n 0x19 eFault))) ∧
    exec (.millStoneDone n .parity) s = .next (finish s (startJobs (stoneFails s b n 0x17 eParity))) ∧
    (b.opcode = 0x0405 → b.stage = .running →
      exec (.millStoneDone n .point) s = .next (finish s (startJobs (stoneFails s b n 0x19 eFault)))) ∧
    (b.opcode = 0x040A → b.stage = .running → b.own = none →
      exec (.millStoneDone n .iterations) s = .next (finish s (startJobs (failJob (freeStones s b) b eFault 0)))) ∧
    (usesRandom b.opcode = true → b.stage = .running → b.own = none →
      exec (.millStoneDone n .noRandom) s = .next (finish s (startJobs
        (failJob (report (draw (freeStones s b)) 0x1B (Config.free 0x001B s.rng)) b eFault 0))))) ∧
  (∀ n s b, jobOf s n = some b → powered s = true → b.engine = .mill → checkRuns s b = true →
    let t := advanceTo s (b.since + usOf (checkTime s b))
    exec (.millReleaseCheckDone n true) s = .next (finish s (startJobs (setJob (freeStones t b) { b with stage := .finished }))) ∧
    (b.own = none →
      exec (.millReleaseCheckDone n false) s = .next (finish s (startJobs (failJob (checkLost t b) b eFault 0)))) ∧
    (b.own.isSome = true →
      exec (.millReleaseCheckDone n false) s = .next (finish s (startJobs (workFails (checkLost t b) b eFault))))) ∧
  (∀ n s, n < 64 → powered s = true → (stoneOf s n).state = .wiping →
    exec (.stoneWipeDone n) s = .next (finish s (startJobs
      (setStone s n { stoneOf s n with state := (stoneOf s n).afterWipe, afterWipe := .idle, since := s.now })))) ∧
  (∀ n s, n < 64 → powered s = true → (stoneOf s n).state = .idle → (stoneOf s n).job = none → lastAwake s n = false →
    exec (.stoneIdleGate n) s = .next (finish s
      (setStone (advanceTo s ((stoneOf s n).since + 100)) n { stoneOf s n with state := .gated }))) ∧
  (∀ n s, n < 64 → powered s = true → (stoneOf s n).state = .waking →
    exec (.stoneWakeDone n) s = .next (finish s (startJobs (setStone s n { stoneOf s n with state := .idle, since := s.now }))))

/-! ### Mailbox events and rings (R39, R46–R49, R56–R61, R67) -/

/-- GO on a mailbox that is not IDLE sets REJECTED_GO and changes nothing else; RELEASE takes DONE to IDLE; GO with a CODE that no
command has answers E_CODE (R38, R39, R67). -/
def Obligations.MailboxEventsAct : Prop :=
  (∀ f s, powered s = true → fnExists s f = true → (fnOf s f).state ≠ .idle →
    exec (.mbxGoRejected f) s = .next (finish s (setFn s f { fnOf s f with rejectedGo := true }))) ∧
  (∀ f s, powered s = true → fnExists s f = true → (fnOf s f).state = .done →
    exec (.mbxRelease f) s = .next (finish s (setFn s f { fnOf s f with state := .idle }))) ∧
  (∀ code q s, stewardTakes s q.fn = true → q.flags = 0 → allZero q.rsv = true → q.len ≤ 4064 → code ∉ mboxCodes →
    exec (.mbxGoCodeNotAllocated code q) s = .next (finish s (respond s code q.fn q.tag eCode 0 [])))

/-- The rings' registers: ENABLE takes a job ring's configuration or halts it with CAUSE 1, ENABLE 0 stops it, JR_PROD is stored; an
event ring that is enabled starts anew, one that is disabled keeps completions and drops the rest, ER_CONS returns entries, lets
what waits be written and the jobs that waited for it start, and the coalescing time signals under the settings that the oldest entry was written under (R46–R49, R56,
R58, R60, R61). That a timer's row moves the clock to its deadline is the model's choice (notes/assumptions/4.md), as is that ENABLE
reads 1 after a refused configuration (notes/assumptions/13.md). -/
def Obligations.RingCommandsComplete : Prop :=
  (∀ f r v s, ringReached s f r = true → bit v 0 = true → (jobRingOf (fnOf s f) r).enable = false →
    let k : JobRing := { jobRingOf (fnOf s f) r with priority := bits v 2 1, sizeLog2 := bits v 7 4, enable := true, halted := false, cause := 0 }
    let t := setJobRing s f r k
    exec (.jobRingEnable f r v) s = .next (finish s (if jobRingOk t f k then t else haltRing t f r 1))) ∧
  (∀ f r v s, ringReached s f r = true → bit v 0 = false →
    let j := jobRingOf (fnOf s f) r
    exec (.jobRingDisable f r v) s = .next (finish s (setJobRing s f r
      { j with priority := bits v 2 1, sizeLog2 := if j.enable then j.sizeLog2 else bits v 7 4, enable := false }))) ∧
  (∀ f r v s, ringReached s f r = true →
    exec (.jobRingProduce f r v) s = .next (finish s (setJobRing s f r { jobRingOf (fnOf s f) r with prod := v % 65536 }))) ∧
  (∀ f r v s, ringReached s f r = true → bit v 0 = true → (eventRingOf (fnOf s f) r).enable = false →
    (eventRingOf (fnOf s f) r).enabled = false →
    let e : EventRing := { eventRingOf (fnOf s f) r with sizeLog2 := bits v 7 4, vector := bits v 12 8, mask := bit v 13 }
    let t := setEventRing s f r { e with
      enable := true, enabled := eventRingOk e, cfgErr := !eventRingOk e, prod := 0, cons := 0, seq := 0, live := [], recNext := 0
      unsignalled := 0 }
    exec (.eventRingEnable f r v) s = .next (finish s (if eventRingOk e then startJobs (flushRing t f r) else t))) ∧
  (∀ f r v s, ringReached s f r = true → bit v 0 = false → (eventRingOf (fnOf s f) r).enable = true →
    let e := eventRingOf (fnOf s f) r
    let gone := (e.queue.filter (·.unsolicited)).length
    exec (.eventRingDisable f r v) s = .next (finish s (setEventRing s f r { e with
      sizeLog2 := if e.enabled then e.sizeLog2 else bits v 7 4, vector := bits v 12 8, mask := bit v 13, enable := false
      enabled := false, queue := e.queue.filter (fun x => !x.unsolicited), dropped := sat32 (e.dropped + gone)
      lost := e.lost + gone }))) ∧
  (∀ f r v s, ringReached s f r = true → (eventRingOf (fnOf s f) r).enabled = true →
    let e := eventRingOf (fnOf s f) r
    let n := (v % 65536 + ringSize e - e.cons) % ringSize e
    exec (.eventRingConsume f r v) s =
      .next (finish s (startJobs (flushRing (setEventRing s f r { e with cons := v % 65536, live := e.live.drop n }) f r)))) ∧
  (∀ f r s, ringReached s f r = true → (eventRingOf (fnOf s f) r).unsignalled ≠ 0 → (eventRingOf (fnOf s f) r).oldUsec ≠ 0 →
    (eventRingOf (fnOf s f) r).enabled = true →
    let e := eventRingOf (fnOf s f) r
    let t := setEventRing (advanceTo s (e.oldest + e.oldUsec)) f r { e with unsignalled := 0 }
    exec (.eventCoalesceExpiry f r) s = .next (finish s (if e.oldMask then t else signal t f e.oldVector)))

/-- REGISTER_WRITE: a 32-bit write goes to its register, a 64-bit one to both halves of a 64-bit register, any other size is
ignored; GO on an IDLE mailbox runs the meaning of the CODE in the command buffer on the header and payload that stand there (R36,
R39), and answers E_CODE for a CODE that no command has (R67); among the registers, FN_INT_MASK is stored, FN_INT_CAUSE and
REJECTED_GO clear where 1 is written, a ring's base is taken while it is disabled, and ALARM_SEEN clears where 1 is written (R30,
R31, R34, Tables 2-5, 2-9, 12-8). A read of another size than 4 or 8 gives zeros (R30), and a slot of the Ledger window gives the
entry of the latest 4,096 whose SEQ falls there, with SEQ 0 where it is damaged (R285), or zeros (R311). -/
def Obligations.RegisterWritesTakeEffect : Prop :=
  (∀ f off v s, fnReached s f = true → off % 4 = 0 → (off = 0 → bit v 0 = true → (fnOf s f).state ≠ .idle) →
    exec (.registerWrite f .bar0 off 4 v) s = .next (finish s (writeBar0 f off (v % 2 ^ 32) s))) ∧
  ((∀ f v s code k, fnReached s f = true → bit v 0 = true → (fnOf s f).state = .idle → (code, k) ∈ goRows →
     rd (fnOf s f).cmdBuf 0 2 = code →
     let b := (fnOf s f).cmdBuf
     exec (.registerWrite f .bar0 0 4 v) s = k { fn := f, flags := rd b 2 2, tag := rd b 4 4, len := rd b 8 4, session := rd b 12 4
                                                 rsv := slice b 16 16, payload := slice b 32 (rd b 8 4) } s) ∧
   (∀ f v s, stewardTakes s f = true → bit v 0 = true →
     let b := (fnOf s f).cmdBuf
     rd b 0 2 ∉ mboxCodes → rd b 2 2 = 0 → allZero (slice b 16 16) = true → rd b 8 4 ≤ 4064 →
     exec (.registerWrite f .bar0 0 4 v) s = .next (finish s (respond s (rd b 0 2) f (rd b 4 4) eCode 0 [])))) ∧
  (∀ off v s, fnReached s 0 = true → off % 4 = 0 →
    exec (.registerWrite 0 .bar2 off 4 v) s = .next (finish s (writeBar2 off (v % 2 ^ 32) s))) ∧
  (∀ f off v s, fnReached s f = true → off % 8 = 0 → wideRegister .bar0 off = true →
    exec (.registerWrite f .bar0 off 8 v) s =
      .next (finish s (writeBar0 f (off + 4) (v / 2 ^ 32 % 2 ^ 32) (writeBar0 f off (v % 2 ^ 32) s)))) ∧
  (∀ f bar off n v s, n ≠ 4 → n ≠ 8 → exec (.registerWrite f bar off n v) s = .next (finish s s)) ∧
  (∀ f v s, writeBar0 f 0x00C v s = setFn s f { fnOf s f with intMask := bits v 2 0 }) ∧
  (∀ f v s, writeBar0 f 0x008 v s = setFn s f { fnOf s f with
    mbxDone := (fnOf s f).mbxDone && !bit v 0, ringHalt := (fnOf s f).ringHalt && !bit v 1, notice := (fnOf s f).notice && !bit v 2 }) ∧
  (∀ f v s, writeBar0 f 0x004 v s = setFn s f { fnOf s f with rejectedGo := (fnOf s f).rejectedGo && !bit v 2 }) ∧
  (∀ f v s, (jobRingOf (fnOf s f) 0).enable = false →
    writeBar0 f 0x3000 v s = setJobRing s f 0 { jobRingOf (fnOf s f) 0 with base := withHalf (jobRingOf (fnOf s f) 0).base false v }) ∧
  (∀ f v s, (jobRingOf (fnOf s f) 0).enable = true → writeBar0 f 0x3000 v s = s) ∧
  (∀ v s, writeBar2 0x1008 v s = setScarecrow s { s.scarecrow with seen := s.scarecrow.seen - (s.scarecrow.seen &&& v) }) ∧
  (∀ s f bar off n, n ≠ 4 → n ≠ 8 → readRegister s f bar off n = 0) ∧
  (∀ s k w, fnReached s 0 = true → k < 4096 → w < 32 →
    (∀ e, e ∈ s.ledger.entries.drop (s.ledger.entries.length - 4096) → e.seq % 4096 = k →
      (∀ x ∈ s.ledger.entries.drop (s.ledger.entries.length - 4096), x.seq % 4096 = k → x = e) →
      readRegister s 0 .bar2 (0x80000 + 128 * k + 4 * w) 4 = rd (Sys2Proof.Machine.ledgerRead s.ledger e) (4 * w) 4) ∧
    ((∀ x ∈ s.ledger.entries, x.seq % 4096 ≠ k) → readRegister s 0 .bar2 (0x80000 + 128 * k + 4 * w) 4 = 0))

/-! ### The Hatch and the fall-back digest (R177–R181, R196–R198) -/

/-- The Hatch: a free lock is acquired, its holder releases it, 10 ms without a write release it; START begins an operation that no
check refuses, and one that is refused ends with its RESULT; a block is absorbed, put out and consumed; FINAL and the core's end
finish the operation; ABORT discards it (R177–R181). The fall-back digest path: START begins a digest of an ALG that it serves or
ends with its RESULT, a word is submitted and a core of its kind absorbs it, FINAL and that core's end leave the digest in FLAIL_OUT,
ABORT clears it, a core whose datapaths disagree ends it with E_FAULT (a free
value, notes/assumptions/45.md), and a read while it runs sets RESULT to E_EARLY (R194, R196–R198). That a timer's row moves the clock to its deadline is
the model's choice (notes/assumptions/4.md). -/
def Obligations.HatchAndFallbackCommandsComplete : Prop :=
  ((∀ v s, powered s = true → bit v 16 = false → v % 65536 ≠ 0 → v % 65536 ≠ 0xFFFF → s.hatch.held = false →
     exec (.hatchLockAcquire v) s = .next (finish s { s with hatch := { s.hatch with
       lastUse := s.now, held := true, internal := false, tag := v % 65536, client := 0 } })) ∧
   (∀ v s, powered s = true → bit v 16 = true → v % 65536 ≠ 0xFFFF → s.hatch.held = true → s.hatch.tag = v % 65536 →
     exec (.hatchLockRelease v) s = .next (finish s (releaseLock (hatchTouched s)))) ∧
   (∀ s, powered s = true → s.hatch.held = true → s.hatch.internal = false →
     exec .hatchIdleRelease s = .next (finish s (releaseLock (advanceTo s (s.hatch.lastUse + 10000))))) ∧
   (∀ s, powered s = true → s.hatch.held = true → s.hatch.internal = false → s.hatch.busy = false →
     (hatchRefused (hatchTouched s) = none → fenced s (hIndex s.hatch.key) = false → hatchKeyRefused (hatchTouched s) = none →
       hatchWaits (hatchTouched s) = false →
       exec .hatchStart s = .next (finish s (hatchBegins (hatchTouched s)))) ∧
     (∀ r, (hatchRefused (hatchTouched s) = some r ∨ (hatchRefused (hatchTouched s) = none ∧ fenced s (hIndex s.hatch.key) = false ∧
         hatchKeyRefused (hatchTouched s) = some r)) →
       exec .hatchStart s = .next (finish s { s with hatch := hatchEnds { s.hatch with lastUse := s.now } r }))) ∧
   (∀ s, powered s = true → s.hatch.held = true → s.hatch.internal = false → s.hatch.busy = true → s.hatch.starting = false →
     exec .hatchFinal s = .next (finish s { s with hatch := { s.hatch with lastUse := s.now, finishing := true, ready := false } })) ∧
   (∀ s, powered s = true → s.hatch.held = true → s.hatch.internal = false →
     exec .hatchAbort s = .next (finish s { s with hatch := hatchStops { s.hatch with lastUse := s.now } })) ∧
   (∀ w s, powered s = true → s.hatch.held = true → s.hatch.internal = false → s.hatch.ready = true →
     let h := { s.hatch with lastUse := s.now }
     exec (.hatchDinSubmit w) s = .next (finish s { s with hatch := hatchAbsorbs h (inputWord h.din w) })) ∧
   (∀ s, powered s = true → exec .hatchBlockDone s = .next (finish s { s with hatch := hatchBlockOut s.hatch })) ∧
   (∀ s, powered s = true →
     exec .hatchDoutConsume s = .next (finish s { s with hatch := { s.hatch with outValid := false, lastUse := s.now } })) ∧
   (∀ s, powered s = true → s.hatch.finishing = true → s.hatch.inBlock = false →
     exec .hatchOperationDone s = .next (finish s { s with hatch := hatchFinishes s.hatch }))) ∧
  ((∀ s, powered s = true → s.hatch.held = true → s.hatch.internal = false → s.flail.busy = false →
     let t := hatchTouched s
     exec .flailStart s = .next (finish s { t with flail := match flailRefused s with
       | some st => { flailClears s.flail with done := true, result := st }
       | none => { flailClears s.flail with busy := true, ready := true, runAlg := s.flail.alg, result := 0 } })) ∧
   (∀ s, powered s = true → s.hatch.held = true → s.hatch.internal = false → s.flail.busy = true →
     exec .flailFinal s = .next (finish s (flailJoins (hatchTouched s) { s.flail with finishing := true, ready := false }))) ∧
   (∀ s, powered s = true → s.hatch.held = true → s.hatch.internal = false →
     exec .flailAbort s = .next (finish s (startJobs { hatchTouched s with flail := flailClears s.flail }))) ∧
   (∀ w s, powered s = true → s.hatch.held = true → s.hatch.internal = false → s.flail.ready = true →
     exec (.flailDinSubmit w) s =
       .next (finish s (flailJoins (hatchTouched s) (flailAbsorbs s.flail (inputWord s.flail.din w))))) ∧
   (∀ c s, powered s = true → s.flail.inWord = true → s.flail.core = some c →
     exec .flailWordDone s = .next (finish s (startJobs (if Config.flailFails s.rng then flailSpoiled (draw s) c
       else { draw s with flail := { s.flail with inWord := false, ready := !s.flail.finishing, core := none } })))) ∧
   (∀ k s, powered s = true → s.flail.busy = true →
     exec (.flailOutRead k) s = .next (finish s { s with flail := { s.flail with result := eEarly } })) ∧
   (∀ c s, powered s = true → s.flail.finishing = true → s.flail.inWord = false → s.flail.core = some c →
     exec .flailFallbackDone s = .next (finish s (startJobs (if Config.flailFails s.rng then flailSpoiled (draw s) c
       else { draw s with flail := flailFinishes s.flail })))))

/-- A write to the window without a holder is ignored and sets NOT_HELD, for every register but the lock (R179); while the Steward
holds the lock it is ignored (R13, R181). -/
def Obligations.HatchWritesNeedTheLock : Prop :=
  ∀ word i s, i ∈ hatchWrites word → powered s = true →
    (s.hatch.held = false → exec i s = .next (finish s { s with hatch := { s.hatch with lastUse := s.now, notHeld := true } })) ∧
    (s.hatch.held = true → s.hatch.internal = true → exec i s = .next (finish s (hatchTouched s)))

/-! ### Ports (R25, R79, R85–R95, Table 3-8) -/

/-- The ports' events: a link that a partner answers comes up in the mode of R76 to R78 and announces, step 11 of the
start being reached with it where it was not; a link goes down; a frame
that passes the checks of Table 3-8 is taken up, one that fails a check counts where the table says, and what FEC corrected or could
not counts (R100); a new second, a sent frame, a PAUSE that is refreshed after 100 µs or that ends, and a floor that has woken (R25,
R87, R89, R92, R94). That a timer's row moves the clock to
its deadline is the model's choice (notes/assumptions/4.md). -/
def Obligations.PortEventsAct : Prop :=
  (∀ p x s, canLink (captureStarts s) p = true → exec (.portLinkUp p x) s = .next (finish s (linkUp (captureStarts s) p x))) ∧
  (∀ p hiBer corrected uncorrected s, (portOf s p).up = true →
    let t := takeDown (countFec s p corrected uncorrected) p
    exec (.portLinkDown { slot := p, hiBer, corrected, uncorrected }) s =
      .next (finish s (settleFloor (setPort t p { portOf t p with hiBer }) (portFloor p)))) ∧
  (∀ p x s, powered s = true → p < 128 → (portOf s p).up = true →
    let t := setFloor s (portFloor p) { floorOf s (portFloor p) with awake := true }
    let t := countFec t p (x.gapCorrected + x.corrected) (x.gapUncorrected + x.uncorrected)
    exec (.rxFrame p x) s = .next (finish s (match ingressFault t p x with
      | some c => countPort t p c 1
      | none => if x.etherType = 0x8808 then rxPause t p (ofBe (slice x.body 2 2)) else rxStrand t p x))) ∧
  (∀ s, let t := advanceTo s ((s.now / 1000000 + 1) * 1000000)
    exec .unkeyedWindowReset s = .next (finish s
      { t with ports := tblMap t.ports (fun _ w => { w with unkeyed := 0, unkeyedSec := t.now / 1000000 }) })) ∧
  (∀ p x s, (portOf s p).sending = some x → (portOf s p).up = true →
    exec (.frameTransmitted p) s = .next (finish s (frameSent s p x))) ∧
  (∀ f s, f < 6 → (floorOf s f).pausing = true →
    exec (.linkPauseRefresh f) s =
      .next (finish s (linkPause (advanceTo s ((floorOf s f).lastPause + 100)) f 0xFFFF))) ∧
  (∀ p s, (portOf s p).rxPaused = true →
    let t := advanceTo s (portOf s p).rxPausedUntil
    exec (.pauseQuantaExpiry p) s = .next (finish s (startTx (setPort t p { portOf t p with rxPaused := false }) p))) ∧
  (∀ f s, powered s = true → f < 6 → floorNeeded s f = true →
    exec (.floorWakeDone f) s = .next (finish s (startJobs (setFloor s f { floorOf s f with awake := true }))))

/-! ### Strands (R105–R143) -/

/-- The Grist of a strand: a frame's tag verifies, fails or meets a twin mismatch; its content digest, the knot's digest and the
archive encryption are done, and a core whose datapaths disagree on a digest is withdrawn; a slot that has been empty for
20 µs is missing and gets its NAK, which is repeated, and after 5 ms a GAP knot; PAUSE is repeated (R115–R131, R90, R194). That a timer's row moves the clock to its deadline is the model's choice (notes/assumptions/4.md). -/
def Obligations.StrandFrameEventsAct : Prop :=
  ∀ i s, powered s = true → acting s = true → i < 4096 →
    (∀ q w, (strandOf s i).window.find? (fun w => w.seq == q && w.state == .verifying) = some w →
      (w.twinned = true → exec (.tagVerifyDone i q false) s = .next (finish s (twinFails s i w))) ∧
      exec (.tagVerifyDone i q true) s = .next (finish s (if tagOk s i w then verified s i w else tagFails s i w))) ∧
    (∀ q, (strandOf s i).window.any (fun w => w.seq == q && w.state == .digesting) = true → idleFlail s false ≠ [] →
      exec (.contentDigestDone i { seq := q }) s = .next (finish s (advance (setStrand s i { strandOf s i with
        window := (strandOf s i).window.map (fun w =>
          if w.seq == q && w.state == .digesting then
            { w with state := .ready, digest := sha3 (rebuiltHeader w.header ++ w.payload) }
          else w) }) i)) ∧
      exec (.contentDigestDone i { seq := q, datapathOk := false }) s = .next (finish s (digestAgain s))) ∧
    (∀ r, (strandOf s i).building = some r → r.digested = false → idleFlail s false ≠ [] →
      exec (.knotDigestDone i true) s = .next (finish s
        (tryChain (setStrand s i { strandOf s i with building := some { r with digested := true } }) i)) ∧
      exec (.knotDigestDone i false) s = .next (finish s (digestAgain s))) ∧
    (∀ r ok, (strandOf s i).building = some r → (r.enc = .pending ∨ r.enc = .retry) →
      exec (.archiveEncryptDone i ok) s = .next (finish s (archiveDone s i r ok))) ∧
    (∀ q e, timersRun s i = true → (strandOf s i).next ≤ q → (strandOf s i).missing.any (fun m => m.1 == q) = false →
      (strandOf s i).empty.find? (fun x => x.1 == q) = some e →
      exec (.slotMissing i q) s = .next (finish s (sendNak (advanceTo s (e.2 + 20)) i)) ∧
      (markMissing (advanceTo s (e.2 + 20)).now (strandOf s i)).missing.any (fun m => m.1 == q) = true) ∧
    (timersRun s i = true → (strandOf s i).missing.any (fun m => (strandOf s i).next ≤ m.1) = true →
      exec (.nakRepeat i) s = .next (finish s (sendNak (advanceTo s ((strandOf s i).lastNak + 1000)) i))) ∧
    (∀ m, timersRun s i = true → (strandOf s i).missing.find? (fun m => m.1 == (strandOf s i).next) = some m →
      exec (.gapTimeout i) s = .next (finish s (buildGap (advanceTo s (m.2 + 5000)) i))) ∧
    (isKeyed (strandOf s i) = true → (strandOf s i).pausing = true → (overLimit s i = true ∨ frozen s = true) →
      exec (.strandPauseRepeat i) s = .next (finish s (sendPause (advanceTo s ((strandOf s i).lastPause + 500)) i 1000)))

/-- The CTRL frame at NEXT of an open strand, with the row's MSG: its message takes effect with its knot, an invalid one is knotted
and otherwise ignored; a REKEY_REQ waits for the Mill's agreement; a MSG without a meaning is knotted and counts in UNKNOWN_CTRL; one that a bound table takes goes to its
instance (R106, R113, R114, R246, R248, R265, Table 4-3). -/
def Obligations.CtrlMessagesTakeEffect : Prop :=
  ∀ i,
    TakesCtrl i 0x0003 (.openConfirm i) (fun _ _ => false) (fun s _ => s) ∧
    (∀ w s, ctrlAtNext s i = some w → i < 4096 → msgOf w.payload = 4 →
      exec (.rekeyReq i) s = .next (finish s (if rekeyWaits s i then s
        else advance (if (plainMsg w).isSome && rekeyValid i s w then rekey i s w else knotCtrl s i w) i))) ∧
    TakesCtrl i 0x0006 (.rekeyConfirm i) (rekeyConfirms i) (rekeyDone i) ∧
    TakesCtrl i 0x0008 (.closeReq i) (fun _ w => w.payload.length == 4) (scannerCloses i) ∧
    TakesCtrl i 0x0010 (.chipBegin i) beginFormed (beginChip i) ∧
    TakesCtrl i 0x0012 (.chipRsp i) rspFormed (chipResponse i) ∧
    TakesCtrl i 0x0013 (.chipEnd i) (fun _ w => w.payload.length == 8) (chipEnds i) ∧
    ∀ w s, ctrlAtNext s i = some w → i < 4096 →
      (knownMsg s i (msgOf w.payload) = false →
        let t := countStrand (knotCtrl s i w) i (fun c => { c with unknownCtrl := sat32 (c.unknownCtrl + 1) })
        exec (.unknownCtrl i) s = .next (finish s (advance t i))) ∧
      (∀ b, bindingFor s i (msgOf w.payload) = some b →
        let ev : EventCtx := { kind := 1, payload := ctrlBody w, msg := msgOf w.payload, seq := w.seq }
        exec (.sheafMsgEvent i) s = .next (finish s (advance (deliver (knotCtrl s i w) i b.sheaf b.table ev) i)))

/-- Keys and closing: an OPEN_REQ is taken up by a Hand; once the Mill has done what its checks need it is refused
with the first reason of R111, or accepted once the Mill has signed its OPEN_RESP, and OPEN_CONFIRM with TH opens the strand; without it the strand is ARMED again after 100 ms; a rekey is asked for once an epoch, and a strand whose rekey or close
is not answered in 100 ms is closed (R107–R114, Table 4-2). That a timer's row moves the clock to its deadline is the model's choice
(notes/assumptions/4.md). -/
def Obligations.StrandKeyEventsAct : Prop :=
  ∀ i s, powered s = true → acting s = true → i < 4096 →
    (∀ p src b, handsTake s = true → strandHeld s i = false → nextRequest (strandOf s i) = some (p, src, b) →
      let t := setStrand s i { strandOf s i with ctrl := (strandOf s i).ctrl.erase (.unkeyed p src b) }
      exec (.openReq i) s = .next (finish s (
        if reqFormed i 64 b = false then t
        else if openAsked s i p src b = false then s
        else match refusal s i p src b with
          | some r => sendUnkeyed (ownStops t (.agree i)) p src i (strandOf s i).epoch 0x000C (le 2 r ++ zeros 2)
          | none => if ownReady s (.opening i) then acceptOpen (ownStops t (.agree i)) i p src b else s))) ∧
    (∀ w, (strandOf s i).state = .keying → nextReady (strandOf s i) = some w → handFor s i = true → hType w.header = 2 →
      msgOf w.payload = 3 →
      exec (.openConfirm i) s = .next (finish s (if confirms (strandOf s i) w then openStrand s i w else s))) ∧
    ((strandOf s i).state = .keying →
      let t := discardWindow (advanceTo s (strandOf s i).keyingEnd) i
      exec (.keyingTimeout i) s = .next (finish s (changeState (eraseBank t i (strandOf s i).epoch) i .armed 3))) ∧
    ((strandOf s i).state = .opened → (strandOf s i).rekeySeq.isSome = true → handFor s i = true →
      exec (.rekeyConfirmTimeout i) s = .next (finish s (closeNow (advanceTo s (strandOf s i).rekeyEnd) i 3))) ∧
    ((strandOf s i).state = .opened → (strandOf s i).cfg.rekeyS ≠ 0 → (strandOf s i).asked = false →
      (strandOf s i).rekeySeq = none → handFor s i = true →
      let t := advanceTo s ((strandOf s i).epochStart + 1000000 * (strandOf s i).cfg.rekeyS)
      exec (.rekeyInterval i) s = .next (finish s (sendMsg (setStrand t i { strandOf t i with asked := true }) i 7 []))) ∧
    (∀ at_, (strandOf s i).closeEnd = some at_ → (strandOf s i).state = .opened → handFor s i = true →
      exec (.closeGraceTimeout i) s = .next (finish s (closeNow (advanceTo s at_) i 5)))

/-- Seals: a segment boundary seals a head that has changed; an idle strand is sealed when its time is up; a seal whose signatures
are made on their stones and checked goes out, and after a failed check the signature is made again; and the strand records are
persisted (R132–R140, R220). Chip sessions that no answer reaches in time end with reason 4, after a C-APDU's time or the session's;
a verdict that is signed goes out, while R405 holds none of what it gives,
after a failed check its signature is made again; a sheaf timer raises TIMER, and an action whose
result waits, whose job is at its end or whose verdict is signed raises DONE (R219, R220, R248, R252, R265, R273). That a timer's row
moves the clock to its deadline is the model's choice (notes/assumptions/4.md). -/
def Obligations.SealAndHandEventsAct : Prop :=
  ((∀ i s, powered s = true → acting s = true → i < 4096 → braids (strandOf s i) = true → stewardServes s = true →
     let st := strandOf s i
     let t := advanceTo s st.nextBoundary
     let u := if st.sinceSeal ≠ 0 then makeSeal t i 1 st.nextBoundary else t
     exec (.segmentBoundary i) s = .next (finish s (setStrand u i { strandOf u i with
       boundary := st.nextBoundary, nextBoundary := st.nextBoundary + st.cfg.segPeriod, segTagFails := 0 }))) ∧
   (∀ i s, powered s = true → acting s = true → i < 4096 → braids (strandOf s i) = true → stewardServes s = true → s.sealIdle ≠ 0 →
     let t := advanceTo s ((strandOf s i).sealAt + 1000000 * s.sealIdle)
     exec (.idleSealDue i) s = .next (finish s (makeSeal t i 5 t.now))) ∧
   (∀ i x rest s, powered s = true → acting s = true → i < 4096 → (strandOf s i).sealQ = x :: rest → sheafPaused s = false →
     stewardServes s = true → ownRuns s (.seal i) = true →
     exec (.sealSignDone i true) s =
       .next (finish s (startJobs (sealSigned (ownTime s (.seal i)) i x rest))) ∧
     exec (.sealSignDone i false) s = .next (finish s (ownFails s (.seal i)))) ∧
   (∀ s, powered s = true → s.update.mbxReady = true → (acting s = true ∨ s.pair.role = .standby) →
     exec .strandRecordPersist s = .next (finish s
       { s with durable := (s.strands.filter (fun e => e.2.state != .unused)).map (fun e => (e.1, copyOf e.2)) }))) ∧
  ((∀ i c s, (strandOf s i).chip = some c → handFor s i = true →
     (c.outstanding = true → exec (.chipApduTimeout i) s =
       .next (finish s (stopChip (advanceTo s (c.cmdTick + 1000 * c.policy.apduMs)) i 4))) ∧
     exec (.chipSessionTimeout i) s =
       .next (finish s (stopChip (advanceTo s (c.begun + 1000000 * c.policy.sessionS)) i 4))) ∧
   (∀ n v s, s.verdicts.find? (fun v => v.no == n) = some v → powered s = true → sheafPaused s = false →
     stewardServes s = true → beyondAcked s 0x7FF00 v.no = false → ownRuns s (.verdict v.no) = true →
     exec (.verdictSignDone n true) s =
       .next (finish s (startJobs (deliverDoc (ownTime s (.verdict v.no)) v))) ∧
     exec (.verdictSignDone n false) s = .next (finish s (ownFails s (.verdict v.no)))) ∧
   (∀ i k n at_ b key x s, powered s = true → acting s = true → i < 4096 → sheafPaused s = false →
     boundInstance s i k = some (b, key, x) → tblFind x.timers n = some at_ →
     exec (.sheafTimerExpiry i k n) s = .next (finish s (deliver
       (setInstance (advanceTo s at_) i key { x with timers := tblDel x.timers n }) i b.sheaf b.table { kind := 2, timer := n }))) ∧
   (∀ i k tag b key x a s, powered s = true → acting s = true → i < 4096 → sheafPaused s = false →
     boundInstance s i k = some (b, key, x) → x.asyncs.find? (fun a => a.tag == tag) = some a →
     (∀ st out, a.done = some (st, out) →
       exec (.sheafActionDone i k tag) s = .next (finish s (raiseDone s i b tag st out (fun y => y == a)))) ∧
     (∀ z, a.done = none → a.verdict = some z → ownReady s (.action key tag) = true → countersHeld s = false →
       let v := deliverVerdict s b (.action key tag) z
       exec (.sheafActionDone i k tag) s = .next (finish s (raiseDone v.2 i b tag sOk v.1 (fun y => y == a)))) ∧
     (∀ id j y, a.done = none → a.verdict = none → a.job = some id → jobOf s id = some j → actionReady j = true →
       let t := startJobs (endAction s j)
       (tblFind t.instances key).bind (fun x => x.asyncs.find? (fun y => y.tag == tag && y.done.isSome)) = some y →
       exec (.sheafActionDone i k tag) s = .next (finish s
         (raiseDone t i b tag ((y.done.map (·.1)).getD 0) ((y.done.map (·.2)).getD []) (fun z => z == y))))))

/-! ### The Hawser (R394–R398, R404–R407, R413, R414, R417) -/

/-- The Hawser's links and its unkeyed frames: a trained link begins a path session, a lost one ends it, a HELLO brings the path up,
a KEYEX goes to the key agreement, and heartbeats go out, every 50 µs on each path, those of path B 25 µs after those of path A
(R394–R397, R417; that the row moves the clock to the next of them is the model's choice, notes/assumptions/4.md). A keyed Hawser
frame has its effect on a path that is up, after the checks that every keyed frame passes: heartbeats, the records and the end of an epoch, its
acknowledgement, shadows, bulk copies and notices (R397, R404, R405, R407, R413, R414). -/
def Obligations.HawserEventsAct : Prop :=
  (∀ p s, powered s = true →
     ((pathOf s p).link = false → hawserStarted s = true → pathPowered s = true → (∀ k ∈ pathPorts p, (portOf s k).cfg.admin ≠ 1) →
       exec (.hawserLinkUp p) s = .next (finish s (pathBegins s p))) ∧
     exec (.hawserPathDown p) s = .next (finish s (pathEnds s p false)) ∧
     (∀ h, (pathOf s p).link = true →
       let t := if (pathOf s p).up then pathBegins s p else s
       let u := tryUp (setPath t p { pathOf t p with peerNonce := h.nonce, hello := some h }) p
       exec (.hawserHello p h) s = .next (finish s
         (if (pathOf u p).up = true ∧ u.pair.role = .resync then sendKeyed u p hwNotice (le 2 3 ++ zeros 6) else u))) ∧
     (∀ who b, (pathOf s p).link = true →
       exec (.hawserKeyex p { peer := who, body := b }) s = .next (finish s (keyexFrame s p who b))) ∧
     (let t := advanceTo s s.pair.beatAt
      let t := sendKeyed t s.pair.beatPath hwHeartbeat (heartbeatBytes t)
      exec .heartbeatSend s = .next (finish s (setPair t { t.pair with beatAt := t.now + 25, beatPath := otherPath t.pair.beatPath })))) ∧
  (∀ p x s, powered s = true →
     (∀ h, exec (.hawserHeartbeat p x h) s =
       .next (finish s (keyedFrame s p hwHeartbeat (beatBytes h) x (fun s => beat s p h)))) ∧
     (∀ e k r, exec (.hawserEpochData p x e k r) s =
       .next (finish s (keyedFrame s p hwEpochData (lastPiece (recordBytes s r)) x (fun s => epochRecord s e k r)))) ∧
     (∀ e n last d, exec (.hawserEpochEnd p x e n last d) s = .next (finish s (keyedFrame s p hwEpochEnd
       (le 8 e ++ le 4 n ++ le 4 (ofBool last) ++ fit 32 d) x (fun s => epochEnd s p e n d)))) ∧
     (∀ e, exec (.hawserEpochAck p x e) s = .next (finish s (keyedFrame s p hwEpochAck (le 8 e) x (fun s =>
       if s.pair.role = .active then switchCheck (releaseWaits (ackEpoch s e)) else s)))) ∧
     (∀ v q, exec (.hawserShadow p x v q) s = .next (finish s (keyedFrame s p hwShadow (le 2 v ++ le 2 q ++ zeros 4) x (fun s =>
       if s.pair.role = .standby then
         sendKeyed (if newerSeq s.pair.fieldSeq q then applyField s (v % 65536) q else s) p hwShadowAck (le 2 q ++ zeros 6)
       else s)))) ∧
     (∀ q, exec (.hawserShadowAck p x q) s = .next (finish s (keyedFrame s p hwShadowAck (le 2 q ++ zeros 6) x (fun s =>
       match (fnOf s 0).held with
       | some { why := .shadow n t, .. } => if n = q then finishHeld s 0 sOk 0 (fieldReply s (s.now - t)) else s
       | _ => s)))) ∧
     (∀ r, exec (.hawserBulk p x r) s = .next (finish s (keyedFrame s p hwBulk (lastPiece (recordBytes s r)) x (fun s =>
       if s.pair.role = .resync then applyRecord
         (if s.pair.copying then s else setPair (clearCopied s) { (clearCopied s).pair with copying := true }) r
       else s)))) ∧
     (∀ k, exec (.hawserNotice p x k) s =
       .next (finish s (keyedFrame s p hwNotice (le 2 k ++ zeros 6) x (fun s => noticed s k)))))

/-! ### The pair's timers and the Hitch (R398–R402, R404, R407, R408, R410, R413, R420) -/

/-- The pair's timers: the end of an epoch, an acknowledgement that does not come, a lost peer and a path that is silent or
down, the Active unit's claim right, a start without a peer, a shadow that is not answered, the ends of pairing and the periodic ANNOUNCE. That a timer's
row moves the clock to its deadline is the model's choice (notes/assumptions/4.md). -/
def Obligations.PairTimersAct : Prop :=
  ∀ s, powered s = true →
    (s.pair.role = .active →
      let t := sendEpoch (lagCheck s) false
      exec .epochTick s = .next (finish s
        (if t.pair.peerReachable && (t.pair.peerRole == 2 || t.pair.peerRole == 3) then t
        else releaseWaits (setPair t { t.pair with sentEpochs := [], ackedValues := [], lagging := false })))) ∧
    (∀ e at_ n rest, s.pair.sentEpochs = (e, at_, n) :: rest → s.pair.role = .active → s.pair.peerRole = 2 →
      let t := notice (advanceTo s (at_ + 20000)) 3
      exec .epochAckTimeout s = .next (finish s (releaseWaits (switchCheck (setDegraded
        (setPair t { t.pair with sentEpochs := [], ackedValues := [], peerRole := 3 }) true 15))))) ∧
    (s.pair.paired = true → s.pair.peerReachable = true →
      let t := advanceTo s (lastBeat s + 250)
      let t := setPath t .a { t.pair.pathA with silent := true }
      let t := setPath t .b { t.pair.pathB with silent := true }
      let t := setPair t { t.pair with peerReachable := false }
      exec .peerLost s = .next (finish s (match t.pair.role with
        | .active => releaseWaits (switchCheck (pairEvent (setPair t { t.pair with degraded := true }) 1 4))
        | .standby => if t.pair.hitchIn then goIsolated t 4 else pairEvent t (roleNo t.pair.role) 4
        | .resync => goIsolated t 4
        | _ => pairEvent t (roleNo t.pair.role) 4))) ∧
    (∀ p, s.pair.paired = true → (pathOf s p).silent = false → (pathOf s (otherPath p)).up = true →
      (pathOf s (otherPath p)).silent = false →
      let t := advanceTo s ((pathOf s p).lastBeat.getD s.now + 250)
      exec (.hawserPathSilent p) s = .next (finish s (report (setPath t p { pathOf t p with silent := true }) 0x1D (pathNo p)))) ∧
    (s.pair.role = .active → s.pair.hitchOut = true → s.pair.peerReachable = false → s.pair.peerMayClaim = true →
      let t := advanceTo s (max (lastBeat s) s.pair.drivenSince + 1000)
      exec .peerMayClaimTimeout s = .next (finish s (setPair t { t.pair with peerMayClaim := false }))) ∧
    (s.pair.starting = true → s.pair.peerReachable = false → s.pair.claim = .none →
      let t := advanceTo s s.pair.startDeadline
      exec .startPeerWaitExpiry s = .next (finish s
        (if mayClaim t && t.pair.copy == .own && !t.pair.peerMayClaim then beginClaim t else goIsolated t 12))) ∧
    (∀ code tag b q at_, (fnOf s 0).held = some { code, tag, payload := b, why := .shadow q at_ } →
      let t := advanceTo s (at_ + 60)
      exec .fieldShadowTimeout s = .next (finish s (finishHeld t 0 ePeer (peerWord t 12) []))) ∧
    (∀ i, s.pair.identity = some i → s.pair.keyex = none →
      let t := advanceTo s (i.begun + 600000000)
      exec .pairBeginLapse s = .next (finish s (setPair t { t.pair with identity := none, early := none }))) ∧
    (∀ k, s.pair.keyex = some k → k.agreed = false →
      exec .pairKeyexTimeout s = .next (finish s (keyexFails (advanceTo s (k.started + Config.peerStart k.started + 10000000)) k 10))) ∧
    (acting s = true →
      let t := advanceTo s (s.pair.lastAnnounce + 10000000)
      exec .announcePeriodic s = .next (finish s (announceAll (setPair t { t.pair with lastAnnounce := t.now }) 3)))

/-- The Hitch: a Standby that sees the line released begins its claim; after 100 µs of quiet it drives the line, and after 20 µs
alone in its window it takes over; a unit that may claim no more releases the line; seat B stops and waits when the units collide, seat A claims again (R399–R402, R408). That a
timer's row moves the clock to its deadline is the model's choice (notes/assumptions/4.md). -/
def Obligations.HitchActs : Prop :=
  ∀ s, powered s = true →
    (s.pair.hitchIn = true → s.pair.claim = .none → s.pair.role = .standby →
      exec (.hitchInChange false) s =
        .next (finish s (beginClaim (setPair s { s.pair with hitchIn := false, hitchSince := s.now })))) ∧
    (∀ f, s.pair.claim = .quiet f → claimStands s = true → s.pair.hitchIn = false →
      let t := driveHitch (advanceTo s (max f s.pair.hitchSince + 100))
      exec .hitchQuietExpiry s = .next (finish s (setPair t { t.pair with claim := .window t.now }))) ∧
    (∀ f, (s.pair.claim = .quiet f ∨ s.pair.claim = .window f) → claimStands s = false →
      exec .hitchQuietExpiry s = .next (finish s (if s.pair.claim = .quiet f then releaseHitch s else s)) ∧
      exec .hitchClaimConfirmed s = .next (finish s (if s.pair.claim = .window f then releaseHitch s else s))) ∧
    (∀ f, s.pair.claim = .window f → claimStands s = true → s.pair.hitchIn = false → (takeOver (advanceTo s (f + 20))).pair.keyex = none →
      exec .hitchClaimConfirmed s = .next (finish s (takeOver (advanceTo s (f + 20))))) ∧
    (∀ u, s.pair.claim = .backoff u → s.pair.hitchIn = false →
      let t := advanceTo s u
      exec .hitchBackoffExpiry s = .next (finish s (setPair t { t.pair with claim := .quiet t.pair.hitchSince }))) ∧
    (∀ f, s.pair.claim = .window f → s.pair.hitchIn = false →
      let t := setPair s { s.pair with hitchIn := true, hitchSince := s.now, collision := true }
      exec (.hitchInChange true) s = .next (finish s (if s.pair.seat = 0 then t else backOff t))) ∧
    (s.pair.role = .active → s.pair.hitchOut = true → s.pair.hitchIn = true → s.pair.claim = .none →
      let t := advanceTo s (s.pair.hitchSince + 20)
      let t := setPair t { t.pair with collision := true }
      exec .hitchHolderCollision s = .next (finish s
        (if t.pair.seat = 0 then setPair t { t.pair with claim := .window t.now } else backOff t)))

/-! ### Updates (R436–R443) -/

/-- The activation's and the trial's events: the drain ends and the second check lets the new bank be committed or refuses it, 200
ms without an end give the activation up, the pause ends in Trial or goes back, and the trial confirms itself or fails (R436–R442).
That a timer's row moves the clock to its deadline is the model's choice (notes/assumptions/4.md). -/
def Obligations.UpdateEventsAct : Prop :=
  ∀ s, powered s = true →
    (∀ f op since, s.update.activation = .draining f op since →
      (drained s f op = true → exec .activationDrainEnd s = .next (finish s (match secondCheck s with
        | some r => endActivate (setUpdate s { s.update with activation := .none }) f op eUpdateRefused r []
        | none => pauseBegins (commitBank s) f op (changedParts s s.update.staged)))) ∧
      (drained s f op = false →
        let t := advanceTo s (since + 200000)
        exec .activationDrainTimeout s =
          .next (finish s (endActivate (setUpdate t { t.update with activation := .none }) f op eBusy 0 [])))) ∧
    (∀ f op since, stewardServes s = true → s.update.activation = .pause f op since → s.update.attempt ≠ 0 → millHolds s = false →
      exec (.activationPauseEnd true true) s = .next (finish s (pauseEnds s f op since)) ∧
      exec (.activationPauseEnd true false) s = .next (finish s (coldReset (revertBank s 2))) ∧
      ∀ m, exec (.activationPauseEnd false m) s = .next (finish s (coldReset (revertBank s 4)))) ∧
    (trialHolds s = true → max s.now (s.update.attemptStart + 30000000) < s.update.deadline →
      exec .trialConfirm s = .next (finish s (confirmBank (advanceTo s (max s.now (s.update.attemptStart + 30000000)))))) ∧
    (s.update.phase = .trial → s.update.deadline ≠ 0 →
      exec .trialDeadline s = .next (finish s (attemptFails (advanceTo s s.update.deadline))))

/-! ### Card slots (R317–R319) -/

/-- A card put into an empty slot begins its activation, while the slots have their supply and no zero-fill holds them, and the activation
ends as its ATR and PPS answers allow; removal empties the slot; overcurrent leaves it in FAULT (R317–R319, R349). That the row stands
for both ends of an activation is the model's choice (notes/assumptions/26.md). -/
def Obligations.CardEventsAct : Prop :=
  ∀ n s, n < 4 →
    (∀ c, slotsPowered s = true → s.scarecrow.zerofill = 0 →
      ((cardSlotOf s n).status = .empty → exec (.cardActivation n c) s =
        .next (finish s (setCardSlot s n { status := .activating, card := some c }))) ∧
      (∀ k, (cardSlotOf s n).status = .activating → (cardSlotOf s n).card = some k → exec (.cardActivation n c) s =
        .next (finish s (activateCard s n { k with atrC := c.atrC, atrB := c.atrB, ppsOk := c.ppsOk, modeSw := c.modeSw, links := c.links })))) ∧
    (∀ c, (slotsPowered s = false ∨ s.scarecrow.zerofill ≠ 0) → exec (.cardActivation n c) s = .next (finish s s)) ∧
    exec (.cardRemoved n) s = .next (finish s (setCardSlot s n {})) ∧
    (∀ c, (cardSlotOf s n).card = some c →
      exec (.cardOvercurrent n) s = .next (finish s (setCardSlot s n { status := .fault, card := some c })))

/-! ### The Lanyard and the TAP (R381, R383–R388) -/

/-- The Lanyard's reads: IDENTIFY, STATUS, an entry of the trace, the counters, a processor's memory and the cells of a parked
instance, each at the level of Table 13-8 (R384–R386). The Lanyard's operations on sheaf instances and processors: breakpoints,
HALT, RESUME, STEP and WRITE, at level 2 or 3 (R384–R386). Which addresses of a processor or of the register space R379 and R386
exclude is a free value (notes/assumptions/31.md). -/
def Obligations.LanyardRequestsAct : Prop :=
  (∀ r s, powered s = true → goesThrough r →
     (r.crc = requestCrc 0x0 r → r.target = 0xF → r.addr = 0 → r.count = 3 → exec (.lanyardIdentify r) s =
       .next (finish s (lnyAnswer s lnyOk [0x9144, 1, s.ident.serial % 2 ^ 32, s.ident.serial / 2 ^ 32 % 2 ^ 32]))) ∧
     (r.crc = requestCrc 0x1 r → r.target = 0xF → r.addr = 0 → r.count = 0 →
       exec (.lanyardStatus r) s = .next (finish s (lnyAnswer s lnyOk [lnyStatus s]))) ∧
     (r.crc = requestCrc 0x2 r → r.target = 0xF → r.addr < 4096 → r.count = 7 → 1 ≤ s.life.debug →
       exec (.lanyardTraceRead r) s = .next (finish s (match s.lanyard.trace[r.addr]? with
         | some e => lnyAnswer s lnyOk (e.map (· % 2 ^ 32))
         | none => lnyFree s 8))) ∧
     (r.crc = requestCrc 0x3 r → r.target = 0xF → 1 ≤ s.life.debug →
       exec (.lanyardStatsRead r) s = .next (finish s (lnyFree s (r.count + 1)))) ∧
     (∀ e x k, r.crc = requestCrc 0x9 r → r.target = 0xA → 2 ≤ s.life.debug → lnySpace r.addr ≤ 4 →
       parkedOn s (bits r.addr 11 0) = some (k, x) → x.parked = some e →
       exec (.lanyardRead r) s = .next (finish s (readParked s x e r.addr (r.count + 1)))) ∧
     (r.crc = requestCrc 0x9 r → r.target = 0xF → s.life.debug = 3 → exec (.lanyardRead r) s = .next (finish s
       (if lnyReachable r then lnyFree s (r.count + 1) else lnyAnswer s lnyDenied [])))) ∧
  (∀ r s, powered s = true → goesThrough r →
     (r.crc = requestCrc 0x4 r → r.target = 0xA → 2 ≤ s.life.debug → r.addr ∉ s.lanyard.sheafBps →
       s.lanyard.sheafBps.length < 16 → exec (.lanyardBpSet r) s = .next (finish s
         (lnyAnswer (setLanyard s { s.lanyard with sheafBps := s.lanyard.sheafBps ++ [r.addr] }) lnyOk []))) ∧
     (r.crc = requestCrc 0x5 r → r.target = 0xA → 2 ≤ s.life.debug →
       exec (.lanyardBpClear r) s = .next (finish s (lnyAnswer (setLanyard s { s.lanyard with
         sheafBps := s.lanyard.sheafBps.filter (fun b => !(r.addr == 0xFFFFFFFF) && b != r.addr) }) lnyOk []))) ∧
     (r.target ≤ 8 → s.life.debug = 3 →
       (r.crc = requestCrc 0x6 r → s.power.state ≠ .drowse → exec (.lanyardHalt r) s = .next (finish s
         (lnyAnswer (setLanyard s { s.lanyard with halted := addNew s.lanyard.halted r.target }) lnyOk []))) ∧
       (r.target ∈ s.lanyard.halted →
         (r.crc = requestCrc 0x7 r →
           exec (.lanyardResume r) s = .next (finish s (lnyAnswer (resumeProc s r.target) lnyOk []))) ∧
         (r.crc = requestCrc 0x8 r → exec (.lanyardStep r) s = .next (finish s (lnyAnswer (setLanyard s { s.lanyard with
           memory := tblDrop s.lanyard.memory (fun k _ => k / 2 ^ 32 == r.target) }) lnyOk []))) ∧
         (r.crc = requestCrc 0xA r → exec (.lanyardWrite r) s = .next (finish s (if lnyReachable r
           then lnyAnswer (setLanyard s { s.lanyard with
             memory := ((List.range r.wdata.length).zip r.wdata).foldl
               (fun m w => tblSet m (r.target * 2 ^ 32 + r.addr + w.1) (w.2 % 2 ^ 32)) s.lanyard.memory }) lnyOk []
           else lnyAnswer s lnyDenied []))))) ∧
     (∀ k x, r.target = 0xA → 2 ≤ s.life.debug → parkedOn s r.addr = some (k, x) →
       (r.crc = requestCrc 0x7 r → exec (.lanyardResume r) s = .next (finish s (lnyAnswer (unpark s k false) lnyOk []))) ∧
       (r.crc = requestCrc 0x8 r → exec (.lanyardStep r) s = .next (finish s (lnyAnswer (unpark s k true) lnyOk [])))))

/-- A request whose CRC is wrong is answered CRC; one with a reserved OP, one that the open level does not allow and one to an address
that R379 or R386 excludes DENIED, which at Closed raises DEBUG; one to a target that cannot take it yet WAIT, and one that meets a
parity error FAULT; none does anything else. High for 64 edges drops the response; a debug level ends; the TAP takes its instruction or holds reset,
and a TCK edge in Production raises DEBUG (R381, R383, R384, R387, R388). That a timer's row moves the clock to its deadline is the
model's choice (notes/assumptions/4.md). -/
def Obligations.DebugLinkGuards : Prop :=
  (∀ r s, powered s = true →
    (r.crc ≠ requestCrc 0x0 r → exec (.lanyardIdentify r) s = .next (finish s (lnyAnswer s lnyCrc []))) ∧
    (r.crc ≠ requestCrc 0xA r → exec (.lanyardWrite r) s = .next (finish s (lnyAnswer s lnyCrc []))) ∧
    (r.crc = requestCrc 0x1 r → r.reservedOp.isSome = true → exec (.lanyardStatus r) s = .next (finish s (lnyDeny s))) ∧
    (r.crc = requestCrc 0x1 r → r.reservedOp = none → r.target = 0xF → r.addr = 0 → r.count = 0 →
      (r.busy = true → exec (.lanyardStatus r) s = .next (finish s (lnyAnswer s lnyWait []))) ∧
      (r.busy = false → r.parity = true → exec (.lanyardStatus r) s = .next (finish s (lnyAnswer s lnyFault []))))) ∧
  (∀ r s, powered s = true → s.life.debug = 3 → r.crc = requestCrc 0x9 r → r.target ≠ 0xA →
    ∃ t, exec (.lanyardRead r) s = .next (finish s (if lnyReachable r then t else lnyAnswer s lnyDenied []))) ∧
  (∀ r s, powered s = true → s.life.debug = 0 →
    (r.crc = requestCrc 0x9 r → exec (.lanyardRead r) s = .next (finish s (lnyAnswer (debugReport s) lnyDenied []))) ∧
    (r.crc = requestCrc 0xA r → exec (.lanyardWrite r) s = .next (finish s (lnyAnswer (debugReport s) lnyDenied []))) ∧
    (r.crc = requestCrc 0x6 r → exec (.lanyardHalt r) s = .next (finish s (lnyAnswer (debugReport s) lnyDenied [])))) ∧
  (∀ s, exec .lanyardFramingReset s = .next (finish s (setLanyard s { s.lanyard with resp := none }))) ∧
  (∀ s, s.life.debug ≠ 0 → s.life.debugExpires ≠ 0 →
    exec .debugLevelExpiry s = .next (finish s (closeDebug (advanceTo s s.life.debugExpires)))) ∧
  (∀ op s, (s.life.lifecycle = lcBlank ∨ s.life.lifecycle = lcTest) →
    exec (.tapOperation op) s = .next (finish s (setLanyard s { s.lanyard with tap := runTap s.lanyard.tap op }))) ∧
  (∀ w op, op.reset = true → runTap w op = { w with instr := .bypass, forced := none, acTest := none, tdo := [] }) ∧
  (∀ w op, op.reset = false → (runTap w op).instr = op.instr) ∧
  (∀ op s, s.life.lifecycle ≠ lcBlank → s.life.lifecycle ≠ lcTest → exec (.tapOperation op) s = .next (finish s s)) ∧
  (∀ s, s.life.lifecycle ≠ lcBlank → s.life.lifecycle ≠ lcTest → powered s = true →
    (∀ t, s.scarecrow.lastTck = some t → t + 10000 ≤ s.now) →
    exec .tapTckInProduction s = .next (finish s (debugReport (setScarecrow s { s.scarecrow with lastTck := some s.now }))))

/-! ### Resets (R28, R54, R62–R65, R446, R456, R464) -/

/-- Bus Master Enable lets what waits go on; VF Enable brings and takes functions; a function-level reset resets its function, on
the PF every VF as well; PERST# resets every function and the link; RST_N and a due reset are cold resets; and at t0 the start runs
(R28, R54, R62–R65, R446, R464). That a timer's row moves the clock to its deadline is the model's choice (notes/assumptions/4.md).
-/
def Obligations.ResetEventsAct : Prop :=
  (∀ f s, fnReached s f = true →
    exec (.busMasterEnableChange f false) s = .next (finish s (setFn s f { fnOf s f with busMaster := false })) ∧
    exec (.busMasterEnableChange f true) s = .next (finish s (startJobs
      ((List.range 4).foldl (fun s r => flushRing s f r) (deliverJobs (setFn s f { fnOf s f with busMaster := true }) f))))) ∧
  (∀ on n s, powered s = true → exec (.vfEnableChange on n) s = .next (finish s (changeVfs s on n))) ∧
  (∀ f s, fnReached s f = true → f ≠ 0 → exec (.functionLevelReset f) s = .next (finish s (resetFn s f))) ∧
  (∀ s, fnReached s 0 = true → exec (.functionLevelReset 0) s =
    .next (finish s { (liveVfs s).foldl resetFn (resetFn s 0) with vfEnable := false })) ∧
  (∀ s, powered s = true → let t := flr s 0
    exec .perstAssert s = .next (finish s (setPower t { t.power with linkUp := false, linkWidth := 0, linkRate := 0 }))) ∧
  (∀ s, powered s = true → s.power.state ≠ .off → exec .rstNAssert s = .next (finish s (coldReset s))) ∧
  (∀ s, powered s = true → s.power.resetPending = true →
    exec .selfResetDue s = .next (finish s (coldReset (advanceTo s s.power.resetAt)))) ∧
  (∀ env s, atStart s = true → exec (.coldResetStart env) s = .next (finish s (startUp env s)))

/-! ### Power, clocks and PCIe (R27, R70, R303, R453–R460, R490) -/

/-- Rails and feeds: power arrives, each rail that is good starts the next, a rail that is late turns them off and is tried again
after a second, three times; a shed phase; feeds lost and returned; a switch that will not open (R453–R457). That a timer's row
moves the clock to its deadline is the model's choice (notes/assumptions/4.md). -/
def Obligations.RailAndFeedEventsAct : Prop :=
  (∀ s, s.power.state = .off →
    let p := { s.power with
      state := .vigil, vauxOk := true, feedAOk := true, feedBOk := true, switchA := true, switchB := true, railHold := false
      railFaults := 0 }
    let t := resumeTick s
    exec .powerArrival s = .next (finish s (startRails (setScarecrow (setPower t p) { s.scarecrow with onVbat := false }))) ∧
    (s.life.lifecycle = lcProduction → s.almanac.newEpoch = false →
      t = { s with now := s.almanac.store + 1000000, almanac := { s.almanac with timeLost := true, lowRate := true } }) ∧
    ((s.life.lifecycle = lcBlank ∨ s.life.lifecycle = lcTest) → t.now = 0)) ∧
  (∀ r s, s.power.railStarting = some r →
    let p := { s.power with railsGood := s.power.railsGood ++ [r], railStarting := nextRail r }
    let q := { s.power with railsGood := [], railStarting := none, railFaults := s.power.railFaults + 1 }
    exec (.railGood r) s = .next (finish s (if r = .vser
      then setPower (atT0 s) { p with railFaults := 0, state := .active }
      else setPower s p)) ∧
    (s.power.railFaults < 2 →
      exec (.railGoodTimeout r) s = .next (finish s (setPower s { q with retryAt := s.now + 1000000 }))) ∧
    (2 ≤ s.power.railFaults → exec (.railGoodTimeout r) s = .next (finish s (setPower s { q with
      railHold := true, retryAt := 0, railsGood := if r = .vio then [] else [.vio] })))) ∧
  (∀ s, s.power.retryAt ≠ 0 → s.power.railHold = false → powered s = false → anyFeed s = true → s.power.vauxOk = true →
    exec .railFaultRetry s = .next (finish s (startRails (advanceTo s s.power.retryAt)))) ∧
  (∀ r k p s, powered s = true → shed s.power r k = some p →
    let n := powerNo s.power.state
    let t := powerNote (powerEvent (report (setPower s p) 3 k) 3 n n k) k
    let u := if tooFewPhases p then shutdown t else t
    exec (.phaseFault r k) s = .next (finish s u) ∧ exec (.phaseImbalance r k) s = .next (finish s u)) ∧
  (∀ s, s.power.feedAOk = true → s.power.feedBOk = true → powered s = true → s.power.state ≠ .off →
    exec (.feedLost .a) s =
      .next (finish s (feedReport (setPower s { s.power with feedAOk := false, switchA := false }) (feedBits s) 1))) ∧
  (∀ s, s.power.feedAOk = false → powered s = true → s.power.state ≠ .off → exec (.feedReturn .a) s =
    .next (finish s (feedReport (setPower s { s.power with feedAOk := true, switchA := true }) (feedBits s) 1))) ∧
  (∀ s, s.power.feedBOk = false → powered s = false → s.power.state ≠ .off → anyFeed s = false → s.power.vauxOk = true →
    exec (.feedReturn .b) s = .next (finish s (startRails (setPower s { s.power with feedBOk := true, switchB := true })))) ∧
  (∀ s, s.power.feedAOk = false → powered s = true → s.power.state ≠ .off →
    let t := setPower s { s.power with feedAOk := false, switchA := false, switchFault := true }
    exec (.switchFaultRetry .a) s =
      .next (finish s (report (setMonitor t 0x1E { monitorOf t 0x1E with active := false, applied := 0 }) 0x1E 4)))

/-- Clocks, always-on supplies and PCIe: an Ethernet reference other than ETHREF0 takes its ports down and returns; ETHREF0 ends the
PLL's holdover; VAUX moves the always-on domain to VBAT and back, and without either the device is Off with its Loft lost; the PCIe
link trains to the widest and fastest choice that the partner has too, and goes down (R27, R70, R458, R460, R490). The SMBus target answers each read with its record and the PEC once VIO is
good, and stays silent before (R469, Table 16-8). -/
def Obligations.ClockSupplyAndSmbusAct : Prop :=
  ((∀ k s, k ≠ 0 → k < 4 → bit s.power.ethRef k = true →
     let t := setPower s { s.power with ethRef := s.power.ethRef - 2 ^ k }
     exec (.ethrefLoss k) s =
       .next (finish s (settleFloors (((tblKeys t.ports).filter (fun p => portRef p == k)).foldl takeDown t)))) ∧
   (∀ k s, k ≠ 0 → k < 4 → bit s.power.ethRef k = false →
     exec (.ethrefReturn k) s = .next (finish s (setPower s { s.power with ethRef := s.power.ethRef + 2 ^ k }))) ∧
   (∀ s, bit s.power.ethRef 0 = false → s.power.holdover = true →
     let t := setPower s { s.power with ethRef := s.power.ethRef + 1, holdover := false }
     let n := powerNo s.power.state
     exec (.ethrefReturn 0) s =
       .next (finish s (powerEvent { t with almanac := { t.almanac with lowRate := s.power.state == .drowse } } 4 n n 0))) ∧
   (∀ s, s.power.vauxOk = true → s.power.state ≠ .off → exec .vauxLoss s = .next (finish s
     (deactivateSlots (setScarecrow (setPower s { s.power with vauxOk := false }) { s.scarecrow with onVbat := true }) 4))) ∧
   (∀ s, s.power.vauxOk = false → s.power.state ≠ .off → powered s = true → s.scarecrow.zerofill = 0 →
     exec .vauxReturn s = .next (finish s (reactivateSlots
       (setScarecrow (setPower s { s.power with vauxOk := true }) { s.scarecrow with onVbat := false })))) ∧
   (∀ s, s.power.vauxOk = false → s.power.state ≠ .off → ∃ t, exec .alwaysOnPowerLoss s = .next (finish s t) ∧
     t.power.state = .off ∧ t.scarecrow.rootValid = false ∧ t.scarecrow.custodyValid = false ∧ t.scarecrow.vigil = [] ∧
     t.scarecrow.latched = 0 ∧ t.power.railsGood = []) ∧
   (∀ widths rates w r s, powered s = true → highestCommon widths = some w → highestCommon rates = some r →
     exec (.pcieLinkUp widths rates) s =
       .next (finish s (setPower s { s.power with linkUp := true, linkWidth := 2 ^ w, linkRate := r + 1 }))) ∧
   (∀ s, exec .pcieLinkDown s =
     .next (finish s (setPower s { s.power with linkUp := false, linkWidth := 0, linkRate := 0 })))) ∧
  (∀ row code data, (row, code, data) ∈ smbusRows → ∀ s,
     (.vio ∈ s.power.railsGood → exec row s = .next (finish s (setPower s { s.power with
       smbusAck := true
       smbus := data s ++ le 1 (pecOf ([byte (2 * smbusAddr s), byte code, byte (2 * smbusAddr s + 1)] ++ data s)) }))) ∧
     (.vio ∉ s.power.railsGood → exec row s = .next (finish s (setPower s { s.power with smbus := [], smbusAck := false }))))

/-! ### The Scarecrow and the Loft (R339–R361, R403, R478) -/

/-- The Scarecrow's events: a monitor reports, the second evaluation of a decision, a cause that clears (MOTION's clearing is
remembered for 600 s, R429) and the 10 s after it, the escalation window, fresh Loft keys, the end of the zero-fill, and the watchdog's refresh and expiry (R339–R349, R355, R403, R478).
That a timer's row moves the clock to its deadline is the model's choice (notes/assumptions/4.md). -/
def Obligations.AlarmEventsAct : Prop :=
  (∀ m v s, m < 32 → m ≠ 0x0F → powered s = true → (m = 0x1F → v ≠ 2 ∨ s.scarecrow.compat = 0) →
    exec (.monitorEvent m v) s = .next (finish s (monitorSide (report s m v) m v))) ∧
  (∀ s, powered s = true → s.scarecrow.compat ≠ 0 → exec (.monitorEvent 0x1F 2) s = .next (finish s (badCode s))) ∧
  (∀ v s, exec (.decisionSecondEvaluation v) s = .next (finish s (secondEvaluation s v))) ∧
  (∀ m s, m < 32 → (monitorOf s m).active = true →
    let t := setMonitor s m { monitorOf s m with active := false, applied := 0 }
    let t := if m = 0x14 then setScarecrow t { t.scarecrow with motion := some (t.now + 600000000) } else t
    exec (.monitorCauseCleared m) s = .next (finish s (if 2 ≤ (monitorOf s m).applied then
      setScarecrow t { t.scarecrow with throttled := true, throttleEnd := t.now + 10000000 } else t))) ∧
  (∀ s, s.scarecrow.throttled = true → causesLevel s < 2 →
    let t := advanceTo s s.scarecrow.throttleEnd
    exec .throttleEnd s = .next (finish s (setScarecrow t { t.scarecrow with throttled := false }))) ∧
  (∀ m first rest s, (monitorOf s m).recent = first :: rest →
    let t := advanceTo s first
    exec (.escalationWindowEnd m) s = .next (finish s (setMonitor t m { monitorOf t m with
      recent := (monitorOf t m).recent.filter (fun u => t.now < u) }))) ∧
  (∀ s, s.scarecrow.reload ≠ 0 → powered s = true → exec .loftKeyReload s = .next (finish s (setScarecrow (draw s)
    { s.scarecrow with custodyValid := true, rootValid := s.scarecrow.rootValid || s.scarecrow.reload == 5, reload := 0 }))) ∧
  (∀ s, s.scarecrow.zerofill ≠ 0 → s.scarecrow.zerofillEnd ≠ 0 → s.scarecrow.reload = 0 → powered s = true →
    let t := reactivateSlots (setScarecrow s { s.scarecrow with zerofill := 0, zerofillEnd := 0 })
    exec .zerofillDone s = .next (finish s (if t.update.resetAfterFill then coldReset t else t))) ∧
  (∀ s, s.scarecrow.wdogArmed = true → stewardWorks s = true →
    let t := advanceTo s (s.scarecrow.lastRefresh + 100)
    exec .watchdogRefresh s = .next (finish s (setScarecrow t { t.scarecrow with lastRefresh := t.now }))) ∧
  (∀ s, s.scarecrow.wdogArmed = true → powered s = true → 0 ∉ s.lanyard.halted →
    let t := releaseHitch (advanceTo s (s.scarecrow.lastRefresh + 1000))
    let t := setScarecrow (setPair t { t.pair with driven := 0 }) { t.scarecrow with wdogArmed := false, wdogFired := true }
    let t := logWatchdog t
    exec .watchdogExpiry s = .next (finish s (setPower t { t.power with resetPending := true, resetAt := t.now + 10000 })))

/-- In Vigil a monitor that samples there, of whatever level, reports its event, which is decided as every event is: MOTION is remembered
and VIGIL_COLD leaves TIME_LOST (R355–R357, R360, R459). As its decision is carried out the event is counted; one at level 4 or 5 erases
the Loft custody key, at 5 the root key too, and latches its level (R360, R361). -/
def Obligations.VigilEventsAct : Prop :=
  (∀ m v s, m < 32 → s.power.state = .vigil → monitorVigil m = true →
    let t := if m = 0x14 then setScarecrow s { s.scarecrow with motion := some (s.now + 600000000) } else s
    let u := if m = 0x0A then { t with almanac := { t.almanac with timeLost := true } } else t
    exec (.vigilMonitorEvent m v) s =
      .next (finish s (if m = 0x1F ∧ v = 2 ∧ s.scarecrow.compat ≠ 0 then badCode u else report u m v))) ∧
  (∀ x d s, s.power.state = .vigil → nextEvaluated s.scarecrow.decisions = some d → levelsCapped s = false →
    let l := min d.cap (max d.level (min 5 x))
    let t := secondEvaluation s x
    exec (.decisionSecondEvaluation x) s = .next (finish s t) ∧ t.scarecrow.count = sat32 (s.scarecrow.count + 1) ∧
    (4 ≤ l → t.scarecrow.custodyValid = false ∧ l ≤ t.scarecrow.latched) ∧ (l = 5 → t.scarecrow.rootValid = false))

/-! ### Faults and the Granary (R201, R283–R285, R476, R480, R481) -/

/-- Tests and faults: a latent test that fails takes what it covers out of service and raises its monitor, one that passes changes
nothing; a withdrawn unit returns or is retired; a stalled key bus is fenced and returns; and a scrub pass acts on its findings. -/
def Obligations.FaultEventsAct : Prop :=
  (∀ c u s, powered s = true → exec (.latentTestDue c u false) s = .next (finish s (startJobs (testFails s c u)))) ∧
  (∀ c u s, exec (.latentTestDue c u true) s = .next (finish s s)) ∧
  (∀ u w s, powered s = true → s.withdrawals.find? (fun v => v.unit == u) = some w → w.out = true → w.retired = false →
    testable s u = true →
    exec (.withdrawalTestDone u true) s = .next (finish s (startJobs (returnUnit s u))) ∧
    exec (.withdrawalTestDone u false) s = .next (finish s (startJobs (retireUnit s w)))) ∧
  (∀ p s, powered s = true → exec (.keyBusStall p) s = .next (finish s (startJobs (fencePort s p)))) ∧
  (∀ p s, powered s = true → isFenced s p = true →
    exec (.keyPortRetestDone p true) s = .next (finish s (startJobs (unfencePort s p)))) ∧
  (∀ p s, exec (.keyPortRetestDone p false) s = .next (finish s s)) ∧
  (∀ l s, powered s = true → exec (.scrubPass l) s = .next (finish s (l.foldl scrubbed s)))

/-- Commits, deferred operations, session times and the tick: a slot write takes effect and answers, an operation ends with its
record or after 120 s with E_TIMEOUT, sessions lapse, the tick is stored in Production while the PLLs run, and the crystal is
measured on the PLL, its ratio being the mean of all measurements (that mean is the model's choice, notes/assumptions/70.md) (R41, R44, R64, R152, R303, R307, R486). That a timer's row moves the clock to its deadline is the model's choice
(notes/assumptions/4.md). -/
def Obligations.OperationEventsAct : Prop :=
  (∀ i w s, s.writes.find? (fun w => w.index == i) = some w →
    let t := { s with writes := s.writes.filter (fun v => v.index != i) }
    let t := endWrite (applyWrite t w) w sOk 0 w.reply
    exec (.keySlotCommit i) s = .next (finish s (startJobs (advanceOn ((heldOrder t).foldl (retryHeld i) t) i)))) ∧
  (∀ f n o s, opOf s f n = some o → stewardWorks s = true →
    exec (.deferredOpEnd f n) s = .next (finish s (startJobs (finishOp s f o)))) ∧
  (∀ f n o s, opOf s f n = some o → stewardWorks s = true → pastDrain s o = false →
    exec (.deferredOpTimeout f n) s =
      .next (finish s (endOp (stopOp (advanceTo s (o.started + 120000000)) f o) f o eTimeout 0 []))) ∧
  (∀ f i x s, sessionAt s f i = some x → powered s = true → x.auth = false →
    exec (.sessionAuthTimeout f i) s = .next (finish s (closeSession (advanceTo s x.expires) f x))) ∧
  (∀ f i x s, sessionAt s f i = some x → powered s = true → x.auth = true → sessionBusy s f (sessionId f x) = false →
    exec (.sessionIdleTimeout f i) s = .next (finish s (closeSession (advanceTo s (x.lastUse + 1000000 * x.idleS)) f x))) ∧
  (∀ s, s.power.state = .active → s.almanac.lowRate = false → s.life.lifecycle = lcProduction →
    exec .almanacStore s = .next (finish s { s with almanac := { s.almanac with store := s.now } })) ∧
  (∀ s, (s.life.lifecycle ≠ lcProduction ∨ s.power.state ≠ .active) → exec .almanacStore s = .next (finish s s)) ∧
  (∀ ppb s, s.power.state = .active → s.almanac.lowRate = false →
    let sum := s.almanac.crystalSum + ppb
    let n : Nat := s.almanac.crystalCount + 1
    exec (.crystalCalibration ppb) s =
      .next (finish s { s with almanac := { s.almanac with crystalSum := sum, crystalCount := n, crystalPpb := sum / (n : Int) } }))

/-! ### Steps and commands -/

/-- A step runs the command at the front of the queue on the state with the queue's rest. With none there it takes a mailbox command that
waited for the Steward (R386); with none of either a microsecond passes, step 11 of the start being reached with the first (R446), and in Drowse and Vigil a period of the 32.768 kHz crystal, corrected by its measured ratio, in whole microseconds with the
rest carried on (R302; that an idle step is what passes time is the model's choice, notes/assumptions/1.md). -/
def Obligations.StepRunsFrontCommand : Prop :=
  (∀ c rest s, s.pending = c :: rest → step s = exec c { s with pending := rest }) ∧
  (∀ f s, s.pending = [] → waitingGo s = some f → stewardWorks s = true → step s = takeGo s f) ∧
  (∀ s, s.pending = [] → (waitingGo s = none ∨ stewardWorks s = false) → s.power.state ≠ .drowse → s.power.state ≠ .vigil →
    step s = .next (pass (captureStarts s) 1)) ∧
  (∀ s, s.pending = [] → (waitingGo s = none ∨ stewardWorks s = false) → (s.power.state = .drowse ∨ s.power.state = .vigil) →
    let p : Int := 30517578125
    let n := ((s.almanac.crystalFrac : Int) + p + p * s.almanac.crystalPpb / 1000000000).toNat
    step s = .next (pass { s with almanac := { s.almanac with crystalFrac := n % 1000000000 } } (n / 1000000000)))

/-- Every command, in every state, ends in a next state: none stops the block, and none is refused. -/
def Obligations.EveryCommandCompletes : Prop := ∀ c s, ∃ t, exec c s = .next t

/-- In every step, whatever the command, a change of DEVICE_STATUS leaves the PF's NOTICE cause set (Table 2-5). -/
def Obligations.NoticeFollowsStatus : Prop :=
  ∀ s t, step s = .next t → deviceStatus t ≠ deviceStatus s → (fnOf t 0).notice = true

/-! ### R38 -/

/-- What a command that fails step 1, 2, 4 or 5 of R38 leaves: its response in its own mailbox, and no Ledger entry (R511); GO on a
mailbox that is not IDLE sets REJECTED_GO alone (R39); and nothing reaches a mailbox without power. For every mailbox row. -/
def Obligations.RejectedCommandsOnlyAnswer : Prop :=
  ∀ i c q s, specOf i = some (c, q) →
    (∀ st d, stewardTakes s q.fn = true → headerCheck c q s = some (st, d) →
      exec i s = .next (finish s (respond s c.code q.fn q.tag st d []))) ∧
    (stewardWorks s = true → fnExists s q.fn = true → (fnOf s q.fn).state ≠ .idle →
      exec i s = .next (finish s (setFn s q.fn { fnOf s q.fn with rejectedGo := true }))) ∧
    (powered s = false → exec i s = .next (finish s s))

/-- Steps 1 to 9 of R38 in their order, for every mailbox row: each status with its DETAIL where the check is the first that fails.
-/
def Obligations.MailboxChecksFollowOrder : Prop :=
  ∀ i c q s, specOf i = some (c, q) → stewardTakes s q.fn = true →
    (q.flags ≠ 0 → q.flags ≠ c.flags → exec i s = .next (finish s (respond s c.code q.fn q.tag eFormat 2 []))) ∧
    ((q.flags = 0 ∨ q.flags = c.flags) → allZero q.rsv = false →
      ∃ d, exec i s = .next (finish s (respond s c.code q.fn q.tag eFormat d []))) ∧
    ((q.flags = 0 ∨ q.flags = c.flags) → allZero q.rsv = true →
      (4064 < q.len → exec i s = .next (finish s (respond s c.code q.fn q.tag eLength 8 []))) ∧
      (q.len ≤ 4064 →
        (c.pf = true → q.fn ≠ 0 → exec i s = .next (finish s (respond s c.code q.fn q.tag eDenied 0 []))) ∧
        ((c.pf = false ∨ q.fn = 0) → c.access ≠ .n → sessionAuthed s q.fn q.session = false →
          exec i s = .next (finish s (respond s c.code q.fn q.tag eAuth 0 []))) ∧
        ((c.pf = false ∨ q.fn = 0) → (c.access = .n ∨ sessionAuthed s q.fn q.session = true) →
          let u := if c.access = .n then s else touchSession s q.fn q.session
          (purged u = true → c.inPurge = false → exec i s = .next (finish s (decline c q u ePurged 0))) ∧
          (frozen u = true → c.inFreeze q = false → exec i s = .next (finish s (decline c q u eFrozen (alarmLevel u)))) ∧
          (∀ st d, modeCheck c q u = some (st, d) → exec i s = .next (finish s (decline c q u st d))) ∧
          (modeCheck c q u = none → isGuarded u c q = true → (∀ a ∈ u.approvals, covers u c.code q a = false) →
            exec i s = .next (finish s (decline c q u eGuarded 0))))))

/-- A command that only reads changes nothing but the windows of functions, and of those only its own, in a state in which nothing
else is under way; whether it succeeds or fails. A COUNTER_READ that R405 holds back and a command for a halted Steward wait (R386). -/
def Obligations.ReadCommandsChangeOnlyTheirWindow : Prop :=
  ∀ c i, (c, i) ∈ readRows → ∀ q s, quiet s → stewardServes s = true →
    (c.code = 0x0110 → beyondAcked s (fld q 0 4) (counterValue s (fld q 0 4)) = false) → ∃ w, exec (i q) s = .next { s with fns := w } ∧
    ∀ f, f ≠ q.fn → tblGet w f {} = fnOf s f

/-- What a response changes, and what follows an effect: the response of a command touches its own function's window and the Ledger
alone, and the Ledger only where R511 lists the command; where nothing else is under way and no archive key's counter has moved, an
effect that leaves DEVICE_STATUS as it was is all that happens, and one that changes it touches the PF's window beside it (R37, R511, Table 2-5). -/
def Obligations.ResponsesFrame : Prop :=
  (∀ c q s b, answer c q s b = { s with fns := (answer c q s b).fns, ledger := (answer c q s b).ledger }) ∧
  (∀ c q s st d, decline c q s st d = { s with fns := (decline c q s st d).fns, ledger := (decline c q s st d).ledger }) ∧
  (∀ c q s b, isLogged c.code = false → (answer c q s b).ledger = s.ledger) ∧
  (∀ c q s b f, f ≠ q.fn → fnOf (answer c q s b) f = fnOf s f) ∧
  (∀ s t, quiet t → (∀ e ∈ t.strands, archiveCount s (strandOf t e.1) = archiveCount t (strandOf t e.1)) →
    (deviceStatus t = deviceStatus s → finish s t = t) ∧
    (deviceStatus t ≠ deviceStatus s → finish s t = { t with fns := (finish s t).fns } ∧
      ∀ f, f ≠ 0 → fnOf (finish s t) f = fnOf t f))

/-! ### Reset and status -/

/-- Right after reset: nothing waits, the mailboxes and capture ports are not ready, every mailbox reads NOT_READY, the Steward
holds the Hatch lock as INTERNAL with tag 0xFFFF, twin computation is on, m is 1, no alarm is latched and the Ledger is empty (R19,
R40, R181, R309, R330). -/
def Obligations.ResetState : Prop :=
  State.reset.pending = [] ∧ State.reset.update.mbxReady = false ∧ State.reset.update.captureReady = false ∧
  (∀ f, (fnOf State.reset f).state = .notReady) ∧
  (State.reset.hatch.held = true ∧ State.reset.hatch.internal = true ∧ State.reset.hatch.tag = 0xFFFF) ∧
  State.reset.twin = true ∧ State.reset.quorumM = 1 ∧ State.reset.scarecrow.latched = 0 ∧ State.reset.ledger.seq = 0 ∧
  State.reset.ledger.entries = []

/-- DEVICE_STATUS, field by field (R33, Table 2-3). -/
def Obligations.DeviceStatusFields : Prop :=
  ∀ s, bits (deviceStatus s) 1 0 = s.life.lifecycle % 4 ∧ bit (deviceStatus s) 2 = s.life.purged ∧
    bits (deviceStatus s) 4 3 = powerNo s.power.state ∧ bits (deviceStatus s) 7 5 = roleNo s.pair.role ∧
    bits (deviceStatus s) 9 8 = phaseNo s.update.phase ∧ bits (deviceStatus s) 11 10 = s.life.debug % 4 ∧
    bits (deviceStatus s) 13 12 = s.scarecrow.compat % 4 ∧ bits (deviceStatus s) 16 14 = alarmLevel s % 8 ∧
    bits (deviceStatus s) 17 17 = s.pair.seat % 2 ∧ bits (deviceStatus s) 18 18 = s.update.bank % 2 ∧
    bit (deviceStatus s) 19 = s.update.mbxReady ∧ bit (deviceStatus s) 20 = s.update.captureReady ∧
    bits (deviceStatus s) 31 21 = 0

/-- The life-cycle state that the start reads from the fuse rows (R368): a start takes the state of the rows whatever it was before;
three rows with one pattern of Table 13-1 read as its state, and any others as End of life. -/
def Obligations.LifecycleReadFromFuses : Prop :=
  (∀ env s, atStart s = true → exec (.coldResetStart env) s =
    .next (finish s (startUp env { s with life := { s.life with lifecycle := lifecycleOf s.life.rows } }))) ∧
  lifecycleOf [0x00, 0x00, 0x00] = lcBlank ∧ lifecycleOf [0x0F, 0x0F, 0x0F] = lcTest ∧
  lifecycleOf [0x3F, 0x3F, 0x3F] = lcProduction ∧ lifecycleOf [0xFF, 0xFF, 0xFF] = lcEndOfLife ∧
  (∀ a b c, ¬(a = b ∧ b = c) → lifecycleOf [a, b, c] = lcEndOfLife) ∧
  (∀ a, a ∉ [0x00, 0x0F, 0x3F, 0xFF] → lifecycleOf [a, a, a] = lcEndOfLife)

/-! ### The Ledger and THAW -/

/-- A Ledger entry (R309): the next SEQ, 128 bytes laid out as in Table 10-7, PREV the digest of the entry before it, and at most
16,384 entries kept; the first SEQ after reset is 1. -/
def Obligations.LedgerEntriesChain : Prop :=
  State.reset.ledger.seq = 0 ∧
  (∀ e : LedgerEntry, (ledgerBytes e).length = 128 ∧
    rd (ledgerBytes e) 0 8 = e.seq % 2 ^ 64 ∧ rd (ledgerBytes e) 8 8 = e.tick % 2 ^ 64 ∧ rd (ledgerBytes e) 16 2 = e.type % 2 ^ 16 ∧
    rd (ledgerBytes e) 18 1 = e.source % 256 ∧ rd (ledgerBytes e) 19 1 = e.client % 256 ∧ rd (ledgerBytes e) 20 4 = e.tag % 2 ^ 32 ∧
    rd (ledgerBytes e) 24 2 = e.status % 2 ^ 16 ∧ slice (ledgerBytes e) 26 2 = zeros 2 ∧
    rd (ledgerBytes e) 28 4 = e.detail % 2 ^ 32 ∧ slice (ledgerBytes e) 32 64 = fit 64 e.data ∧
    slice (ledgerBytes e) 96 32 = fit 32 e.prev) ∧
  (∀ s type source client tag status detail data,
    let t := ledger s type source client tag status detail data
    t.ledger.seq = s.ledger.seq + 1 ∧ t.ledger.entries.length ≤ 16384 ∧
    t = { s with ledger := t.ledger } ∧
    ∃ e, t.ledger.entries.getLast? = some e ∧ e.seq = s.ledger.seq + 1 ∧ e.tick = s.now ∧ e.type = type ∧ e.source = source ∧
      e.client = client ∧ e.tag = tag ∧ e.status = status ∧ e.detail = detail ∧ e.data = fit 64 data ∧
      (s.ledger.entries = [] → e.prev = zeros 32) ∧
      (∀ p, s.ledger.entries.getLast? = some p → e.prev = sha3 (ledgerBytes p)) ∧
      (∀ n, n + 1 < t.ledger.entries.length →
        t.ledger.entries[n]? = s.ledger.entries[n + (s.ledger.entries.length + 1 - t.ledger.entries.length)]?))

/-- THAW (R354): a latched level 3 or 4 is cleared when no monitor configured at level 3 or above has its cause present, in Series-7
at once and elsewhere where its two evaluations agree; the level in force falls to that of the causes still present, ALARM_LATCH_SRC
is cleared, strands return as Table 4-12 gives, and nothing else comes back. Else it returns E_STATE with the lowest such monitor, and
nothing changes; while the device is Purged it returns E_PURGED. -/
def Obligations.ThawNeedsClearCauses : Prop :=
  (∀ q s s₀, admitted specThaw q s = some s₀ → wellFormed q 0 [] → (s₀.scarecrow.latched = 3 ∨ s₀.scarecrow.latched = 4) →
    ((∀ m < 32, 3 ≤ (monitorOf s₀ m).level → (monitorOf s₀ m).active = false) →
      (s₀.scarecrow.compat = 1 ∨ Config.thawDisagrees s₀.rng = false) →
      let t := setScarecrow s₀ { s₀.scarecrow with latched := 0, latchSrc := 0 }
      exec (.thaw q) s = .next (finish s (answer specThaw q
        (startJobs ((strandIds t).foldl releaseWaiting ((strandIds t).foldl thawStrand t))) [])) ∧
      alarmLevel t = (if levelsCapped s₀ then min (causesLevel s₀) 1 else causesLevel s₀)) ∧
    (∀ m < 32, 3 ≤ (monitorOf s₀ m).level → (monitorOf s₀ m).active = true →
      (∀ k < m, 3 ≤ (monitorOf s₀ k).level → (monitorOf s₀ k).active = false) →
      exec (.thaw q) s = .next (finish s (decline specThaw q s₀ eState m)))) ∧
  (∀ q s, stewardTakes s q.fn = true → headerCheck specThaw q s = none → purged s = true →
    exec (.thaw q) s = .next (finish s (decline specThaw q (touchSession s q.fn q.session) ePurged 0)))
end

