-- ==== Sys2Proof/Laws/Mailbox.lean ====
section
/-! SUPPORT. Laws of the mailbox: what a command does once R38 has admitted it, what a rejected one leaves, and what the mailbox
does with each kind of reply. -/

namespace Sys2Proof.Machine

/-- The Steward takes the command: it works, and the function's mailbox exists and is IDLE. -/
theorem goMbx_taken {c : CmdSpec} {body : MbxReq → State → Reply} {q : MbxReq} {s : State} (h : stewardTakes s q.fn = true) :
    goMbx c body q s = runIdle c body q s := by
  simp only [stewardTakes, stewardWorks, Bool.and_eq_true, beq_iff_eq] at h
  simp [goMbx, h]

/-- An admitted command runs its own checks and effect, and the mailbox does with its reply what R37, R41 and R39 say. -/
theorem goMbx_admitted {c : CmdSpec} {body : MbxReq → State → Reply} {q : MbxReq} {s s₀ : State}
    (h : admitted c q s = some s₀) : goMbx c body q s = settleReply c q (body q s₀) := by
  unfold admitted at h
  split at h
  · cases h
  · rename_i h1
    simp only [Bool.or_eq_true, Bool.not_eq_true', not_or, Bool.not_eq_false, Bool.not_eq_true, Option.isSome_eq_false_iff,
      Option.isNone_iff_eq_none] at h1
    rw [goMbx_taken h1.1, runIdle, h1.2]
    simp only [runChecked] at h ⊢
    generalize (if c.access == .n then s else touchSession s q.fn q.session) = s₁ at h ⊢
    cases hm : modeCheck c q s₁ with
    | some r => simp [hm] at h
    | none =>
      simp only [hm, Option.isSome_none, Bool.false_eq_true, if_false] at h
      split at h
      · cases ha : coveringApproval s₁ c.code q with
        | none => simp [ha] at h
        | some a => simp_all
      · simp_all

/-- The same of the outcome: what follows every effect comes after it. -/
theorem runMbx_admitted {c : CmdSpec} {body : MbxReq → State → Reply} {q : MbxReq} {s s₀ : State}
    (h : admitted c q s = some s₀) : runMbx c body q s = .next (finish s (settleReply c q (body q s₀))) := by
  unfold runMbx done; rw [goMbx_admitted h]

/-- A payload in its format goes on to the command's own checks. -/
theorem withFormat_ok {q : MbxReq} {n : Nat} {rs : List (Nat × Nat)} {s : State} {k : Reply} (h : wellFormed q n rs) :
    withFormat q n rs s k = k := by
  unfold withFormat; rw [h]

/-- A command that is not deferred and succeeds answers. -/
theorem settleReply_accept {c : CmdSpec} {q : MbxReq} {s : State} {b : Bytes} (h : c.deferred = false) :
    settleReply c q (accept s b) = answer c q s b := by
  simp [settleReply, answer, h]

/-- A command that fails, deferred or not, answers its STATUS. -/
theorem settleReply_reject {c : CmdSpec} {q : MbxReq} {s : State} {st d : Nat} (h : st ≠ sOk) :
    settleReply c q (reject s st d) = decline c q s st d := by
  simp [settleReply, decline, h]

/-- A deferred command that succeeds starts, with what its DMA brings and how its exchange with a card goes. -/
theorem settleReply_begins {c : CmdSpec} {q : MbxReq} {s : State} {f : Option Bytes} {l : CardLink} (h : c.deferred = true) :
    settleReply c q { st := s, file := f, link := l } = begins c q s f l := by
  simp [settleReply, begins, h, startDeferred]

/-- A command that waits holds its mailbox. -/
theorem settleReply_waits {c : CmdSpec} {q : MbxReq} {s : State} {w : HeldFor} :
    settleReply c q { st := s, hold := some w } = waitsFor c q s w := rfl

end Sys2Proof.Machine
end

