-- ==== Sys2Proof/Laws/State.lean ====
section
/-! SUPPORT. Laws of the state's updates: what each leaves as it was, and that a part reads as it was last written. -/

namespace Sys2Proof.Machine

/-! ### Tables -/

@[simp] theorem tblFind_nil {α : Type} (k : Nat) : tblFind ([] : Tbl α) k = none := rfl

@[simp] theorem tblFind_set_same {α : Type} (t : Tbl α) (k : Nat) (v : α) : tblFind (tblSet t k v) k = some v := by
  induction t with
  | nil => simp [tblSet, tblFind]
  | cons e r ih => obtain ⟨j, w⟩ := e; unfold tblSet; split_ifs <;> simp_all [tblFind]

theorem tblFind_set_other {α : Type} (t : Tbl α) {k j : Nat} (v : α) (h : j ≠ k) : tblFind (tblSet t k v) j = tblFind t j := by
  induction t with
  | nil => simp [tblSet, tblFind, Ne.symm h]
  | cons e r ih =>
    obtain ⟨i, w⟩ := e
    unfold tblSet
    split_ifs with h1 h2
    · subst h1; simp [tblFind, Ne.symm h]
    · simp [tblFind, Ne.symm h]
    · simp only [tblFind, ih]

@[simp] theorem tblGet_set_same {α : Type} (t : Tbl α) (k : Nat) (v d : α) : tblGet (tblSet t k v) k d = v := by simp [tblGet]

theorem tblGet_set_other {α : Type} (t : Tbl α) {k j : Nat} (v d : α) (h : j ≠ k) : tblGet (tblSet t k v) j d = tblGet t j d := by
  simp [tblGet, tblFind_set_other t v h]

theorem tblFind_del_same {α : Type} (t : Tbl α) (k : Nat) : tblFind (tblDel t k) k = none := by
  induction t with
  | nil => rfl
  | cons e r ih =>
    obtain ⟨j, w⟩ := e
    by_cases h : j = k
    · simpa [tblDel, h] using ih
    · simpa [tblDel, tblFind, h] using ih

theorem tblFind_del_other {α : Type} (t : Tbl α) {k j : Nat} (h : j ≠ k) : tblFind (tblDel t k) j = tblFind t j := by
  induction t with
  | nil => rfl
  | cons e r ih =>
    obtain ⟨i, w⟩ := e
    by_cases h1 : i = k
    · subst h1; simpa [tblDel, tblFind, Ne.symm h] using ih
    · by_cases h2 : i = j
      · subst h2; simp [tblDel, tblFind, h]
      · simpa [tblDel, tblFind, h1, h2] using ih

/-! ### Parts read as they were last written -/

@[simp] theorem fnOf_setFn_same (s : State) (k : Nat) (w : Fn) : fnOf (setFn s k w) k = w := tblGet_set_same _ _ _ _

theorem fnOf_setFn_other (s : State) {k j : Nat} (w : Fn) (h : j ≠ k) : fnOf (setFn s k w) j = fnOf s j := tblGet_set_other _ _ _ h

@[simp] theorem clientOf_setClient_same (s : State) (k : Nat) (w : Client) : clientOf (setClient s k w) k = w := tblGet_set_same _ _ _ _

theorem clientOf_setClient_other (s : State) {k j : Nat} (w : Client) (h : j ≠ k) : clientOf (setClient s k w) j = clientOf s j := tblGet_set_other _ _ _ h

@[simp] theorem floorOf_setFloor_same (s : State) (k : Nat) (w : Floor) : floorOf (setFloor s k w) k = w := tblGet_set_same _ _ _ _

theorem floorOf_setFloor_other (s : State) {k j : Nat} (w : Floor) (h : j ≠ k) : floorOf (setFloor s k w) j = floorOf s j := tblGet_set_other _ _ _ h

@[simp] theorem stoneOf_setStone_same (s : State) (k : Nat) (w : Stone) : stoneOf (setStone s k w) k = w := tblGet_set_same _ _ _ _

theorem stoneOf_setStone_other (s : State) {k j : Nat} (w : Stone) (h : j ≠ k) : stoneOf (setStone s k w) j = stoneOf s j := tblGet_set_other _ _ _ h

@[simp] theorem portOf_setPort_same (s : State) (k : Nat) (w : Port) : portOf (setPort s k w) k = w := tblGet_set_same _ _ _ _

theorem portOf_setPort_other (s : State) {k j : Nat} (w : Port) (h : j ≠ k) : portOf (setPort s k w) j = portOf s j := tblGet_set_other _ _ _ h

@[simp] theorem strandOf_setStrand_same (s : State) (k : Nat) (w : Strand) : strandOf (setStrand s k w) k = w := tblGet_set_same _ _ _ _

theorem strandOf_setStrand_other (s : State) {k j : Nat} (w : Strand) (h : j ≠ k) : strandOf (setStrand s k w) j = strandOf s j := tblGet_set_other _ _ _ h

@[simp] theorem monitorOf_setMonitor_same (s : State) (k : Nat) (w : Monitor) : monitorOf (setMonitor s k w) k = w := tblGet_set_same _ _ _ _

theorem monitorOf_setMonitor_other (s : State) {k j : Nat} (w : Monitor) (h : j ≠ k) : monitorOf (setMonitor s k w) j = monitorOf s j := tblGet_set_other _ _ _ h

@[simp] theorem cardSlotOf_setCardSlot_same (s : State) (k : Nat) (w : CardSlot) : cardSlotOf (setCardSlot s k w) k = w := tblGet_set_same _ _ _ _

theorem cardSlotOf_setCardSlot_other (s : State) {k j : Nat} (w : CardSlot) (h : j ≠ k) : cardSlotOf (setCardSlot s k w) j = cardSlotOf s j := tblGet_set_other _ _ _ h

/-! ### Every other field is as it was -/

@[simp] theorem setFn_pending (s : State) (f : Nat) (w : Fn) : (setFn s f w).pending = s.pending := rfl
@[simp] theorem setFn_now (s : State) (f : Nat) (w : Fn) : (setFn s f w).now = s.now := rfl
@[simp] theorem setFn_rng (s : State) (f : Nat) (w : Fn) : (setFn s f w).rng = s.rng := rfl
@[simp] theorem setFn_ident (s : State) (f : Nat) (w : Fn) : (setFn s f w).ident = s.ident := rfl
@[simp] theorem setFn_vfEnable (s : State) (f : Nat) (w : Fn) : (setFn s f w).vfEnable = s.vfEnable := rfl
@[simp] theorem setFn_numVfs (s : State) (f : Nat) (w : Fn) : (setFn s f w).numVfs = s.numVfs := rfl
@[simp] theorem setFn_clients (s : State) (f : Nat) (w : Fn) : (setFn s f w).clients = s.clients := rfl
@[simp] theorem setFn_hostWrites (s : State) (f : Nat) (w : Fn) : (setFn s f w).hostWrites = s.hostWrites := rfl
@[simp] theorem setFn_hostReads (s : State) (f : Nat) (w : Fn) : (setFn s f w).hostReads = s.hostReads := rfl
@[simp] theorem setFn_keys (s : State) (f : Nat) (w : Fn) : (setFn s f w).keys = s.keys := rfl
@[simp] theorem setFn_wear (s : State) (f : Nat) (w : Fn) : (setFn s f w).wear = s.wear := rfl
@[simp] theorem setFn_writes (s : State) (f : Nat) (w : Fn) : (setFn s f w).writes = s.writes := rfl
@[simp] theorem setFn_counters (s : State) (f : Nat) (w : Fn) : (setFn s f w).counters = s.counters := rfl
@[simp] theorem setFn_counterBase (s : State) (f : Nat) (w : Fn) : (setFn s f w).counterBase = s.counterBase := rfl
@[simp] theorem setFn_almanac (s : State) (f : Nat) (w : Fn) : (setFn s f w).almanac = s.almanac := rfl
@[simp] theorem setFn_ledger (s : State) (f : Nat) (w : Fn) : (setFn s f w).ledger = s.ledger := rfl
@[simp] theorem setFn_jobs (s : State) (f : Nat) (w : Fn) : (setFn s f w).jobs = s.jobs := rfl
@[simp] theorem setFn_jobNo (s : State) (f : Nat) (w : Fn) : (setFn s f w).jobNo = s.jobNo := rfl
@[simp] theorem setFn_turnNo (s : State) (f : Nat) (w : Fn) : (setFn s f w).turnNo = s.turnNo := rfl
@[simp] theorem setFn_contexts (s : State) (f : Nat) (w : Fn) : (setFn s f w).contexts = s.contexts := rfl
@[simp] theorem setFn_twin (s : State) (f : Nat) (w : Fn) : (setFn s f w).twin = s.twin := rfl
@[simp] theorem setFn_floors (s : State) (f : Nat) (w : Fn) : (setFn s f w).floors = s.floors := rfl
@[simp] theorem setFn_stones (s : State) (f : Nat) (w : Fn) : (setFn s f w).stones = s.stones := rfl
@[simp] theorem setFn_groupFences (s : State) (f : Nat) (w : Fn) : (setFn s f w).groupFences = s.groupFences := rfl
@[simp] theorem setFn_curves (s : State) (f : Nat) (w : Fn) : (setFn s f w).curves = s.curves := rfl
@[simp] theorem setFn_hatch (s : State) (f : Nat) (w : Fn) : (setFn s f w).hatch = s.hatch := rfl
@[simp] theorem setFn_flail (s : State) (f : Nat) (w : Fn) : (setFn s f w).flail = s.flail := rfl
@[simp] theorem setFn_ports (s : State) (f : Nat) (w : Fn) : (setFn s f w).ports = s.ports := rfl
@[simp] theorem setFn_strands (s : State) (f : Nat) (w : Fn) : (setFn s f w).strands = s.strands := rfl
@[simp] theorem setFn_durable (s : State) (f : Nat) (w : Fn) : (setFn s f w).durable = s.durable := rfl
@[simp] theorem setFn_subs (s : State) (f : Nat) (w : Fn) : (setFn s f w).subs = s.subs := rfl
@[simp] theorem setFn_sealKeys (s : State) (f : Nat) (w : Fn) : (setFn s f w).sealKeys = s.sealKeys := rfl
@[simp] theorem setFn_sealIdle (s : State) (f : Nat) (w : Fn) : (setFn s f w).sealIdle = s.sealIdle := rfl
@[simp] theorem setFn_scannerCas (s : State) (f : Nat) (w : Fn) : (setFn s f w).scannerCas = s.scannerCas := rfl
@[simp] theorem setFn_scannerDenied (s : State) (f : Nat) (w : Fn) : (setFn s f w).scannerDenied = s.scannerDenied := rfl
@[simp] theorem setFn_trust (s : State) (f : Nat) (w : Fn) : (setFn s f w).trust = s.trust := rfl
@[simp] theorem setFn_trustNo (s : State) (f : Nat) (w : Fn) : (setFn s f w).trustNo = s.trustNo := rfl
@[simp] theorem setFn_policies (s : State) (f : Nat) (w : Fn) : (setFn s f w).policies = s.policies := rfl
@[simp] theorem setFn_dsCache (s : State) (f : Nat) (w : Fn) : (setFn s f w).dsCache = s.dsCache := rfl
@[simp] theorem setFn_verdictKeys (s : State) (f : Nat) (w : Fn) : (setFn s f w).verdictKeys = s.verdictKeys := rfl
@[simp] theorem setFn_verdicts (s : State) (f : Nat) (w : Fn) : (setFn s f w).verdicts = s.verdicts := rfl
@[simp] theorem setFn_sheaves (s : State) (f : Nat) (w : Fn) : (setFn s f w).sheaves = s.sheaves := rfl
@[simp] theorem setFn_signers (s : State) (f : Nat) (w : Fn) : (setFn s f w).signers = s.signers := rfl
@[simp] theorem setFn_bindings (s : State) (f : Nat) (w : Fn) : (setFn s f w).bindings = s.bindings := rfl
@[simp] theorem setFn_instances (s : State) (f : Nat) (w : Fn) : (setFn s f w).instances = s.instances := rfl
@[simp] theorem setFn_cards (s : State) (f : Nat) (w : Fn) : (setFn s f w).cards = s.cards := rfl
@[simp] theorem setFn_journal (s : State) (f : Nat) (w : Fn) : (setFn s f w).journal = s.journal := rfl
@[simp] theorem setFn_journalNo (s : State) (f : Nat) (w : Fn) : (setFn s f w).journalNo = s.journalNo := rfl
@[simp] theorem setFn_officers (s : State) (f : Nat) (w : Fn) : (setFn s f w).officers = s.officers := rfl
@[simp] theorem setFn_quorumM (s : State) (f : Nat) (w : Fn) : (setFn s f w).quorumM = s.quorumM := rfl
@[simp] theorem setFn_approvals (s : State) (f : Nat) (w : Fn) : (setFn s f w).approvals = s.approvals := rfl
@[simp] theorem setFn_approvalNo (s : State) (f : Nat) (w : Fn) : (setFn s f w).approvalNo = s.approvalNo := rfl
@[simp] theorem setFn_scarecrow (s : State) (f : Nat) (w : Fn) : (setFn s f w).scarecrow = s.scarecrow := rfl
@[simp] theorem setFn_life (s : State) (f : Nat) (w : Fn) : (setFn s f w).life = s.life := rfl
@[simp] theorem setFn_lanyard (s : State) (f : Nat) (w : Fn) : (setFn s f w).lanyard = s.lanyard := rfl
@[simp] theorem setFn_pair (s : State) (f : Nat) (w : Fn) : (setFn s f w).pair = s.pair := rfl
@[simp] theorem setFn_update (s : State) (f : Nat) (w : Fn) : (setFn s f w).update = s.update := rfl
@[simp] theorem setFn_power (s : State) (f : Nat) (w : Fn) : (setFn s f w).power = s.power := rfl
@[simp] theorem setFn_withdrawals (s : State) (f : Nat) (w : Fn) : (setFn s f w).withdrawals = s.withdrawals := rfl

@[simp] theorem setClient_pending (s : State) (c : Nat) (w : Client) : (setClient s c w).pending = s.pending := rfl
@[simp] theorem setClient_now (s : State) (c : Nat) (w : Client) : (setClient s c w).now = s.now := rfl
@[simp] theorem setClient_rng (s : State) (c : Nat) (w : Client) : (setClient s c w).rng = s.rng := rfl
@[simp] theorem setClient_ident (s : State) (c : Nat) (w : Client) : (setClient s c w).ident = s.ident := rfl
@[simp] theorem setClient_fns (s : State) (c : Nat) (w : Client) : (setClient s c w).fns = s.fns := rfl
@[simp] theorem setClient_vfEnable (s : State) (c : Nat) (w : Client) : (setClient s c w).vfEnable = s.vfEnable := rfl
@[simp] theorem setClient_numVfs (s : State) (c : Nat) (w : Client) : (setClient s c w).numVfs = s.numVfs := rfl
@[simp] theorem setClient_hostWrites (s : State) (c : Nat) (w : Client) : (setClient s c w).hostWrites = s.hostWrites := rfl
@[simp] theorem setClient_hostReads (s : State) (c : Nat) (w : Client) : (setClient s c w).hostReads = s.hostReads := rfl
@[simp] theorem setClient_keys (s : State) (c : Nat) (w : Client) : (setClient s c w).keys = s.keys := rfl
@[simp] theorem setClient_wear (s : State) (c : Nat) (w : Client) : (setClient s c w).wear = s.wear := rfl
@[simp] theorem setClient_writes (s : State) (c : Nat) (w : Client) : (setClient s c w).writes = s.writes := rfl
@[simp] theorem setClient_counters (s : State) (c : Nat) (w : Client) : (setClient s c w).counters = s.counters := rfl
@[simp] theorem setClient_counterBase (s : State) (c : Nat) (w : Client) : (setClient s c w).counterBase = s.counterBase := rfl
@[simp] theorem setClient_almanac (s : State) (c : Nat) (w : Client) : (setClient s c w).almanac = s.almanac := rfl
@[simp] theorem setClient_ledger (s : State) (c : Nat) (w : Client) : (setClient s c w).ledger = s.ledger := rfl
@[simp] theorem setClient_jobs (s : State) (c : Nat) (w : Client) : (setClient s c w).jobs = s.jobs := rfl
@[simp] theorem setClient_jobNo (s : State) (c : Nat) (w : Client) : (setClient s c w).jobNo = s.jobNo := rfl
@[simp] theorem setClient_turnNo (s : State) (c : Nat) (w : Client) : (setClient s c w).turnNo = s.turnNo := rfl
@[simp] theorem setClient_contexts (s : State) (c : Nat) (w : Client) : (setClient s c w).contexts = s.contexts := rfl
@[simp] theorem setClient_twin (s : State) (c : Nat) (w : Client) : (setClient s c w).twin = s.twin := rfl
@[simp] theorem setClient_floors (s : State) (c : Nat) (w : Client) : (setClient s c w).floors = s.floors := rfl
@[simp] theorem setClient_stones (s : State) (c : Nat) (w : Client) : (setClient s c w).stones = s.stones := rfl
@[simp] theorem setClient_groupFences (s : State) (c : Nat) (w : Client) : (setClient s c w).groupFences = s.groupFences := rfl
@[simp] theorem setClient_curves (s : State) (c : Nat) (w : Client) : (setClient s c w).curves = s.curves := rfl
@[simp] theorem setClient_hatch (s : State) (c : Nat) (w : Client) : (setClient s c w).hatch = s.hatch := rfl
@[simp] theorem setClient_flail (s : State) (c : Nat) (w : Client) : (setClient s c w).flail = s.flail := rfl
@[simp] theorem setClient_ports (s : State) (c : Nat) (w : Client) : (setClient s c w).ports = s.ports := rfl
@[simp] theorem setClient_strands (s : State) (c : Nat) (w : Client) : (setClient s c w).strands = s.strands := rfl
@[simp] theorem setClient_durable (s : State) (c : Nat) (w : Client) : (setClient s c w).durable = s.durable := rfl
@[simp] theorem setClient_subs (s : State) (c : Nat) (w : Client) : (setClient s c w).subs = s.subs := rfl
@[simp] theorem setClient_sealKeys (s : State) (c : Nat) (w : Client) : (setClient s c w).sealKeys = s.sealKeys := rfl
@[simp] theorem setClient_sealIdle (s : State) (c : Nat) (w : Client) : (setClient s c w).sealIdle = s.sealIdle := rfl
@[simp] theorem setClient_scannerCas (s : State) (c : Nat) (w : Client) : (setClient s c w).scannerCas = s.scannerCas := rfl
@[simp] theorem setClient_scannerDenied (s : State) (c : Nat) (w : Client) : (setClient s c w).scannerDenied = s.scannerDenied := rfl
@[simp] theorem setClient_trust (s : State) (c : Nat) (w : Client) : (setClient s c w).trust = s.trust := rfl
@[simp] theorem setClient_trustNo (s : State) (c : Nat) (w : Client) : (setClient s c w).trustNo = s.trustNo := rfl
@[simp] theorem setClient_policies (s : State) (c : Nat) (w : Client) : (setClient s c w).policies = s.policies := rfl
@[simp] theorem setClient_dsCache (s : State) (c : Nat) (w : Client) : (setClient s c w).dsCache = s.dsCache := rfl
@[simp] theorem setClient_verdictKeys (s : State) (c : Nat) (w : Client) : (setClient s c w).verdictKeys = s.verdictKeys := rfl
@[simp] theorem setClient_verdicts (s : State) (c : Nat) (w : Client) : (setClient s c w).verdicts = s.verdicts := rfl
@[simp] theorem setClient_sheaves (s : State) (c : Nat) (w : Client) : (setClient s c w).sheaves = s.sheaves := rfl
@[simp] theorem setClient_signers (s : State) (c : Nat) (w : Client) : (setClient s c w).signers = s.signers := rfl
@[simp] theorem setClient_bindings (s : State) (c : Nat) (w : Client) : (setClient s c w).bindings = s.bindings := rfl
@[simp] theorem setClient_instances (s : State) (c : Nat) (w : Client) : (setClient s c w).instances = s.instances := rfl
@[simp] theorem setClient_cards (s : State) (c : Nat) (w : Client) : (setClient s c w).cards = s.cards := rfl
@[simp] theorem setClient_journal (s : State) (c : Nat) (w : Client) : (setClient s c w).journal = s.journal := rfl
@[simp] theorem setClient_journalNo (s : State) (c : Nat) (w : Client) : (setClient s c w).journalNo = s.journalNo := rfl
@[simp] theorem setClient_officers (s : State) (c : Nat) (w : Client) : (setClient s c w).officers = s.officers := rfl
@[simp] theorem setClient_quorumM (s : State) (c : Nat) (w : Client) : (setClient s c w).quorumM = s.quorumM := rfl
@[simp] theorem setClient_approvals (s : State) (c : Nat) (w : Client) : (setClient s c w).approvals = s.approvals := rfl
@[simp] theorem setClient_approvalNo (s : State) (c : Nat) (w : Client) : (setClient s c w).approvalNo = s.approvalNo := rfl
@[simp] theorem setClient_scarecrow (s : State) (c : Nat) (w : Client) : (setClient s c w).scarecrow = s.scarecrow := rfl
@[simp] theorem setClient_life (s : State) (c : Nat) (w : Client) : (setClient s c w).life = s.life := rfl
@[simp] theorem setClient_lanyard (s : State) (c : Nat) (w : Client) : (setClient s c w).lanyard = s.lanyard := rfl
@[simp] theorem setClient_pair (s : State) (c : Nat) (w : Client) : (setClient s c w).pair = s.pair := rfl
@[simp] theorem setClient_update (s : State) (c : Nat) (w : Client) : (setClient s c w).update = s.update := rfl
@[simp] theorem setClient_power (s : State) (c : Nat) (w : Client) : (setClient s c w).power = s.power := rfl
@[simp] theorem setClient_withdrawals (s : State) (c : Nat) (w : Client) : (setClient s c w).withdrawals = s.withdrawals := rfl

@[simp] theorem setFloor_pending (s : State) (f : Nat) (w : Floor) : (setFloor s f w).pending = s.pending := rfl
@[simp] theorem setFloor_now (s : State) (f : Nat) (w : Floor) : (setFloor s f w).now = s.now := rfl
@[simp] theorem setFloor_rng (s : State) (f : Nat) (w : Floor) : (setFloor s f w).rng = s.rng := rfl
@[simp] theorem setFloor_ident (s : State) (f : Nat) (w : Floor) : (setFloor s f w).ident = s.ident := rfl
@[simp] theorem setFloor_fns (s : State) (f : Nat) (w : Floor) : (setFloor s f w).fns = s.fns := rfl
@[simp] theorem setFloor_vfEnable (s : State) (f : Nat) (w : Floor) : (setFloor s f w).vfEnable = s.vfEnable := rfl
@[simp] theorem setFloor_numVfs (s : State) (f : Nat) (w : Floor) : (setFloor s f w).numVfs = s.numVfs := rfl
@[simp] theorem setFloor_clients (s : State) (f : Nat) (w : Floor) : (setFloor s f w).clients = s.clients := rfl
@[simp] theorem setFloor_hostWrites (s : State) (f : Nat) (w : Floor) : (setFloor s f w).hostWrites = s.hostWrites := rfl
@[simp] theorem setFloor_hostReads (s : State) (f : Nat) (w : Floor) : (setFloor s f w).hostReads = s.hostReads := rfl
@[simp] theorem setFloor_keys (s : State) (f : Nat) (w : Floor) : (setFloor s f w).keys = s.keys := rfl
@[simp] theorem setFloor_wear (s : State) (f : Nat) (w : Floor) : (setFloor s f w).wear = s.wear := rfl
@[simp] theorem setFloor_writes (s : State) (f : Nat) (w : Floor) : (setFloor s f w).writes = s.writes := rfl
@[simp] theorem setFloor_counters (s : State) (f : Nat) (w : Floor) : (setFloor s f w).counters = s.counters := rfl
@[simp] theorem setFloor_counterBase (s : State) (f : Nat) (w : Floor) : (setFloor s f w).counterBase = s.counterBase := rfl
@[simp] theorem setFloor_almanac (s : State) (f : Nat) (w : Floor) : (setFloor s f w).almanac = s.almanac := rfl
@[simp] theorem setFloor_ledger (s : State) (f : Nat) (w : Floor) : (setFloor s f w).ledger = s.ledger := rfl
@[simp] theorem setFloor_jobs (s : State) (f : Nat) (w : Floor) : (setFloor s f w).jobs = s.jobs := rfl
@[simp] theorem setFloor_jobNo (s : State) (f : Nat) (w : Floor) : (setFloor s f w).jobNo = s.jobNo := rfl
@[simp] theorem setFloor_turnNo (s : State) (f : Nat) (w : Floor) : (setFloor s f w).turnNo = s.turnNo := rfl
@[simp] theorem setFloor_contexts (s : State) (f : Nat) (w : Floor) : (setFloor s f w).contexts = s.contexts := rfl
@[simp] theorem setFloor_twin (s : State) (f : Nat) (w : Floor) : (setFloor s f w).twin = s.twin := rfl
@[simp] theorem setFloor_stones (s : State) (f : Nat) (w : Floor) : (setFloor s f w).stones = s.stones := rfl
@[simp] theorem setFloor_groupFences (s : State) (f : Nat) (w : Floor) : (setFloor s f w).groupFences = s.groupFences := rfl
@[simp] theorem setFloor_curves (s : State) (f : Nat) (w : Floor) : (setFloor s f w).curves = s.curves := rfl
@[simp] theorem setFloor_hatch (s : State) (f : Nat) (w : Floor) : (setFloor s f w).hatch = s.hatch := rfl
@[simp] theorem setFloor_flail (s : State) (f : Nat) (w : Floor) : (setFloor s f w).flail = s.flail := rfl
@[simp] theorem setFloor_ports (s : State) (f : Nat) (w : Floor) : (setFloor s f w).ports = s.ports := rfl
@[simp] theorem setFloor_strands (s : State) (f : Nat) (w : Floor) : (setFloor s f w).strands = s.strands := rfl
@[simp] theorem setFloor_durable (s : State) (f : Nat) (w : Floor) : (setFloor s f w).durable = s.durable := rfl
@[simp] theorem setFloor_subs (s : State) (f : Nat) (w : Floor) : (setFloor s f w).subs = s.subs := rfl
@[simp] theorem setFloor_sealKeys (s : State) (f : Nat) (w : Floor) : (setFloor s f w).sealKeys = s.sealKeys := rfl
@[simp] theorem setFloor_sealIdle (s : State) (f : Nat) (w : Floor) : (setFloor s f w).sealIdle = s.sealIdle := rfl
@[simp] theorem setFloor_scannerCas (s : State) (f : Nat) (w : Floor) : (setFloor s f w).scannerCas = s.scannerCas := rfl
@[simp] theorem setFloor_scannerDenied (s : State) (f : Nat) (w : Floor) : (setFloor s f w).scannerDenied = s.scannerDenied := rfl
@[simp] theorem setFloor_trust (s : State) (f : Nat) (w : Floor) : (setFloor s f w).trust = s.trust := rfl
@[simp] theorem setFloor_trustNo (s : State) (f : Nat) (w : Floor) : (setFloor s f w).trustNo = s.trustNo := rfl
@[simp] theorem setFloor_policies (s : State) (f : Nat) (w : Floor) : (setFloor s f w).policies = s.policies := rfl
@[simp] theorem setFloor_dsCache (s : State) (f : Nat) (w : Floor) : (setFloor s f w).dsCache = s.dsCache := rfl
@[simp] theorem setFloor_verdictKeys (s : State) (f : Nat) (w : Floor) : (setFloor s f w).verdictKeys = s.verdictKeys := rfl
@[simp] theorem setFloor_verdicts (s : State) (f : Nat) (w : Floor) : (setFloor s f w).verdicts = s.verdicts := rfl
@[simp] theorem setFloor_sheaves (s : State) (f : Nat) (w : Floor) : (setFloor s f w).sheaves = s.sheaves := rfl
@[simp] theorem setFloor_signers (s : State) (f : Nat) (w : Floor) : (setFloor s f w).signers = s.signers := rfl
@[simp] theorem setFloor_bindings (s : State) (f : Nat) (w : Floor) : (setFloor s f w).bindings = s.bindings := rfl
@[simp] theorem setFloor_instances (s : State) (f : Nat) (w : Floor) : (setFloor s f w).instances = s.instances := rfl
@[simp] theorem setFloor_cards (s : State) (f : Nat) (w : Floor) : (setFloor s f w).cards = s.cards := rfl
@[simp] theorem setFloor_journal (s : State) (f : Nat) (w : Floor) : (setFloor s f w).journal = s.journal := rfl
@[simp] theorem setFloor_journalNo (s : State) (f : Nat) (w : Floor) : (setFloor s f w).journalNo = s.journalNo := rfl
@[simp] theorem setFloor_officers (s : State) (f : Nat) (w : Floor) : (setFloor s f w).officers = s.officers := rfl
@[simp] theorem setFloor_quorumM (s : State) (f : Nat) (w : Floor) : (setFloor s f w).quorumM = s.quorumM := rfl
@[simp] theorem setFloor_approvals (s : State) (f : Nat) (w : Floor) : (setFloor s f w).approvals = s.approvals := rfl
@[simp] theorem setFloor_approvalNo (s : State) (f : Nat) (w : Floor) : (setFloor s f w).approvalNo = s.approvalNo := rfl
@[simp] theorem setFloor_scarecrow (s : State) (f : Nat) (w : Floor) : (setFloor s f w).scarecrow = s.scarecrow := rfl
@[simp] theorem setFloor_life (s : State) (f : Nat) (w : Floor) : (setFloor s f w).life = s.life := rfl
@[simp] theorem setFloor_lanyard (s : State) (f : Nat) (w : Floor) : (setFloor s f w).lanyard = s.lanyard := rfl
@[simp] theorem setFloor_pair (s : State) (f : Nat) (w : Floor) : (setFloor s f w).pair = s.pair := rfl
@[simp] theorem setFloor_update (s : State) (f : Nat) (w : Floor) : (setFloor s f w).update = s.update := rfl
@[simp] theorem setFloor_power (s : State) (f : Nat) (w : Floor) : (setFloor s f w).power = s.power := rfl
@[simp] theorem setFloor_withdrawals (s : State) (f : Nat) (w : Floor) : (setFloor s f w).withdrawals = s.withdrawals := rfl

@[simp] theorem setStone_pending (s : State) (n : Nat) (w : Stone) : (setStone s n w).pending = s.pending := rfl
@[simp] theorem setStone_now (s : State) (n : Nat) (w : Stone) : (setStone s n w).now = s.now := rfl
@[simp] theorem setStone_rng (s : State) (n : Nat) (w : Stone) : (setStone s n w).rng = s.rng := rfl
@[simp] theorem setStone_ident (s : State) (n : Nat) (w : Stone) : (setStone s n w).ident = s.ident := rfl
@[simp] theorem setStone_fns (s : State) (n : Nat) (w : Stone) : (setStone s n w).fns = s.fns := rfl
@[simp] theorem setStone_vfEnable (s : State) (n : Nat) (w : Stone) : (setStone s n w).vfEnable = s.vfEnable := rfl
@[simp] theorem setStone_numVfs (s : State) (n : Nat) (w : Stone) : (setStone s n w).numVfs = s.numVfs := rfl
@[simp] theorem setStone_clients (s : State) (n : Nat) (w : Stone) : (setStone s n w).clients = s.clients := rfl
@[simp] theorem setStone_hostWrites (s : State) (n : Nat) (w : Stone) : (setStone s n w).hostWrites = s.hostWrites := rfl
@[simp] theorem setStone_hostReads (s : State) (n : Nat) (w : Stone) : (setStone s n w).hostReads = s.hostReads := rfl
@[simp] theorem setStone_keys (s : State) (n : Nat) (w : Stone) : (setStone s n w).keys = s.keys := rfl
@[simp] theorem setStone_wear (s : State) (n : Nat) (w : Stone) : (setStone s n w).wear = s.wear := rfl
@[simp] theorem setStone_writes (s : State) (n : Nat) (w : Stone) : (setStone s n w).writes = s.writes := rfl
@[simp] theorem setStone_counters (s : State) (n : Nat) (w : Stone) : (setStone s n w).counters = s.counters := rfl
@[simp] theorem setStone_counterBase (s : State) (n : Nat) (w : Stone) : (setStone s n w).counterBase = s.counterBase := rfl
@[simp] theorem setStone_almanac (s : State) (n : Nat) (w : Stone) : (setStone s n w).almanac = s.almanac := rfl
@[simp] theorem setStone_ledger (s : State) (n : Nat) (w : Stone) : (setStone s n w).ledger = s.ledger := rfl
@[simp] theorem setStone_jobs (s : State) (n : Nat) (w : Stone) : (setStone s n w).jobs = s.jobs := rfl
@[simp] theorem setStone_jobNo (s : State) (n : Nat) (w : Stone) : (setStone s n w).jobNo = s.jobNo := rfl
@[simp] theorem setStone_turnNo (s : State) (n : Nat) (w : Stone) : (setStone s n w).turnNo = s.turnNo := rfl
@[simp] theorem setStone_contexts (s : State) (n : Nat) (w : Stone) : (setStone s n w).contexts = s.contexts := rfl
@[simp] theorem setStone_twin (s : State) (n : Nat) (w : Stone) : (setStone s n w).twin = s.twin := rfl
@[simp] theorem setStone_floors (s : State) (n : Nat) (w : Stone) : (setStone s n w).floors = s.floors := rfl
@[simp] theorem setStone_groupFences (s : State) (n : Nat) (w : Stone) : (setStone s n w).groupFences = s.groupFences := rfl
@[simp] theorem setStone_curves (s : State) (n : Nat) (w : Stone) : (setStone s n w).curves = s.curves := rfl
@[simp] theorem setStone_hatch (s : State) (n : Nat) (w : Stone) : (setStone s n w).hatch = s.hatch := rfl
@[simp] theorem setStone_flail (s : State) (n : Nat) (w : Stone) : (setStone s n w).flail = s.flail := rfl
@[simp] theorem setStone_ports (s : State) (n : Nat) (w : Stone) : (setStone s n w).ports = s.ports := rfl
@[simp] theorem setStone_strands (s : State) (n : Nat) (w : Stone) : (setStone s n w).strands = s.strands := rfl
@[simp] theorem setStone_durable (s : State) (n : Nat) (w : Stone) : (setStone s n w).durable = s.durable := rfl
@[simp] theorem setStone_subs (s : State) (n : Nat) (w : Stone) : (setStone s n w).subs = s.subs := rfl
@[simp] theorem setStone_sealKeys (s : State) (n : Nat) (w : Stone) : (setStone s n w).sealKeys = s.sealKeys := rfl
@[simp] theorem setStone_sealIdle (s : State) (n : Nat) (w : Stone) : (setStone s n w).sealIdle = s.sealIdle := rfl
@[simp] theorem setStone_scannerCas (s : State) (n : Nat) (w : Stone) : (setStone s n w).scannerCas = s.scannerCas := rfl
@[simp] theorem setStone_scannerDenied (s : State) (n : Nat) (w : Stone) : (setStone s n w).scannerDenied = s.scannerDenied := rfl
@[simp] theorem setStone_trust (s : State) (n : Nat) (w : Stone) : (setStone s n w).trust = s.trust := rfl
@[simp] theorem setStone_trustNo (s : State) (n : Nat) (w : Stone) : (setStone s n w).trustNo = s.trustNo := rfl
@[simp] theorem setStone_policies (s : State) (n : Nat) (w : Stone) : (setStone s n w).policies = s.policies := rfl
@[simp] theorem setStone_dsCache (s : State) (n : Nat) (w : Stone) : (setStone s n w).dsCache = s.dsCache := rfl
@[simp] theorem setStone_verdictKeys (s : State) (n : Nat) (w : Stone) : (setStone s n w).verdictKeys = s.verdictKeys := rfl
@[simp] theorem setStone_verdicts (s : State) (n : Nat) (w : Stone) : (setStone s n w).verdicts = s.verdicts := rfl
@[simp] theorem setStone_sheaves (s : State) (n : Nat) (w : Stone) : (setStone s n w).sheaves = s.sheaves := rfl
@[simp] theorem setStone_signers (s : State) (n : Nat) (w : Stone) : (setStone s n w).signers = s.signers := rfl
@[simp] theorem setStone_bindings (s : State) (n : Nat) (w : Stone) : (setStone s n w).bindings = s.bindings := rfl
@[simp] theorem setStone_instances (s : State) (n : Nat) (w : Stone) : (setStone s n w).instances = s.instances := rfl
@[simp] theorem setStone_cards (s : State) (n : Nat) (w : Stone) : (setStone s n w).cards = s.cards := rfl
@[simp] theorem setStone_journal (s : State) (n : Nat) (w : Stone) : (setStone s n w).journal = s.journal := rfl
@[simp] theorem setStone_journalNo (s : State) (n : Nat) (w : Stone) : (setStone s n w).journalNo = s.journalNo := rfl
@[simp] theorem setStone_officers (s : State) (n : Nat) (w : Stone) : (setStone s n w).officers = s.officers := rfl
@[simp] theorem setStone_quorumM (s : State) (n : Nat) (w : Stone) : (setStone s n w).quorumM = s.quorumM := rfl
@[simp] theorem setStone_approvals (s : State) (n : Nat) (w : Stone) : (setStone s n w).approvals = s.approvals := rfl
@[simp] theorem setStone_approvalNo (s : State) (n : Nat) (w : Stone) : (setStone s n w).approvalNo = s.approvalNo := rfl
@[simp] theorem setStone_scarecrow (s : State) (n : Nat) (w : Stone) : (setStone s n w).scarecrow = s.scarecrow := rfl
@[simp] theorem setStone_life (s : State) (n : Nat) (w : Stone) : (setStone s n w).life = s.life := rfl
@[simp] theorem setStone_lanyard (s : State) (n : Nat) (w : Stone) : (setStone s n w).lanyard = s.lanyard := rfl
@[simp] theorem setStone_pair (s : State) (n : Nat) (w : Stone) : (setStone s n w).pair = s.pair := rfl
@[simp] theorem setStone_update (s : State) (n : Nat) (w : Stone) : (setStone s n w).update = s.update := rfl
@[simp] theorem setStone_power (s : State) (n : Nat) (w : Stone) : (setStone s n w).power = s.power := rfl
@[simp] theorem setStone_withdrawals (s : State) (n : Nat) (w : Stone) : (setStone s n w).withdrawals = s.withdrawals := rfl

@[simp] theorem setPort_pending (s : State) (p : Nat) (w : Port) : (setPort s p w).pending = s.pending := rfl
@[simp] theorem setPort_now (s : State) (p : Nat) (w : Port) : (setPort s p w).now = s.now := rfl
@[simp] theorem setPort_rng (s : State) (p : Nat) (w : Port) : (setPort s p w).rng = s.rng := rfl
@[simp] theorem setPort_ident (s : State) (p : Nat) (w : Port) : (setPort s p w).ident = s.ident := rfl
@[simp] theorem setPort_fns (s : State) (p : Nat) (w : Port) : (setPort s p w).fns = s.fns := rfl
@[simp] theorem setPort_vfEnable (s : State) (p : Nat) (w : Port) : (setPort s p w).vfEnable = s.vfEnable := rfl
@[simp] theorem setPort_numVfs (s : State) (p : Nat) (w : Port) : (setPort s p w).numVfs = s.numVfs := rfl
@[simp] theorem setPort_clients (s : State) (p : Nat) (w : Port) : (setPort s p w).clients = s.clients := rfl
@[simp] theorem setPort_hostWrites (s : State) (p : Nat) (w : Port) : (setPort s p w).hostWrites = s.hostWrites := rfl
@[simp] theorem setPort_hostReads (s : State) (p : Nat) (w : Port) : (setPort s p w).hostReads = s.hostReads := rfl
@[simp] theorem setPort_keys (s : State) (p : Nat) (w : Port) : (setPort s p w).keys = s.keys := rfl
@[simp] theorem setPort_wear (s : State) (p : Nat) (w : Port) : (setPort s p w).wear = s.wear := rfl
@[simp] theorem setPort_writes (s : State) (p : Nat) (w : Port) : (setPort s p w).writes = s.writes := rfl
@[simp] theorem setPort_counters (s : State) (p : Nat) (w : Port) : (setPort s p w).counters = s.counters := rfl
@[simp] theorem setPort_counterBase (s : State) (p : Nat) (w : Port) : (setPort s p w).counterBase = s.counterBase := rfl
@[simp] theorem setPort_almanac (s : State) (p : Nat) (w : Port) : (setPort s p w).almanac = s.almanac := rfl
@[simp] theorem setPort_ledger (s : State) (p : Nat) (w : Port) : (setPort s p w).ledger = s.ledger := rfl
@[simp] theorem setPort_jobs (s : State) (p : Nat) (w : Port) : (setPort s p w).jobs = s.jobs := rfl
@[simp] theorem setPort_jobNo (s : State) (p : Nat) (w : Port) : (setPort s p w).jobNo = s.jobNo := rfl
@[simp] theorem setPort_turnNo (s : State) (p : Nat) (w : Port) : (setPort s p w).turnNo = s.turnNo := rfl
@[simp] theorem setPort_contexts (s : State) (p : Nat) (w : Port) : (setPort s p w).contexts = s.contexts := rfl
@[simp] theorem setPort_twin (s : State) (p : Nat) (w : Port) : (setPort s p w).twin = s.twin := rfl
@[simp] theorem setPort_floors (s : State) (p : Nat) (w : Port) : (setPort s p w).floors = s.floors := rfl
@[simp] theorem setPort_stones (s : State) (p : Nat) (w : Port) : (setPort s p w).stones = s.stones := rfl
@[simp] theorem setPort_groupFences (s : State) (p : Nat) (w : Port) : (setPort s p w).groupFences = s.groupFences := rfl
@[simp] theorem setPort_curves (s : State) (p : Nat) (w : Port) : (setPort s p w).curves = s.curves := rfl
@[simp] theorem setPort_hatch (s : State) (p : Nat) (w : Port) : (setPort s p w).hatch = s.hatch := rfl
@[simp] theorem setPort_flail (s : State) (p : Nat) (w : Port) : (setPort s p w).flail = s.flail := rfl
@[simp] theorem setPort_strands (s : State) (p : Nat) (w : Port) : (setPort s p w).strands = s.strands := rfl
@[simp] theorem setPort_durable (s : State) (p : Nat) (w : Port) : (setPort s p w).durable = s.durable := rfl
@[simp] theorem setPort_subs (s : State) (p : Nat) (w : Port) : (setPort s p w).subs = s.subs := rfl
@[simp] theorem setPort_sealKeys (s : State) (p : Nat) (w : Port) : (setPort s p w).sealKeys = s.sealKeys := rfl
@[simp] theorem setPort_sealIdle (s : State) (p : Nat) (w : Port) : (setPort s p w).sealIdle = s.sealIdle := rfl
@[simp] theorem setPort_scannerCas (s : State) (p : Nat) (w : Port) : (setPort s p w).scannerCas = s.scannerCas := rfl
@[simp] theorem setPort_scannerDenied (s : State) (p : Nat) (w : Port) : (setPort s p w).scannerDenied = s.scannerDenied := rfl
@[simp] theorem setPort_trust (s : State) (p : Nat) (w : Port) : (setPort s p w).trust = s.trust := rfl
@[simp] theorem setPort_trustNo (s : State) (p : Nat) (w : Port) : (setPort s p w).trustNo = s.trustNo := rfl
@[simp] theorem setPort_policies (s : State) (p : Nat) (w : Port) : (setPort s p w).policies = s.policies := rfl
@[simp] theorem setPort_dsCache (s : State) (p : Nat) (w : Port) : (setPort s p w).dsCache = s.dsCache := rfl
@[simp] theorem setPort_verdictKeys (s : State) (p : Nat) (w : Port) : (setPort s p w).verdictKeys = s.verdictKeys := rfl
@[simp] theorem setPort_verdicts (s : State) (p : Nat) (w : Port) : (setPort s p w).verdicts = s.verdicts := rfl
@[simp] theorem setPort_sheaves (s : State) (p : Nat) (w : Port) : (setPort s p w).sheaves = s.sheaves := rfl
@[simp] theorem setPort_signers (s : State) (p : Nat) (w : Port) : (setPort s p w).signers = s.signers := rfl
@[simp] theorem setPort_bindings (s : State) (p : Nat) (w : Port) : (setPort s p w).bindings = s.bindings := rfl
@[simp] theorem setPort_instances (s : State) (p : Nat) (w : Port) : (setPort s p w).instances = s.instances := rfl
@[simp] theorem setPort_cards (s : State) (p : Nat) (w : Port) : (setPort s p w).cards = s.cards := rfl
@[simp] theorem setPort_journal (s : State) (p : Nat) (w : Port) : (setPort s p w).journal = s.journal := rfl
@[simp] theorem setPort_journalNo (s : State) (p : Nat) (w : Port) : (setPort s p w).journalNo = s.journalNo := rfl
@[simp] theorem setPort_officers (s : State) (p : Nat) (w : Port) : (setPort s p w).officers = s.officers := rfl
@[simp] theorem setPort_quorumM (s : State) (p : Nat) (w : Port) : (setPort s p w).quorumM = s.quorumM := rfl
@[simp] theorem setPort_approvals (s : State) (p : Nat) (w : Port) : (setPort s p w).approvals = s.approvals := rfl
@[simp] theorem setPort_approvalNo (s : State) (p : Nat) (w : Port) : (setPort s p w).approvalNo = s.approvalNo := rfl
@[simp] theorem setPort_scarecrow (s : State) (p : Nat) (w : Port) : (setPort s p w).scarecrow = s.scarecrow := rfl
@[simp] theorem setPort_life (s : State) (p : Nat) (w : Port) : (setPort s p w).life = s.life := rfl
@[simp] theorem setPort_lanyard (s : State) (p : Nat) (w : Port) : (setPort s p w).lanyard = s.lanyard := rfl
@[simp] theorem setPort_pair (s : State) (p : Nat) (w : Port) : (setPort s p w).pair = s.pair := rfl
@[simp] theorem setPort_update (s : State) (p : Nat) (w : Port) : (setPort s p w).update = s.update := rfl
@[simp] theorem setPort_power (s : State) (p : Nat) (w : Port) : (setPort s p w).power = s.power := rfl
@[simp] theorem setPort_withdrawals (s : State) (p : Nat) (w : Port) : (setPort s p w).withdrawals = s.withdrawals := rfl

@[simp] theorem setStrand_pending (s : State) (i : Nat) (w : Strand) : (setStrand s i w).pending = s.pending := rfl
@[simp] theorem setStrand_now (s : State) (i : Nat) (w : Strand) : (setStrand s i w).now = s.now := rfl
@[simp] theorem setStrand_rng (s : State) (i : Nat) (w : Strand) : (setStrand s i w).rng = s.rng := rfl
@[simp] theorem setStrand_ident (s : State) (i : Nat) (w : Strand) : (setStrand s i w).ident = s.ident := rfl
@[simp] theorem setStrand_fns (s : State) (i : Nat) (w : Strand) : (setStrand s i w).fns = s.fns := rfl
@[simp] theorem setStrand_vfEnable (s : State) (i : Nat) (w : Strand) : (setStrand s i w).vfEnable = s.vfEnable := rfl
@[simp] theorem setStrand_numVfs (s : State) (i : Nat) (w : Strand) : (setStrand s i w).numVfs = s.numVfs := rfl
@[simp] theorem setStrand_clients (s : State) (i : Nat) (w : Strand) : (setStrand s i w).clients = s.clients := rfl
@[simp] theorem setStrand_hostWrites (s : State) (i : Nat) (w : Strand) : (setStrand s i w).hostWrites = s.hostWrites := rfl
@[simp] theorem setStrand_hostReads (s : State) (i : Nat) (w : Strand) : (setStrand s i w).hostReads = s.hostReads := rfl
@[simp] theorem setStrand_keys (s : State) (i : Nat) (w : Strand) : (setStrand s i w).keys = s.keys := rfl
@[simp] theorem setStrand_wear (s : State) (i : Nat) (w : Strand) : (setStrand s i w).wear = s.wear := rfl
@[simp] theorem setStrand_writes (s : State) (i : Nat) (w : Strand) : (setStrand s i w).writes = s.writes := rfl
@[simp] theorem setStrand_counters (s : State) (i : Nat) (w : Strand) : (setStrand s i w).counters = s.counters := rfl
@[simp] theorem setStrand_counterBase (s : State) (i : Nat) (w : Strand) : (setStrand s i w).counterBase = s.counterBase := rfl
@[simp] theorem setStrand_almanac (s : State) (i : Nat) (w : Strand) : (setStrand s i w).almanac = s.almanac := rfl
@[simp] theorem setStrand_ledger (s : State) (i : Nat) (w : Strand) : (setStrand s i w).ledger = s.ledger := rfl
@[simp] theorem setStrand_jobs (s : State) (i : Nat) (w : Strand) : (setStrand s i w).jobs = s.jobs := rfl
@[simp] theorem setStrand_jobNo (s : State) (i : Nat) (w : Strand) : (setStrand s i w).jobNo = s.jobNo := rfl
@[simp] theorem setStrand_turnNo (s : State) (i : Nat) (w : Strand) : (setStrand s i w).turnNo = s.turnNo := rfl
@[simp] theorem setStrand_contexts (s : State) (i : Nat) (w : Strand) : (setStrand s i w).contexts = s.contexts := rfl
@[simp] theorem setStrand_twin (s : State) (i : Nat) (w : Strand) : (setStrand s i w).twin = s.twin := rfl
@[simp] theorem setStrand_floors (s : State) (i : Nat) (w : Strand) : (setStrand s i w).floors = s.floors := rfl
@[simp] theorem setStrand_stones (s : State) (i : Nat) (w : Strand) : (setStrand s i w).stones = s.stones := rfl
@[simp] theorem setStrand_groupFences (s : State) (i : Nat) (w : Strand) : (setStrand s i w).groupFences = s.groupFences := rfl
@[simp] theorem setStrand_curves (s : State) (i : Nat) (w : Strand) : (setStrand s i w).curves = s.curves := rfl
@[simp] theorem setStrand_hatch (s : State) (i : Nat) (w : Strand) : (setStrand s i w).hatch = s.hatch := rfl
@[simp] theorem setStrand_flail (s : State) (i : Nat) (w : Strand) : (setStrand s i w).flail = s.flail := rfl
@[simp] theorem setStrand_ports (s : State) (i : Nat) (w : Strand) : (setStrand s i w).ports = s.ports := rfl
@[simp] theorem setStrand_durable (s : State) (i : Nat) (w : Strand) : (setStrand s i w).durable = s.durable := rfl
@[simp] theorem setStrand_subs (s : State) (i : Nat) (w : Strand) : (setStrand s i w).subs = s.subs := rfl
@[simp] theorem setStrand_sealKeys (s : State) (i : Nat) (w : Strand) : (setStrand s i w).sealKeys = s.sealKeys := rfl
@[simp] theorem setStrand_sealIdle (s : State) (i : Nat) (w : Strand) : (setStrand s i w).sealIdle = s.sealIdle := rfl
@[simp] theorem setStrand_scannerCas (s : State) (i : Nat) (w : Strand) : (setStrand s i w).scannerCas = s.scannerCas := rfl
@[simp] theorem setStrand_scannerDenied (s : State) (i : Nat) (w : Strand) : (setStrand s i w).scannerDenied = s.scannerDenied := rfl
@[simp] theorem setStrand_trust (s : State) (i : Nat) (w : Strand) : (setStrand s i w).trust = s.trust := rfl
@[simp] theorem setStrand_trustNo (s : State) (i : Nat) (w : Strand) : (setStrand s i w).trustNo = s.trustNo := rfl
@[simp] theorem setStrand_policies (s : State) (i : Nat) (w : Strand) : (setStrand s i w).policies = s.policies := rfl
@[simp] theorem setStrand_dsCache (s : State) (i : Nat) (w : Strand) : (setStrand s i w).dsCache = s.dsCache := rfl
@[simp] theorem setStrand_verdictKeys (s : State) (i : Nat) (w : Strand) : (setStrand s i w).verdictKeys = s.verdictKeys := rfl
@[simp] theorem setStrand_verdicts (s : State) (i : Nat) (w : Strand) : (setStrand s i w).verdicts = s.verdicts := rfl
@[simp] theorem setStrand_sheaves (s : State) (i : Nat) (w : Strand) : (setStrand s i w).sheaves = s.sheaves := rfl
@[simp] theorem setStrand_signers (s : State) (i : Nat) (w : Strand) : (setStrand s i w).signers = s.signers := rfl
@[simp] theorem setStrand_bindings (s : State) (i : Nat) (w : Strand) : (setStrand s i w).bindings = s.bindings := rfl
@[simp] theorem setStrand_instances (s : State) (i : Nat) (w : Strand) : (setStrand s i w).instances = s.instances := rfl
@[simp] theorem setStrand_cards (s : State) (i : Nat) (w : Strand) : (setStrand s i w).cards = s.cards := rfl
@[simp] theorem setStrand_journal (s : State) (i : Nat) (w : Strand) : (setStrand s i w).journal = s.journal := rfl
@[simp] theorem setStrand_journalNo (s : State) (i : Nat) (w : Strand) : (setStrand s i w).journalNo = s.journalNo := rfl
@[simp] theorem setStrand_officers (s : State) (i : Nat) (w : Strand) : (setStrand s i w).officers = s.officers := rfl
@[simp] theorem setStrand_quorumM (s : State) (i : Nat) (w : Strand) : (setStrand s i w).quorumM = s.quorumM := rfl
@[simp] theorem setStrand_approvals (s : State) (i : Nat) (w : Strand) : (setStrand s i w).approvals = s.approvals := rfl
@[simp] theorem setStrand_approvalNo (s : State) (i : Nat) (w : Strand) : (setStrand s i w).approvalNo = s.approvalNo := rfl
@[simp] theorem setStrand_scarecrow (s : State) (i : Nat) (w : Strand) : (setStrand s i w).scarecrow = s.scarecrow := rfl
@[simp] theorem setStrand_life (s : State) (i : Nat) (w : Strand) : (setStrand s i w).life = s.life := rfl
@[simp] theorem setStrand_lanyard (s : State) (i : Nat) (w : Strand) : (setStrand s i w).lanyard = s.lanyard := rfl
@[simp] theorem setStrand_pair (s : State) (i : Nat) (w : Strand) : (setStrand s i w).pair = s.pair := rfl
@[simp] theorem setStrand_update (s : State) (i : Nat) (w : Strand) : (setStrand s i w).update = s.update := rfl
@[simp] theorem setStrand_power (s : State) (i : Nat) (w : Strand) : (setStrand s i w).power = s.power := rfl
@[simp] theorem setStrand_withdrawals (s : State) (i : Nat) (w : Strand) : (setStrand s i w).withdrawals = s.withdrawals := rfl

@[simp] theorem setContext_pending (s : State) (c : Nat) (w : Context) : (setContext s c w).pending = s.pending := rfl
@[simp] theorem setContext_now (s : State) (c : Nat) (w : Context) : (setContext s c w).now = s.now := rfl
@[simp] theorem setContext_rng (s : State) (c : Nat) (w : Context) : (setContext s c w).rng = s.rng := rfl
@[simp] theorem setContext_ident (s : State) (c : Nat) (w : Context) : (setContext s c w).ident = s.ident := rfl
@[simp] theorem setContext_fns (s : State) (c : Nat) (w : Context) : (setContext s c w).fns = s.fns := rfl
@[simp] theorem setContext_vfEnable (s : State) (c : Nat) (w : Context) : (setContext s c w).vfEnable = s.vfEnable := rfl
@[simp] theorem setContext_numVfs (s : State) (c : Nat) (w : Context) : (setContext s c w).numVfs = s.numVfs := rfl
@[simp] theorem setContext_clients (s : State) (c : Nat) (w : Context) : (setContext s c w).clients = s.clients := rfl
@[simp] theorem setContext_hostWrites (s : State) (c : Nat) (w : Context) : (setContext s c w).hostWrites = s.hostWrites := rfl
@[simp] theorem setContext_hostReads (s : State) (c : Nat) (w : Context) : (setContext s c w).hostReads = s.hostReads := rfl
@[simp] theorem setContext_keys (s : State) (c : Nat) (w : Context) : (setContext s c w).keys = s.keys := rfl
@[simp] theorem setContext_wear (s : State) (c : Nat) (w : Context) : (setContext s c w).wear = s.wear := rfl
@[simp] theorem setContext_writes (s : State) (c : Nat) (w : Context) : (setContext s c w).writes = s.writes := rfl
@[simp] theorem setContext_counters (s : State) (c : Nat) (w : Context) : (setContext s c w).counters = s.counters := rfl
@[simp] theorem setContext_counterBase (s : State) (c : Nat) (w : Context) : (setContext s c w).counterBase = s.counterBase := rfl
@[simp] theorem setContext_almanac (s : State) (c : Nat) (w : Context) : (setContext s c w).almanac = s.almanac := rfl
@[simp] theorem setContext_ledger (s : State) (c : Nat) (w : Context) : (setContext s c w).ledger = s.ledger := rfl
@[simp] theorem setContext_jobs (s : State) (c : Nat) (w : Context) : (setContext s c w).jobs = s.jobs := rfl
@[simp] theorem setContext_jobNo (s : State) (c : Nat) (w : Context) : (setContext s c w).jobNo = s.jobNo := rfl
@[simp] theorem setContext_turnNo (s : State) (c : Nat) (w : Context) : (setContext s c w).turnNo = s.turnNo := rfl
@[simp] theorem setContext_twin (s : State) (c : Nat) (w : Context) : (setContext s c w).twin = s.twin := rfl
@[simp] theorem setContext_floors (s : State) (c : Nat) (w : Context) : (setContext s c w).floors = s.floors := rfl
@[simp] theorem setContext_stones (s : State) (c : Nat) (w : Context) : (setContext s c w).stones = s.stones := rfl
@[simp] theorem setContext_groupFences (s : State) (c : Nat) (w : Context) : (setContext s c w).groupFences = s.groupFences := rfl
@[simp] theorem setContext_curves (s : State) (c : Nat) (w : Context) : (setContext s c w).curves = s.curves := rfl
@[simp] theorem setContext_hatch (s : State) (c : Nat) (w : Context) : (setContext s c w).hatch = s.hatch := rfl
@[simp] theorem setContext_flail (s : State) (c : Nat) (w : Context) : (setContext s c w).flail = s.flail := rfl
@[simp] theorem setContext_ports (s : State) (c : Nat) (w : Context) : (setContext s c w).ports = s.ports := rfl
@[simp] theorem setContext_strands (s : State) (c : Nat) (w : Context) : (setContext s c w).strands = s.strands := rfl
@[simp] theorem setContext_durable (s : State) (c : Nat) (w : Context) : (setContext s c w).durable = s.durable := rfl
@[simp] theorem setContext_subs (s : State) (c : Nat) (w : Context) : (setContext s c w).subs = s.subs := rfl
@[simp] theorem setContext_sealKeys (s : State) (c : Nat) (w : Context) : (setContext s c w).sealKeys = s.sealKeys := rfl
@[simp] theorem setContext_sealIdle (s : State) (c : Nat) (w : Context) : (setContext s c w).sealIdle = s.sealIdle := rfl
@[simp] theorem setContext_scannerCas (s : State) (c : Nat) (w : Context) : (setContext s c w).scannerCas = s.scannerCas := rfl
@[simp] theorem setContext_scannerDenied (s : State) (c : Nat) (w : Context) : (setContext s c w).scannerDenied = s.scannerDenied := rfl
@[simp] theorem setContext_trust (s : State) (c : Nat) (w : Context) : (setContext s c w).trust = s.trust := rfl
@[simp] theorem setContext_trustNo (s : State) (c : Nat) (w : Context) : (setContext s c w).trustNo = s.trustNo := rfl
@[simp] theorem setContext_policies (s : State) (c : Nat) (w : Context) : (setContext s c w).policies = s.policies := rfl
@[simp] theorem setContext_dsCache (s : State) (c : Nat) (w : Context) : (setContext s c w).dsCache = s.dsCache := rfl
@[simp] theorem setContext_verdictKeys (s : State) (c : Nat) (w : Context) : (setContext s c w).verdictKeys = s.verdictKeys := rfl
@[simp] theorem setContext_verdicts (s : State) (c : Nat) (w : Context) : (setContext s c w).verdicts = s.verdicts := rfl
@[simp] theorem setContext_sheaves (s : State) (c : Nat) (w : Context) : (setContext s c w).sheaves = s.sheaves := rfl
@[simp] theorem setContext_signers (s : State) (c : Nat) (w : Context) : (setContext s c w).signers = s.signers := rfl
@[simp] theorem setContext_bindings (s : State) (c : Nat) (w : Context) : (setContext s c w).bindings = s.bindings := rfl
@[simp] theorem setContext_instances (s : State) (c : Nat) (w : Context) : (setContext s c w).instances = s.instances := rfl
@[simp] theorem setContext_cards (s : State) (c : Nat) (w : Context) : (setContext s c w).cards = s.cards := rfl
@[simp] theorem setContext_journal (s : State) (c : Nat) (w : Context) : (setContext s c w).journal = s.journal := rfl
@[simp] theorem setContext_journalNo (s : State) (c : Nat) (w : Context) : (setContext s c w).journalNo = s.journalNo := rfl
@[simp] theorem setContext_officers (s : State) (c : Nat) (w : Context) : (setContext s c w).officers = s.officers := rfl
@[simp] theorem setContext_quorumM (s : State) (c : Nat) (w : Context) : (setContext s c w).quorumM = s.quorumM := rfl
@[simp] theorem setContext_approvals (s : State) (c : Nat) (w : Context) : (setContext s c w).approvals = s.approvals := rfl
@[simp] theorem setContext_approvalNo (s : State) (c : Nat) (w : Context) : (setContext s c w).approvalNo = s.approvalNo := rfl
@[simp] theorem setContext_scarecrow (s : State) (c : Nat) (w : Context) : (setContext s c w).scarecrow = s.scarecrow := rfl
@[simp] theorem setContext_life (s : State) (c : Nat) (w : Context) : (setContext s c w).life = s.life := rfl
@[simp] theorem setContext_lanyard (s : State) (c : Nat) (w : Context) : (setContext s c w).lanyard = s.lanyard := rfl
@[simp] theorem setContext_pair (s : State) (c : Nat) (w : Context) : (setContext s c w).pair = s.pair := rfl
@[simp] theorem setContext_update (s : State) (c : Nat) (w : Context) : (setContext s c w).update = s.update := rfl
@[simp] theorem setContext_power (s : State) (c : Nat) (w : Context) : (setContext s c w).power = s.power := rfl
@[simp] theorem setContext_withdrawals (s : State) (c : Nat) (w : Context) : (setContext s c w).withdrawals = s.withdrawals := rfl

@[simp] theorem setCardSlot_pending (s : State) (n : Nat) (w : CardSlot) : (setCardSlot s n w).pending = s.pending := rfl
@[simp] theorem setCardSlot_now (s : State) (n : Nat) (w : CardSlot) : (setCardSlot s n w).now = s.now := rfl
@[simp] theorem setCardSlot_rng (s : State) (n : Nat) (w : CardSlot) : (setCardSlot s n w).rng = s.rng := rfl
@[simp] theorem setCardSlot_ident (s : State) (n : Nat) (w : CardSlot) : (setCardSlot s n w).ident = s.ident := rfl
@[simp] theorem setCardSlot_fns (s : State) (n : Nat) (w : CardSlot) : (setCardSlot s n w).fns = s.fns := rfl
@[simp] theorem setCardSlot_vfEnable (s : State) (n : Nat) (w : CardSlot) : (setCardSlot s n w).vfEnable = s.vfEnable := rfl
@[simp] theorem setCardSlot_numVfs (s : State) (n : Nat) (w : CardSlot) : (setCardSlot s n w).numVfs = s.numVfs := rfl
@[simp] theorem setCardSlot_clients (s : State) (n : Nat) (w : CardSlot) : (setCardSlot s n w).clients = s.clients := rfl
@[simp] theorem setCardSlot_hostWrites (s : State) (n : Nat) (w : CardSlot) : (setCardSlot s n w).hostWrites = s.hostWrites := rfl
@[simp] theorem setCardSlot_hostReads (s : State) (n : Nat) (w : CardSlot) : (setCardSlot s n w).hostReads = s.hostReads := rfl
@[simp] theorem setCardSlot_keys (s : State) (n : Nat) (w : CardSlot) : (setCardSlot s n w).keys = s.keys := rfl
@[simp] theorem setCardSlot_wear (s : State) (n : Nat) (w : CardSlot) : (setCardSlot s n w).wear = s.wear := rfl
@[simp] theorem setCardSlot_writes (s : State) (n : Nat) (w : CardSlot) : (setCardSlot s n w).writes = s.writes := rfl
@[simp] theorem setCardSlot_counters (s : State) (n : Nat) (w : CardSlot) : (setCardSlot s n w).counters = s.counters := rfl
@[simp] theorem setCardSlot_counterBase (s : State) (n : Nat) (w : CardSlot) : (setCardSlot s n w).counterBase = s.counterBase := rfl
@[simp] theorem setCardSlot_almanac (s : State) (n : Nat) (w : CardSlot) : (setCardSlot s n w).almanac = s.almanac := rfl
@[simp] theorem setCardSlot_ledger (s : State) (n : Nat) (w : CardSlot) : (setCardSlot s n w).ledger = s.ledger := rfl
@[simp] theorem setCardSlot_jobs (s : State) (n : Nat) (w : CardSlot) : (setCardSlot s n w).jobs = s.jobs := rfl
@[simp] theorem setCardSlot_jobNo (s : State) (n : Nat) (w : CardSlot) : (setCardSlot s n w).jobNo = s.jobNo := rfl
@[simp] theorem setCardSlot_turnNo (s : State) (n : Nat) (w : CardSlot) : (setCardSlot s n w).turnNo = s.turnNo := rfl
@[simp] theorem setCardSlot_contexts (s : State) (n : Nat) (w : CardSlot) : (setCardSlot s n w).contexts = s.contexts := rfl
@[simp] theorem setCardSlot_twin (s : State) (n : Nat) (w : CardSlot) : (setCardSlot s n w).twin = s.twin := rfl
@[simp] theorem setCardSlot_floors (s : State) (n : Nat) (w : CardSlot) : (setCardSlot s n w).floors = s.floors := rfl
@[simp] theorem setCardSlot_stones (s : State) (n : Nat) (w : CardSlot) : (setCardSlot s n w).stones = s.stones := rfl
@[simp] theorem setCardSlot_groupFences (s : State) (n : Nat) (w : CardSlot) : (setCardSlot s n w).groupFences = s.groupFences := rfl
@[simp] theorem setCardSlot_curves (s : State) (n : Nat) (w : CardSlot) : (setCardSlot s n w).curves = s.curves := rfl
@[simp] theorem setCardSlot_hatch (s : State) (n : Nat) (w : CardSlot) : (setCardSlot s n w).hatch = s.hatch := rfl
@[simp] theorem setCardSlot_flail (s : State) (n : Nat) (w : CardSlot) : (setCardSlot s n w).flail = s.flail := rfl
@[simp] theorem setCardSlot_ports (s : State) (n : Nat) (w : CardSlot) : (setCardSlot s n w).ports = s.ports := rfl
@[simp] theorem setCardSlot_strands (s : State) (n : Nat) (w : CardSlot) : (setCardSlot s n w).strands = s.strands := rfl
@[simp] theorem setCardSlot_durable (s : State) (n : Nat) (w : CardSlot) : (setCardSlot s n w).durable = s.durable := rfl
@[simp] theorem setCardSlot_subs (s : State) (n : Nat) (w : CardSlot) : (setCardSlot s n w).subs = s.subs := rfl
@[simp] theorem setCardSlot_sealKeys (s : State) (n : Nat) (w : CardSlot) : (setCardSlot s n w).sealKeys = s.sealKeys := rfl
@[simp] theorem setCardSlot_sealIdle (s : State) (n : Nat) (w : CardSlot) : (setCardSlot s n w).sealIdle = s.sealIdle := rfl
@[simp] theorem setCardSlot_scannerCas (s : State) (n : Nat) (w : CardSlot) : (setCardSlot s n w).scannerCas = s.scannerCas := rfl
@[simp] theorem setCardSlot_scannerDenied (s : State) (n : Nat) (w : CardSlot) : (setCardSlot s n w).scannerDenied = s.scannerDenied := rfl
@[simp] theorem setCardSlot_trust (s : State) (n : Nat) (w : CardSlot) : (setCardSlot s n w).trust = s.trust := rfl
@[simp] theorem setCardSlot_trustNo (s : State) (n : Nat) (w : CardSlot) : (setCardSlot s n w).trustNo = s.trustNo := rfl
@[simp] theorem setCardSlot_policies (s : State) (n : Nat) (w : CardSlot) : (setCardSlot s n w).policies = s.policies := rfl
@[simp] theorem setCardSlot_dsCache (s : State) (n : Nat) (w : CardSlot) : (setCardSlot s n w).dsCache = s.dsCache := rfl
@[simp] theorem setCardSlot_verdictKeys (s : State) (n : Nat) (w : CardSlot) : (setCardSlot s n w).verdictKeys = s.verdictKeys := rfl
@[simp] theorem setCardSlot_verdicts (s : State) (n : Nat) (w : CardSlot) : (setCardSlot s n w).verdicts = s.verdicts := rfl
@[simp] theorem setCardSlot_sheaves (s : State) (n : Nat) (w : CardSlot) : (setCardSlot s n w).sheaves = s.sheaves := rfl
@[simp] theorem setCardSlot_signers (s : State) (n : Nat) (w : CardSlot) : (setCardSlot s n w).signers = s.signers := rfl
@[simp] theorem setCardSlot_bindings (s : State) (n : Nat) (w : CardSlot) : (setCardSlot s n w).bindings = s.bindings := rfl
@[simp] theorem setCardSlot_instances (s : State) (n : Nat) (w : CardSlot) : (setCardSlot s n w).instances = s.instances := rfl
@[simp] theorem setCardSlot_journal (s : State) (n : Nat) (w : CardSlot) : (setCardSlot s n w).journal = s.journal := rfl
@[simp] theorem setCardSlot_journalNo (s : State) (n : Nat) (w : CardSlot) : (setCardSlot s n w).journalNo = s.journalNo := rfl
@[simp] theorem setCardSlot_officers (s : State) (n : Nat) (w : CardSlot) : (setCardSlot s n w).officers = s.officers := rfl
@[simp] theorem setCardSlot_quorumM (s : State) (n : Nat) (w : CardSlot) : (setCardSlot s n w).quorumM = s.quorumM := rfl
@[simp] theorem setCardSlot_approvals (s : State) (n : Nat) (w : CardSlot) : (setCardSlot s n w).approvals = s.approvals := rfl
@[simp] theorem setCardSlot_approvalNo (s : State) (n : Nat) (w : CardSlot) : (setCardSlot s n w).approvalNo = s.approvalNo := rfl
@[simp] theorem setCardSlot_scarecrow (s : State) (n : Nat) (w : CardSlot) : (setCardSlot s n w).scarecrow = s.scarecrow := rfl
@[simp] theorem setCardSlot_life (s : State) (n : Nat) (w : CardSlot) : (setCardSlot s n w).life = s.life := rfl
@[simp] theorem setCardSlot_lanyard (s : State) (n : Nat) (w : CardSlot) : (setCardSlot s n w).lanyard = s.lanyard := rfl
@[simp] theorem setCardSlot_pair (s : State) (n : Nat) (w : CardSlot) : (setCardSlot s n w).pair = s.pair := rfl
@[simp] theorem setCardSlot_update (s : State) (n : Nat) (w : CardSlot) : (setCardSlot s n w).update = s.update := rfl
@[simp] theorem setCardSlot_power (s : State) (n : Nat) (w : CardSlot) : (setCardSlot s n w).power = s.power := rfl
@[simp] theorem setCardSlot_withdrawals (s : State) (n : Nat) (w : CardSlot) : (setCardSlot s n w).withdrawals = s.withdrawals := rfl

@[simp] theorem setScarecrow_pending (s : State) (w : Scarecrow) : (setScarecrow s w).pending = s.pending := rfl
@[simp] theorem setScarecrow_now (s : State) (w : Scarecrow) : (setScarecrow s w).now = s.now := rfl
@[simp] theorem setScarecrow_rng (s : State) (w : Scarecrow) : (setScarecrow s w).rng = s.rng := rfl
@[simp] theorem setScarecrow_ident (s : State) (w : Scarecrow) : (setScarecrow s w).ident = s.ident := rfl
@[simp] theorem setScarecrow_fns (s : State) (w : Scarecrow) : (setScarecrow s w).fns = s.fns := rfl
@[simp] theorem setScarecrow_vfEnable (s : State) (w : Scarecrow) : (setScarecrow s w).vfEnable = s.vfEnable := rfl
@[simp] theorem setScarecrow_numVfs (s : State) (w : Scarecrow) : (setScarecrow s w).numVfs = s.numVfs := rfl
@[simp] theorem setScarecrow_clients (s : State) (w : Scarecrow) : (setScarecrow s w).clients = s.clients := rfl
@[simp] theorem setScarecrow_hostWrites (s : State) (w : Scarecrow) : (setScarecrow s w).hostWrites = s.hostWrites := rfl
@[simp] theorem setScarecrow_hostReads (s : State) (w : Scarecrow) : (setScarecrow s w).hostReads = s.hostReads := rfl
@[simp] theorem setScarecrow_keys (s : State) (w : Scarecrow) : (setScarecrow s w).keys = s.keys := rfl
@[simp] theorem setScarecrow_wear (s : State) (w : Scarecrow) : (setScarecrow s w).wear = s.wear := rfl
@[simp] theorem setScarecrow_writes (s : State) (w : Scarecrow) : (setScarecrow s w).writes = s.writes := rfl
@[simp] theorem setScarecrow_counters (s : State) (w : Scarecrow) : (setScarecrow s w).counters = s.counters := rfl
@[simp] theorem setScarecrow_counterBase (s : State) (w : Scarecrow) : (setScarecrow s w).counterBase = s.counterBase := rfl
@[simp] theorem setScarecrow_almanac (s : State) (w : Scarecrow) : (setScarecrow s w).almanac = s.almanac := rfl
@[simp] theorem setScarecrow_ledger (s : State) (w : Scarecrow) : (setScarecrow s w).ledger = s.ledger := rfl
@[simp] theorem setScarecrow_jobs (s : State) (w : Scarecrow) : (setScarecrow s w).jobs = s.jobs := rfl
@[simp] theorem setScarecrow_jobNo (s : State) (w : Scarecrow) : (setScarecrow s w).jobNo = s.jobNo := rfl
@[simp] theorem setScarecrow_turnNo (s : State) (w : Scarecrow) : (setScarecrow s w).turnNo = s.turnNo := rfl
@[simp] theorem setScarecrow_contexts (s : State) (w : Scarecrow) : (setScarecrow s w).contexts = s.contexts := rfl
@[simp] theorem setScarecrow_twin (s : State) (w : Scarecrow) : (setScarecrow s w).twin = s.twin := rfl
@[simp] theorem setScarecrow_floors (s : State) (w : Scarecrow) : (setScarecrow s w).floors = s.floors := rfl
@[simp] theorem setScarecrow_stones (s : State) (w : Scarecrow) : (setScarecrow s w).stones = s.stones := rfl
@[simp] theorem setScarecrow_groupFences (s : State) (w : Scarecrow) : (setScarecrow s w).groupFences = s.groupFences := rfl
@[simp] theorem setScarecrow_curves (s : State) (w : Scarecrow) : (setScarecrow s w).curves = s.curves := rfl
@[simp] theorem setScarecrow_hatch (s : State) (w : Scarecrow) : (setScarecrow s w).hatch = s.hatch := rfl
@[simp] theorem setScarecrow_flail (s : State) (w : Scarecrow) : (setScarecrow s w).flail = s.flail := rfl
@[simp] theorem setScarecrow_ports (s : State) (w : Scarecrow) : (setScarecrow s w).ports = s.ports := rfl
@[simp] theorem setScarecrow_strands (s : State) (w : Scarecrow) : (setScarecrow s w).strands = s.strands := rfl
@[simp] theorem setScarecrow_durable (s : State) (w : Scarecrow) : (setScarecrow s w).durable = s.durable := rfl
@[simp] theorem setScarecrow_subs (s : State) (w : Scarecrow) : (setScarecrow s w).subs = s.subs := rfl
@[simp] theorem setScarecrow_sealKeys (s : State) (w : Scarecrow) : (setScarecrow s w).sealKeys = s.sealKeys := rfl
@[simp] theorem setScarecrow_sealIdle (s : State) (w : Scarecrow) : (setScarecrow s w).sealIdle = s.sealIdle := rfl
@[simp] theorem setScarecrow_scannerCas (s : State) (w : Scarecrow) : (setScarecrow s w).scannerCas = s.scannerCas := rfl
@[simp] theorem setScarecrow_scannerDenied (s : State) (w : Scarecrow) : (setScarecrow s w).scannerDenied = s.scannerDenied := rfl
@[simp] theorem setScarecrow_trust (s : State) (w : Scarecrow) : (setScarecrow s w).trust = s.trust := rfl
@[simp] theorem setScarecrow_trustNo (s : State) (w : Scarecrow) : (setScarecrow s w).trustNo = s.trustNo := rfl
@[simp] theorem setScarecrow_policies (s : State) (w : Scarecrow) : (setScarecrow s w).policies = s.policies := rfl
@[simp] theorem setScarecrow_dsCache (s : State) (w : Scarecrow) : (setScarecrow s w).dsCache = s.dsCache := rfl
@[simp] theorem setScarecrow_verdictKeys (s : State) (w : Scarecrow) : (setScarecrow s w).verdictKeys = s.verdictKeys := rfl
@[simp] theorem setScarecrow_verdicts (s : State) (w : Scarecrow) : (setScarecrow s w).verdicts = s.verdicts := rfl
@[simp] theorem setScarecrow_sheaves (s : State) (w : Scarecrow) : (setScarecrow s w).sheaves = s.sheaves := rfl
@[simp] theorem setScarecrow_signers (s : State) (w : Scarecrow) : (setScarecrow s w).signers = s.signers := rfl
@[simp] theorem setScarecrow_bindings (s : State) (w : Scarecrow) : (setScarecrow s w).bindings = s.bindings := rfl
@[simp] theorem setScarecrow_instances (s : State) (w : Scarecrow) : (setScarecrow s w).instances = s.instances := rfl
@[simp] theorem setScarecrow_cards (s : State) (w : Scarecrow) : (setScarecrow s w).cards = s.cards := rfl
@[simp] theorem setScarecrow_journal (s : State) (w : Scarecrow) : (setScarecrow s w).journal = s.journal := rfl
@[simp] theorem setScarecrow_journalNo (s : State) (w : Scarecrow) : (setScarecrow s w).journalNo = s.journalNo := rfl
@[simp] theorem setScarecrow_officers (s : State) (w : Scarecrow) : (setScarecrow s w).officers = s.officers := rfl
@[simp] theorem setScarecrow_quorumM (s : State) (w : Scarecrow) : (setScarecrow s w).quorumM = s.quorumM := rfl
@[simp] theorem setScarecrow_approvals (s : State) (w : Scarecrow) : (setScarecrow s w).approvals = s.approvals := rfl
@[simp] theorem setScarecrow_approvalNo (s : State) (w : Scarecrow) : (setScarecrow s w).approvalNo = s.approvalNo := rfl
@[simp] theorem setScarecrow_life (s : State) (w : Scarecrow) : (setScarecrow s w).life = s.life := rfl
@[simp] theorem setScarecrow_lanyard (s : State) (w : Scarecrow) : (setScarecrow s w).lanyard = s.lanyard := rfl
@[simp] theorem setScarecrow_pair (s : State) (w : Scarecrow) : (setScarecrow s w).pair = s.pair := rfl
@[simp] theorem setScarecrow_update (s : State) (w : Scarecrow) : (setScarecrow s w).update = s.update := rfl
@[simp] theorem setScarecrow_power (s : State) (w : Scarecrow) : (setScarecrow s w).power = s.power := rfl
@[simp] theorem setScarecrow_withdrawals (s : State) (w : Scarecrow) : (setScarecrow s w).withdrawals = s.withdrawals := rfl

@[simp] theorem setMonitor_pending (s : State) (m : Nat) (w : Monitor) : (setMonitor s m w).pending = s.pending := rfl
@[simp] theorem setMonitor_now (s : State) (m : Nat) (w : Monitor) : (setMonitor s m w).now = s.now := rfl
@[simp] theorem setMonitor_rng (s : State) (m : Nat) (w : Monitor) : (setMonitor s m w).rng = s.rng := rfl
@[simp] theorem setMonitor_ident (s : State) (m : Nat) (w : Monitor) : (setMonitor s m w).ident = s.ident := rfl
@[simp] theorem setMonitor_fns (s : State) (m : Nat) (w : Monitor) : (setMonitor s m w).fns = s.fns := rfl
@[simp] theorem setMonitor_vfEnable (s : State) (m : Nat) (w : Monitor) : (setMonitor s m w).vfEnable = s.vfEnable := rfl
@[simp] theorem setMonitor_numVfs (s : State) (m : Nat) (w : Monitor) : (setMonitor s m w).numVfs = s.numVfs := rfl
@[simp] theorem setMonitor_clients (s : State) (m : Nat) (w : Monitor) : (setMonitor s m w).clients = s.clients := rfl
@[simp] theorem setMonitor_hostWrites (s : State) (m : Nat) (w : Monitor) : (setMonitor s m w).hostWrites = s.hostWrites := rfl
@[simp] theorem setMonitor_hostReads (s : State) (m : Nat) (w : Monitor) : (setMonitor s m w).hostReads = s.hostReads := rfl
@[simp] theorem setMonitor_keys (s : State) (m : Nat) (w : Monitor) : (setMonitor s m w).keys = s.keys := rfl
@[simp] theorem setMonitor_wear (s : State) (m : Nat) (w : Monitor) : (setMonitor s m w).wear = s.wear := rfl
@[simp] theorem setMonitor_writes (s : State) (m : Nat) (w : Monitor) : (setMonitor s m w).writes = s.writes := rfl
@[simp] theorem setMonitor_counters (s : State) (m : Nat) (w : Monitor) : (setMonitor s m w).counters = s.counters := rfl
@[simp] theorem setMonitor_counterBase (s : State) (m : Nat) (w : Monitor) : (setMonitor s m w).counterBase = s.counterBase := rfl
@[simp] theorem setMonitor_almanac (s : State) (m : Nat) (w : Monitor) : (setMonitor s m w).almanac = s.almanac := rfl
@[simp] theorem setMonitor_ledger (s : State) (m : Nat) (w : Monitor) : (setMonitor s m w).ledger = s.ledger := rfl
@[simp] theorem setMonitor_jobs (s : State) (m : Nat) (w : Monitor) : (setMonitor s m w).jobs = s.jobs := rfl
@[simp] theorem setMonitor_jobNo (s : State) (m : Nat) (w : Monitor) : (setMonitor s m w).jobNo = s.jobNo := rfl
@[simp] theorem setMonitor_turnNo (s : State) (m : Nat) (w : Monitor) : (setMonitor s m w).turnNo = s.turnNo := rfl
@[simp] theorem setMonitor_contexts (s : State) (m : Nat) (w : Monitor) : (setMonitor s m w).contexts = s.contexts := rfl
@[simp] theorem setMonitor_twin (s : State) (m : Nat) (w : Monitor) : (setMonitor s m w).twin = s.twin := rfl
@[simp] theorem setMonitor_floors (s : State) (m : Nat) (w : Monitor) : (setMonitor s m w).floors = s.floors := rfl
@[simp] theorem setMonitor_stones (s : State) (m : Nat) (w : Monitor) : (setMonitor s m w).stones = s.stones := rfl
@[simp] theorem setMonitor_groupFences (s : State) (m : Nat) (w : Monitor) : (setMonitor s m w).groupFences = s.groupFences := rfl
@[simp] theorem setMonitor_curves (s : State) (m : Nat) (w : Monitor) : (setMonitor s m w).curves = s.curves := rfl
@[simp] theorem setMonitor_hatch (s : State) (m : Nat) (w : Monitor) : (setMonitor s m w).hatch = s.hatch := rfl
@[simp] theorem setMonitor_flail (s : State) (m : Nat) (w : Monitor) : (setMonitor s m w).flail = s.flail := rfl
@[simp] theorem setMonitor_ports (s : State) (m : Nat) (w : Monitor) : (setMonitor s m w).ports = s.ports := rfl
@[simp] theorem setMonitor_strands (s : State) (m : Nat) (w : Monitor) : (setMonitor s m w).strands = s.strands := rfl
@[simp] theorem setMonitor_durable (s : State) (m : Nat) (w : Monitor) : (setMonitor s m w).durable = s.durable := rfl
@[simp] theorem setMonitor_subs (s : State) (m : Nat) (w : Monitor) : (setMonitor s m w).subs = s.subs := rfl
@[simp] theorem setMonitor_sealKeys (s : State) (m : Nat) (w : Monitor) : (setMonitor s m w).sealKeys = s.sealKeys := rfl
@[simp] theorem setMonitor_sealIdle (s : State) (m : Nat) (w : Monitor) : (setMonitor s m w).sealIdle = s.sealIdle := rfl
@[simp] theorem setMonitor_scannerCas (s : State) (m : Nat) (w : Monitor) : (setMonitor s m w).scannerCas = s.scannerCas := rfl
@[simp] theorem setMonitor_scannerDenied (s : State) (m : Nat) (w : Monitor) : (setMonitor s m w).scannerDenied = s.scannerDenied := rfl
@[simp] theorem setMonitor_trust (s : State) (m : Nat) (w : Monitor) : (setMonitor s m w).trust = s.trust := rfl
@[simp] theorem setMonitor_trustNo (s : State) (m : Nat) (w : Monitor) : (setMonitor s m w).trustNo = s.trustNo := rfl
@[simp] theorem setMonitor_policies (s : State) (m : Nat) (w : Monitor) : (setMonitor s m w).policies = s.policies := rfl
@[simp] theorem setMonitor_dsCache (s : State) (m : Nat) (w : Monitor) : (setMonitor s m w).dsCache = s.dsCache := rfl
@[simp] theorem setMonitor_verdictKeys (s : State) (m : Nat) (w : Monitor) : (setMonitor s m w).verdictKeys = s.verdictKeys := rfl
@[simp] theorem setMonitor_verdicts (s : State) (m : Nat) (w : Monitor) : (setMonitor s m w).verdicts = s.verdicts := rfl
@[simp] theorem setMonitor_sheaves (s : State) (m : Nat) (w : Monitor) : (setMonitor s m w).sheaves = s.sheaves := rfl
@[simp] theorem setMonitor_signers (s : State) (m : Nat) (w : Monitor) : (setMonitor s m w).signers = s.signers := rfl
@[simp] theorem setMonitor_bindings (s : State) (m : Nat) (w : Monitor) : (setMonitor s m w).bindings = s.bindings := rfl
@[simp] theorem setMonitor_instances (s : State) (m : Nat) (w : Monitor) : (setMonitor s m w).instances = s.instances := rfl
@[simp] theorem setMonitor_cards (s : State) (m : Nat) (w : Monitor) : (setMonitor s m w).cards = s.cards := rfl
@[simp] theorem setMonitor_journal (s : State) (m : Nat) (w : Monitor) : (setMonitor s m w).journal = s.journal := rfl
@[simp] theorem setMonitor_journalNo (s : State) (m : Nat) (w : Monitor) : (setMonitor s m w).journalNo = s.journalNo := rfl
@[simp] theorem setMonitor_officers (s : State) (m : Nat) (w : Monitor) : (setMonitor s m w).officers = s.officers := rfl
@[simp] theorem setMonitor_quorumM (s : State) (m : Nat) (w : Monitor) : (setMonitor s m w).quorumM = s.quorumM := rfl
@[simp] theorem setMonitor_approvals (s : State) (m : Nat) (w : Monitor) : (setMonitor s m w).approvals = s.approvals := rfl
@[simp] theorem setMonitor_approvalNo (s : State) (m : Nat) (w : Monitor) : (setMonitor s m w).approvalNo = s.approvalNo := rfl
@[simp] theorem setMonitor_life (s : State) (m : Nat) (w : Monitor) : (setMonitor s m w).life = s.life := rfl
@[simp] theorem setMonitor_lanyard (s : State) (m : Nat) (w : Monitor) : (setMonitor s m w).lanyard = s.lanyard := rfl
@[simp] theorem setMonitor_pair (s : State) (m : Nat) (w : Monitor) : (setMonitor s m w).pair = s.pair := rfl
@[simp] theorem setMonitor_update (s : State) (m : Nat) (w : Monitor) : (setMonitor s m w).update = s.update := rfl
@[simp] theorem setMonitor_power (s : State) (m : Nat) (w : Monitor) : (setMonitor s m w).power = s.power := rfl
@[simp] theorem setMonitor_withdrawals (s : State) (m : Nat) (w : Monitor) : (setMonitor s m w).withdrawals = s.withdrawals := rfl

@[simp] theorem setPair_pending (s : State) (w : Pair) : (setPair s w).pending = s.pending := rfl
@[simp] theorem setPair_now (s : State) (w : Pair) : (setPair s w).now = s.now := rfl
@[simp] theorem setPair_rng (s : State) (w : Pair) : (setPair s w).rng = s.rng := rfl
@[simp] theorem setPair_ident (s : State) (w : Pair) : (setPair s w).ident = s.ident := rfl
@[simp] theorem setPair_fns (s : State) (w : Pair) : (setPair s w).fns = s.fns := rfl
@[simp] theorem setPair_vfEnable (s : State) (w : Pair) : (setPair s w).vfEnable = s.vfEnable := rfl
@[simp] theorem setPair_numVfs (s : State) (w : Pair) : (setPair s w).numVfs = s.numVfs := rfl
@[simp] theorem setPair_clients (s : State) (w : Pair) : (setPair s w).clients = s.clients := rfl
@[simp] theorem setPair_hostWrites (s : State) (w : Pair) : (setPair s w).hostWrites = s.hostWrites := rfl
@[simp] theorem setPair_hostReads (s : State) (w : Pair) : (setPair s w).hostReads = s.hostReads := rfl
@[simp] theorem setPair_keys (s : State) (w : Pair) : (setPair s w).keys = s.keys := rfl
@[simp] theorem setPair_wear (s : State) (w : Pair) : (setPair s w).wear = s.wear := rfl
@[simp] theorem setPair_writes (s : State) (w : Pair) : (setPair s w).writes = s.writes := rfl
@[simp] theorem setPair_counters (s : State) (w : Pair) : (setPair s w).counters = s.counters := rfl
@[simp] theorem setPair_counterBase (s : State) (w : Pair) : (setPair s w).counterBase = s.counterBase := rfl
@[simp] theorem setPair_almanac (s : State) (w : Pair) : (setPair s w).almanac = s.almanac := rfl
@[simp] theorem setPair_ledger (s : State) (w : Pair) : (setPair s w).ledger = s.ledger := rfl
@[simp] theorem setPair_jobs (s : State) (w : Pair) : (setPair s w).jobs = s.jobs := rfl
@[simp] theorem setPair_jobNo (s : State) (w : Pair) : (setPair s w).jobNo = s.jobNo := rfl
@[simp] theorem setPair_turnNo (s : State) (w : Pair) : (setPair s w).turnNo = s.turnNo := rfl
@[simp] theorem setPair_contexts (s : State) (w : Pair) : (setPair s w).contexts = s.contexts := rfl
@[simp] theorem setPair_twin (s : State) (w : Pair) : (setPair s w).twin = s.twin := rfl
@[simp] theorem setPair_floors (s : State) (w : Pair) : (setPair s w).floors = s.floors := rfl
@[simp] theorem setPair_stones (s : State) (w : Pair) : (setPair s w).stones = s.stones := rfl
@[simp] theorem setPair_groupFences (s : State) (w : Pair) : (setPair s w).groupFences = s.groupFences := rfl
@[simp] theorem setPair_curves (s : State) (w : Pair) : (setPair s w).curves = s.curves := rfl
@[simp] theorem setPair_hatch (s : State) (w : Pair) : (setPair s w).hatch = s.hatch := rfl
@[simp] theorem setPair_flail (s : State) (w : Pair) : (setPair s w).flail = s.flail := rfl
@[simp] theorem setPair_ports (s : State) (w : Pair) : (setPair s w).ports = s.ports := rfl
@[simp] theorem setPair_strands (s : State) (w : Pair) : (setPair s w).strands = s.strands := rfl
@[simp] theorem setPair_durable (s : State) (w : Pair) : (setPair s w).durable = s.durable := rfl
@[simp] theorem setPair_subs (s : State) (w : Pair) : (setPair s w).subs = s.subs := rfl
@[simp] theorem setPair_sealKeys (s : State) (w : Pair) : (setPair s w).sealKeys = s.sealKeys := rfl
@[simp] theorem setPair_sealIdle (s : State) (w : Pair) : (setPair s w).sealIdle = s.sealIdle := rfl
@[simp] theorem setPair_scannerCas (s : State) (w : Pair) : (setPair s w).scannerCas = s.scannerCas := rfl
@[simp] theorem setPair_scannerDenied (s : State) (w : Pair) : (setPair s w).scannerDenied = s.scannerDenied := rfl
@[simp] theorem setPair_trust (s : State) (w : Pair) : (setPair s w).trust = s.trust := rfl
@[simp] theorem setPair_trustNo (s : State) (w : Pair) : (setPair s w).trustNo = s.trustNo := rfl
@[simp] theorem setPair_policies (s : State) (w : Pair) : (setPair s w).policies = s.policies := rfl
@[simp] theorem setPair_dsCache (s : State) (w : Pair) : (setPair s w).dsCache = s.dsCache := rfl
@[simp] theorem setPair_verdictKeys (s : State) (w : Pair) : (setPair s w).verdictKeys = s.verdictKeys := rfl
@[simp] theorem setPair_verdicts (s : State) (w : Pair) : (setPair s w).verdicts = s.verdicts := rfl
@[simp] theorem setPair_sheaves (s : State) (w : Pair) : (setPair s w).sheaves = s.sheaves := rfl
@[simp] theorem setPair_signers (s : State) (w : Pair) : (setPair s w).signers = s.signers := rfl
@[simp] theorem setPair_bindings (s : State) (w : Pair) : (setPair s w).bindings = s.bindings := rfl
@[simp] theorem setPair_instances (s : State) (w : Pair) : (setPair s w).instances = s.instances := rfl
@[simp] theorem setPair_cards (s : State) (w : Pair) : (setPair s w).cards = s.cards := rfl
@[simp] theorem setPair_journal (s : State) (w : Pair) : (setPair s w).journal = s.journal := rfl
@[simp] theorem setPair_journalNo (s : State) (w : Pair) : (setPair s w).journalNo = s.journalNo := rfl
@[simp] theorem setPair_officers (s : State) (w : Pair) : (setPair s w).officers = s.officers := rfl
@[simp] theorem setPair_quorumM (s : State) (w : Pair) : (setPair s w).quorumM = s.quorumM := rfl
@[simp] theorem setPair_approvals (s : State) (w : Pair) : (setPair s w).approvals = s.approvals := rfl
@[simp] theorem setPair_approvalNo (s : State) (w : Pair) : (setPair s w).approvalNo = s.approvalNo := rfl
@[simp] theorem setPair_scarecrow (s : State) (w : Pair) : (setPair s w).scarecrow = s.scarecrow := rfl
@[simp] theorem setPair_life (s : State) (w : Pair) : (setPair s w).life = s.life := rfl
@[simp] theorem setPair_lanyard (s : State) (w : Pair) : (setPair s w).lanyard = s.lanyard := rfl
@[simp] theorem setPair_update (s : State) (w : Pair) : (setPair s w).update = s.update := rfl
@[simp] theorem setPair_power (s : State) (w : Pair) : (setPair s w).power = s.power := rfl
@[simp] theorem setPair_withdrawals (s : State) (w : Pair) : (setPair s w).withdrawals = s.withdrawals := rfl

@[simp] theorem setPower_pending (s : State) (w : Power) : (setPower s w).pending = s.pending := rfl
@[simp] theorem setPower_now (s : State) (w : Power) : (setPower s w).now = s.now := rfl
@[simp] theorem setPower_rng (s : State) (w : Power) : (setPower s w).rng = s.rng := rfl
@[simp] theorem setPower_ident (s : State) (w : Power) : (setPower s w).ident = s.ident := rfl
@[simp] theorem setPower_fns (s : State) (w : Power) : (setPower s w).fns = s.fns := rfl
@[simp] theorem setPower_vfEnable (s : State) (w : Power) : (setPower s w).vfEnable = s.vfEnable := rfl
@[simp] theorem setPower_numVfs (s : State) (w : Power) : (setPower s w).numVfs = s.numVfs := rfl
@[simp] theorem setPower_clients (s : State) (w : Power) : (setPower s w).clients = s.clients := rfl
@[simp] theorem setPower_hostWrites (s : State) (w : Power) : (setPower s w).hostWrites = s.hostWrites := rfl
@[simp] theorem setPower_hostReads (s : State) (w : Power) : (setPower s w).hostReads = s.hostReads := rfl
@[simp] theorem setPower_keys (s : State) (w : Power) : (setPower s w).keys = s.keys := rfl
@[simp] theorem setPower_wear (s : State) (w : Power) : (setPower s w).wear = s.wear := rfl
@[simp] theorem setPower_writes (s : State) (w : Power) : (setPower s w).writes = s.writes := rfl
@[simp] theorem setPower_counters (s : State) (w : Power) : (setPower s w).counters = s.counters := rfl
@[simp] theorem setPower_counterBase (s : State) (w : Power) : (setPower s w).counterBase = s.counterBase := rfl
@[simp] theorem setPower_almanac (s : State) (w : Power) : (setPower s w).almanac = s.almanac := rfl
@[simp] theorem setPower_ledger (s : State) (w : Power) : (setPower s w).ledger = s.ledger := rfl
@[simp] theorem setPower_jobs (s : State) (w : Power) : (setPower s w).jobs = s.jobs := rfl
@[simp] theorem setPower_jobNo (s : State) (w : Power) : (setPower s w).jobNo = s.jobNo := rfl
@[simp] theorem setPower_turnNo (s : State) (w : Power) : (setPower s w).turnNo = s.turnNo := rfl
@[simp] theorem setPower_contexts (s : State) (w : Power) : (setPower s w).contexts = s.contexts := rfl
@[simp] theorem setPower_twin (s : State) (w : Power) : (setPower s w).twin = s.twin := rfl
@[simp] theorem setPower_floors (s : State) (w : Power) : (setPower s w).floors = s.floors := rfl
@[simp] theorem setPower_stones (s : State) (w : Power) : (setPower s w).stones = s.stones := rfl
@[simp] theorem setPower_groupFences (s : State) (w : Power) : (setPower s w).groupFences = s.groupFences := rfl
@[simp] theorem setPower_curves (s : State) (w : Power) : (setPower s w).curves = s.curves := rfl
@[simp] theorem setPower_hatch (s : State) (w : Power) : (setPower s w).hatch = s.hatch := rfl
@[simp] theorem setPower_flail (s : State) (w : Power) : (setPower s w).flail = s.flail := rfl
@[simp] theorem setPower_ports (s : State) (w : Power) : (setPower s w).ports = s.ports := rfl
@[simp] theorem setPower_strands (s : State) (w : Power) : (setPower s w).strands = s.strands := rfl
@[simp] theorem setPower_durable (s : State) (w : Power) : (setPower s w).durable = s.durable := rfl
@[simp] theorem setPower_subs (s : State) (w : Power) : (setPower s w).subs = s.subs := rfl
@[simp] theorem setPower_sealKeys (s : State) (w : Power) : (setPower s w).sealKeys = s.sealKeys := rfl
@[simp] theorem setPower_sealIdle (s : State) (w : Power) : (setPower s w).sealIdle = s.sealIdle := rfl
@[simp] theorem setPower_scannerCas (s : State) (w : Power) : (setPower s w).scannerCas = s.scannerCas := rfl
@[simp] theorem setPower_scannerDenied (s : State) (w : Power) : (setPower s w).scannerDenied = s.scannerDenied := rfl
@[simp] theorem setPower_trust (s : State) (w : Power) : (setPower s w).trust = s.trust := rfl
@[simp] theorem setPower_trustNo (s : State) (w : Power) : (setPower s w).trustNo = s.trustNo := rfl
@[simp] theorem setPower_policies (s : State) (w : Power) : (setPower s w).policies = s.policies := rfl
@[simp] theorem setPower_dsCache (s : State) (w : Power) : (setPower s w).dsCache = s.dsCache := rfl
@[simp] theorem setPower_verdictKeys (s : State) (w : Power) : (setPower s w).verdictKeys = s.verdictKeys := rfl
@[simp] theorem setPower_verdicts (s : State) (w : Power) : (setPower s w).verdicts = s.verdicts := rfl
@[simp] theorem setPower_sheaves (s : State) (w : Power) : (setPower s w).sheaves = s.sheaves := rfl
@[simp] theorem setPower_signers (s : State) (w : Power) : (setPower s w).signers = s.signers := rfl
@[simp] theorem setPower_bindings (s : State) (w : Power) : (setPower s w).bindings = s.bindings := rfl
@[simp] theorem setPower_instances (s : State) (w : Power) : (setPower s w).instances = s.instances := rfl
@[simp] theorem setPower_cards (s : State) (w : Power) : (setPower s w).cards = s.cards := rfl
@[simp] theorem setPower_journal (s : State) (w : Power) : (setPower s w).journal = s.journal := rfl
@[simp] theorem setPower_journalNo (s : State) (w : Power) : (setPower s w).journalNo = s.journalNo := rfl
@[simp] theorem setPower_officers (s : State) (w : Power) : (setPower s w).officers = s.officers := rfl
@[simp] theorem setPower_quorumM (s : State) (w : Power) : (setPower s w).quorumM = s.quorumM := rfl
@[simp] theorem setPower_approvals (s : State) (w : Power) : (setPower s w).approvals = s.approvals := rfl
@[simp] theorem setPower_approvalNo (s : State) (w : Power) : (setPower s w).approvalNo = s.approvalNo := rfl
@[simp] theorem setPower_scarecrow (s : State) (w : Power) : (setPower s w).scarecrow = s.scarecrow := rfl
@[simp] theorem setPower_life (s : State) (w : Power) : (setPower s w).life = s.life := rfl
@[simp] theorem setPower_lanyard (s : State) (w : Power) : (setPower s w).lanyard = s.lanyard := rfl
@[simp] theorem setPower_pair (s : State) (w : Power) : (setPower s w).pair = s.pair := rfl
@[simp] theorem setPower_update (s : State) (w : Power) : (setPower s w).update = s.update := rfl
@[simp] theorem setPower_withdrawals (s : State) (w : Power) : (setPower s w).withdrawals = s.withdrawals := rfl

@[simp] theorem setUpdate_pending (s : State) (w : Update) : (setUpdate s w).pending = s.pending := rfl
@[simp] theorem setUpdate_now (s : State) (w : Update) : (setUpdate s w).now = s.now := rfl
@[simp] theorem setUpdate_rng (s : State) (w : Update) : (setUpdate s w).rng = s.rng := rfl
@[simp] theorem setUpdate_ident (s : State) (w : Update) : (setUpdate s w).ident = s.ident := rfl
@[simp] theorem setUpdate_fns (s : State) (w : Update) : (setUpdate s w).fns = s.fns := rfl
@[simp] theorem setUpdate_vfEnable (s : State) (w : Update) : (setUpdate s w).vfEnable = s.vfEnable := rfl
@[simp] theorem setUpdate_numVfs (s : State) (w : Update) : (setUpdate s w).numVfs = s.numVfs := rfl
@[simp] theorem setUpdate_clients (s : State) (w : Update) : (setUpdate s w).clients = s.clients := rfl
@[simp] theorem setUpdate_hostWrites (s : State) (w : Update) : (setUpdate s w).hostWrites = s.hostWrites := rfl
@[simp] theorem setUpdate_hostReads (s : State) (w : Update) : (setUpdate s w).hostReads = s.hostReads := rfl
@[simp] theorem setUpdate_keys (s : State) (w : Update) : (setUpdate s w).keys = s.keys := rfl
@[simp] theorem setUpdate_wear (s : State) (w : Update) : (setUpdate s w).wear = s.wear := rfl
@[simp] theorem setUpdate_writes (s : State) (w : Update) : (setUpdate s w).writes = s.writes := rfl
@[simp] theorem setUpdate_counters (s : State) (w : Update) : (setUpdate s w).counters = s.counters := rfl
@[simp] theorem setUpdate_counterBase (s : State) (w : Update) : (setUpdate s w).counterBase = s.counterBase := rfl
@[simp] theorem setUpdate_almanac (s : State) (w : Update) : (setUpdate s w).almanac = s.almanac := rfl
@[simp] theorem setUpdate_ledger (s : State) (w : Update) : (setUpdate s w).ledger = s.ledger := rfl
@[simp] theorem setUpdate_jobs (s : State) (w : Update) : (setUpdate s w).jobs = s.jobs := rfl
@[simp] theorem setUpdate_jobNo (s : State) (w : Update) : (setUpdate s w).jobNo = s.jobNo := rfl
@[simp] theorem setUpdate_turnNo (s : State) (w : Update) : (setUpdate s w).turnNo = s.turnNo := rfl
@[simp] theorem setUpdate_contexts (s : State) (w : Update) : (setUpdate s w).contexts = s.contexts := rfl
@[simp] theorem setUpdate_twin (s : State) (w : Update) : (setUpdate s w).twin = s.twin := rfl
@[simp] theorem setUpdate_floors (s : State) (w : Update) : (setUpdate s w).floors = s.floors := rfl
@[simp] theorem setUpdate_stones (s : State) (w : Update) : (setUpdate s w).stones = s.stones := rfl
@[simp] theorem setUpdate_groupFences (s : State) (w : Update) : (setUpdate s w).groupFences = s.groupFences := rfl
@[simp] theorem setUpdate_curves (s : State) (w : Update) : (setUpdate s w).curves = s.curves := rfl
@[simp] theorem setUpdate_hatch (s : State) (w : Update) : (setUpdate s w).hatch = s.hatch := rfl
@[simp] theorem setUpdate_flail (s : State) (w : Update) : (setUpdate s w).flail = s.flail := rfl
@[simp] theorem setUpdate_ports (s : State) (w : Update) : (setUpdate s w).ports = s.ports := rfl
@[simp] theorem setUpdate_strands (s : State) (w : Update) : (setUpdate s w).strands = s.strands := rfl
@[simp] theorem setUpdate_durable (s : State) (w : Update) : (setUpdate s w).durable = s.durable := rfl
@[simp] theorem setUpdate_subs (s : State) (w : Update) : (setUpdate s w).subs = s.subs := rfl
@[simp] theorem setUpdate_sealKeys (s : State) (w : Update) : (setUpdate s w).sealKeys = s.sealKeys := rfl
@[simp] theorem setUpdate_sealIdle (s : State) (w : Update) : (setUpdate s w).sealIdle = s.sealIdle := rfl
@[simp] theorem setUpdate_scannerCas (s : State) (w : Update) : (setUpdate s w).scannerCas = s.scannerCas := rfl
@[simp] theorem setUpdate_scannerDenied (s : State) (w : Update) : (setUpdate s w).scannerDenied = s.scannerDenied := rfl
@[simp] theorem setUpdate_trust (s : State) (w : Update) : (setUpdate s w).trust = s.trust := rfl
@[simp] theorem setUpdate_trustNo (s : State) (w : Update) : (setUpdate s w).trustNo = s.trustNo := rfl
@[simp] theorem setUpdate_policies (s : State) (w : Update) : (setUpdate s w).policies = s.policies := rfl
@[simp] theorem setUpdate_dsCache (s : State) (w : Update) : (setUpdate s w).dsCache = s.dsCache := rfl
@[simp] theorem setUpdate_verdictKeys (s : State) (w : Update) : (setUpdate s w).verdictKeys = s.verdictKeys := rfl
@[simp] theorem setUpdate_verdicts (s : State) (w : Update) : (setUpdate s w).verdicts = s.verdicts := rfl
@[simp] theorem setUpdate_sheaves (s : State) (w : Update) : (setUpdate s w).sheaves = s.sheaves := rfl
@[simp] theorem setUpdate_signers (s : State) (w : Update) : (setUpdate s w).signers = s.signers := rfl
@[simp] theorem setUpdate_bindings (s : State) (w : Update) : (setUpdate s w).bindings = s.bindings := rfl
@[simp] theorem setUpdate_instances (s : State) (w : Update) : (setUpdate s w).instances = s.instances := rfl
@[simp] theorem setUpdate_cards (s : State) (w : Update) : (setUpdate s w).cards = s.cards := rfl
@[simp] theorem setUpdate_journal (s : State) (w : Update) : (setUpdate s w).journal = s.journal := rfl
@[simp] theorem setUpdate_journalNo (s : State) (w : Update) : (setUpdate s w).journalNo = s.journalNo := rfl
@[simp] theorem setUpdate_officers (s : State) (w : Update) : (setUpdate s w).officers = s.officers := rfl
@[simp] theorem setUpdate_quorumM (s : State) (w : Update) : (setUpdate s w).quorumM = s.quorumM := rfl
@[simp] theorem setUpdate_approvals (s : State) (w : Update) : (setUpdate s w).approvals = s.approvals := rfl
@[simp] theorem setUpdate_approvalNo (s : State) (w : Update) : (setUpdate s w).approvalNo = s.approvalNo := rfl
@[simp] theorem setUpdate_scarecrow (s : State) (w : Update) : (setUpdate s w).scarecrow = s.scarecrow := rfl
@[simp] theorem setUpdate_life (s : State) (w : Update) : (setUpdate s w).life = s.life := rfl
@[simp] theorem setUpdate_lanyard (s : State) (w : Update) : (setUpdate s w).lanyard = s.lanyard := rfl
@[simp] theorem setUpdate_pair (s : State) (w : Update) : (setUpdate s w).pair = s.pair := rfl
@[simp] theorem setUpdate_power (s : State) (w : Update) : (setUpdate s w).power = s.power := rfl
@[simp] theorem setUpdate_withdrawals (s : State) (w : Update) : (setUpdate s w).withdrawals = s.withdrawals := rfl

@[simp] theorem setLanyard_pending (s : State) (w : Lanyard) : (setLanyard s w).pending = s.pending := rfl
@[simp] theorem setLanyard_now (s : State) (w : Lanyard) : (setLanyard s w).now = s.now := rfl
@[simp] theorem setLanyard_rng (s : State) (w : Lanyard) : (setLanyard s w).rng = s.rng := rfl
@[simp] theorem setLanyard_ident (s : State) (w : Lanyard) : (setLanyard s w).ident = s.ident := rfl
@[simp] theorem setLanyard_fns (s : State) (w : Lanyard) : (setLanyard s w).fns = s.fns := rfl
@[simp] theorem setLanyard_vfEnable (s : State) (w : Lanyard) : (setLanyard s w).vfEnable = s.vfEnable := rfl
@[simp] theorem setLanyard_numVfs (s : State) (w : Lanyard) : (setLanyard s w).numVfs = s.numVfs := rfl
@[simp] theorem setLanyard_clients (s : State) (w : Lanyard) : (setLanyard s w).clients = s.clients := rfl
@[simp] theorem setLanyard_hostWrites (s : State) (w : Lanyard) : (setLanyard s w).hostWrites = s.hostWrites := rfl
@[simp] theorem setLanyard_hostReads (s : State) (w : Lanyard) : (setLanyard s w).hostReads = s.hostReads := rfl
@[simp] theorem setLanyard_keys (s : State) (w : Lanyard) : (setLanyard s w).keys = s.keys := rfl
@[simp] theorem setLanyard_wear (s : State) (w : Lanyard) : (setLanyard s w).wear = s.wear := rfl
@[simp] theorem setLanyard_writes (s : State) (w : Lanyard) : (setLanyard s w).writes = s.writes := rfl
@[simp] theorem setLanyard_counters (s : State) (w : Lanyard) : (setLanyard s w).counters = s.counters := rfl
@[simp] theorem setLanyard_counterBase (s : State) (w : Lanyard) : (setLanyard s w).counterBase = s.counterBase := rfl
@[simp] theorem setLanyard_almanac (s : State) (w : Lanyard) : (setLanyard s w).almanac = s.almanac := rfl
@[simp] theorem setLanyard_ledger (s : State) (w : Lanyard) : (setLanyard s w).ledger = s.ledger := rfl
@[simp] theorem setLanyard_jobs (s : State) (w : Lanyard) : (setLanyard s w).jobs = s.jobs := rfl
@[simp] theorem setLanyard_jobNo (s : State) (w : Lanyard) : (setLanyard s w).jobNo = s.jobNo := rfl
@[simp] theorem setLanyard_turnNo (s : State) (w : Lanyard) : (setLanyard s w).turnNo = s.turnNo := rfl
@[simp] theorem setLanyard_contexts (s : State) (w : Lanyard) : (setLanyard s w).contexts = s.contexts := rfl
@[simp] theorem setLanyard_twin (s : State) (w : Lanyard) : (setLanyard s w).twin = s.twin := rfl
@[simp] theorem setLanyard_floors (s : State) (w : Lanyard) : (setLanyard s w).floors = s.floors := rfl
@[simp] theorem setLanyard_stones (s : State) (w : Lanyard) : (setLanyard s w).stones = s.stones := rfl
@[simp] theorem setLanyard_groupFences (s : State) (w : Lanyard) : (setLanyard s w).groupFences = s.groupFences := rfl
@[simp] theorem setLanyard_curves (s : State) (w : Lanyard) : (setLanyard s w).curves = s.curves := rfl
@[simp] theorem setLanyard_hatch (s : State) (w : Lanyard) : (setLanyard s w).hatch = s.hatch := rfl
@[simp] theorem setLanyard_flail (s : State) (w : Lanyard) : (setLanyard s w).flail = s.flail := rfl
@[simp] theorem setLanyard_ports (s : State) (w : Lanyard) : (setLanyard s w).ports = s.ports := rfl
@[simp] theorem setLanyard_strands (s : State) (w : Lanyard) : (setLanyard s w).strands = s.strands := rfl
@[simp] theorem setLanyard_durable (s : State) (w : Lanyard) : (setLanyard s w).durable = s.durable := rfl
@[simp] theorem setLanyard_subs (s : State) (w : Lanyard) : (setLanyard s w).subs = s.subs := rfl
@[simp] theorem setLanyard_sealKeys (s : State) (w : Lanyard) : (setLanyard s w).sealKeys = s.sealKeys := rfl
@[simp] theorem setLanyard_sealIdle (s : State) (w : Lanyard) : (setLanyard s w).sealIdle = s.sealIdle := rfl
@[simp] theorem setLanyard_scannerCas (s : State) (w : Lanyard) : (setLanyard s w).scannerCas = s.scannerCas := rfl
@[simp] theorem setLanyard_scannerDenied (s : State) (w : Lanyard) : (setLanyard s w).scannerDenied = s.scannerDenied := rfl
@[simp] theorem setLanyard_trust (s : State) (w : Lanyard) : (setLanyard s w).trust = s.trust := rfl
@[simp] theorem setLanyard_trustNo (s : State) (w : Lanyard) : (setLanyard s w).trustNo = s.trustNo := rfl
@[simp] theorem setLanyard_policies (s : State) (w : Lanyard) : (setLanyard s w).policies = s.policies := rfl
@[simp] theorem setLanyard_dsCache (s : State) (w : Lanyard) : (setLanyard s w).dsCache = s.dsCache := rfl
@[simp] theorem setLanyard_verdictKeys (s : State) (w : Lanyard) : (setLanyard s w).verdictKeys = s.verdictKeys := rfl
@[simp] theorem setLanyard_verdicts (s : State) (w : Lanyard) : (setLanyard s w).verdicts = s.verdicts := rfl
@[simp] theorem setLanyard_sheaves (s : State) (w : Lanyard) : (setLanyard s w).sheaves = s.sheaves := rfl
@[simp] theorem setLanyard_signers (s : State) (w : Lanyard) : (setLanyard s w).signers = s.signers := rfl
@[simp] theorem setLanyard_bindings (s : State) (w : Lanyard) : (setLanyard s w).bindings = s.bindings := rfl
@[simp] theorem setLanyard_instances (s : State) (w : Lanyard) : (setLanyard s w).instances = s.instances := rfl
@[simp] theorem setLanyard_cards (s : State) (w : Lanyard) : (setLanyard s w).cards = s.cards := rfl
@[simp] theorem setLanyard_journal (s : State) (w : Lanyard) : (setLanyard s w).journal = s.journal := rfl
@[simp] theorem setLanyard_journalNo (s : State) (w : Lanyard) : (setLanyard s w).journalNo = s.journalNo := rfl
@[simp] theorem setLanyard_officers (s : State) (w : Lanyard) : (setLanyard s w).officers = s.officers := rfl
@[simp] theorem setLanyard_quorumM (s : State) (w : Lanyard) : (setLanyard s w).quorumM = s.quorumM := rfl
@[simp] theorem setLanyard_approvals (s : State) (w : Lanyard) : (setLanyard s w).approvals = s.approvals := rfl
@[simp] theorem setLanyard_approvalNo (s : State) (w : Lanyard) : (setLanyard s w).approvalNo = s.approvalNo := rfl
@[simp] theorem setLanyard_scarecrow (s : State) (w : Lanyard) : (setLanyard s w).scarecrow = s.scarecrow := rfl
@[simp] theorem setLanyard_life (s : State) (w : Lanyard) : (setLanyard s w).life = s.life := rfl
@[simp] theorem setLanyard_pair (s : State) (w : Lanyard) : (setLanyard s w).pair = s.pair := rfl
@[simp] theorem setLanyard_update (s : State) (w : Lanyard) : (setLanyard s w).update = s.update := rfl
@[simp] theorem setLanyard_power (s : State) (w : Lanyard) : (setLanyard s w).power = s.power := rfl
@[simp] theorem setLanyard_withdrawals (s : State) (w : Lanyard) : (setLanyard s w).withdrawals = s.withdrawals := rfl

@[simp] theorem setJob_pending (s : State) (w : Job) : (setJob s w).pending = s.pending := rfl
@[simp] theorem setJob_now (s : State) (w : Job) : (setJob s w).now = s.now := rfl
@[simp] theorem setJob_rng (s : State) (w : Job) : (setJob s w).rng = s.rng := rfl
@[simp] theorem setJob_ident (s : State) (w : Job) : (setJob s w).ident = s.ident := rfl
@[simp] theorem setJob_fns (s : State) (w : Job) : (setJob s w).fns = s.fns := rfl
@[simp] theorem setJob_vfEnable (s : State) (w : Job) : (setJob s w).vfEnable = s.vfEnable := rfl
@[simp] theorem setJob_numVfs (s : State) (w : Job) : (setJob s w).numVfs = s.numVfs := rfl
@[simp] theorem setJob_clients (s : State) (w : Job) : (setJob s w).clients = s.clients := rfl
@[simp] theorem setJob_hostWrites (s : State) (w : Job) : (setJob s w).hostWrites = s.hostWrites := rfl
@[simp] theorem setJob_hostReads (s : State) (w : Job) : (setJob s w).hostReads = s.hostReads := rfl
@[simp] theorem setJob_keys (s : State) (w : Job) : (setJob s w).keys = s.keys := rfl
@[simp] theorem setJob_wear (s : State) (w : Job) : (setJob s w).wear = s.wear := rfl
@[simp] theorem setJob_writes (s : State) (w : Job) : (setJob s w).writes = s.writes := rfl
@[simp] theorem setJob_counters (s : State) (w : Job) : (setJob s w).counters = s.counters := rfl
@[simp] theorem setJob_counterBase (s : State) (w : Job) : (setJob s w).counterBase = s.counterBase := rfl
@[simp] theorem setJob_almanac (s : State) (w : Job) : (setJob s w).almanac = s.almanac := rfl
@[simp] theorem setJob_ledger (s : State) (w : Job) : (setJob s w).ledger = s.ledger := rfl
@[simp] theorem setJob_jobNo (s : State) (w : Job) : (setJob s w).jobNo = s.jobNo := rfl
@[simp] theorem setJob_turnNo (s : State) (w : Job) : (setJob s w).turnNo = s.turnNo := rfl
@[simp] theorem setJob_contexts (s : State) (w : Job) : (setJob s w).contexts = s.contexts := rfl
@[simp] theorem setJob_twin (s : State) (w : Job) : (setJob s w).twin = s.twin := rfl
@[simp] theorem setJob_floors (s : State) (w : Job) : (setJob s w).floors = s.floors := rfl
@[simp] theorem setJob_stones (s : State) (w : Job) : (setJob s w).stones = s.stones := rfl
@[simp] theorem setJob_groupFences (s : State) (w : Job) : (setJob s w).groupFences = s.groupFences := rfl
@[simp] theorem setJob_curves (s : State) (w : Job) : (setJob s w).curves = s.curves := rfl
@[simp] theorem setJob_hatch (s : State) (w : Job) : (setJob s w).hatch = s.hatch := rfl
@[simp] theorem setJob_flail (s : State) (w : Job) : (setJob s w).flail = s.flail := rfl
@[simp] theorem setJob_ports (s : State) (w : Job) : (setJob s w).ports = s.ports := rfl
@[simp] theorem setJob_strands (s : State) (w : Job) : (setJob s w).strands = s.strands := rfl
@[simp] theorem setJob_durable (s : State) (w : Job) : (setJob s w).durable = s.durable := rfl
@[simp] theorem setJob_subs (s : State) (w : Job) : (setJob s w).subs = s.subs := rfl
@[simp] theorem setJob_sealKeys (s : State) (w : Job) : (setJob s w).sealKeys = s.sealKeys := rfl
@[simp] theorem setJob_sealIdle (s : State) (w : Job) : (setJob s w).sealIdle = s.sealIdle := rfl
@[simp] theorem setJob_scannerCas (s : State) (w : Job) : (setJob s w).scannerCas = s.scannerCas := rfl
@[simp] theorem setJob_scannerDenied (s : State) (w : Job) : (setJob s w).scannerDenied = s.scannerDenied := rfl
@[simp] theorem setJob_trust (s : State) (w : Job) : (setJob s w).trust = s.trust := rfl
@[simp] theorem setJob_trustNo (s : State) (w : Job) : (setJob s w).trustNo = s.trustNo := rfl
@[simp] theorem setJob_policies (s : State) (w : Job) : (setJob s w).policies = s.policies := rfl
@[simp] theorem setJob_dsCache (s : State) (w : Job) : (setJob s w).dsCache = s.dsCache := rfl
@[simp] theorem setJob_verdictKeys (s : State) (w : Job) : (setJob s w).verdictKeys = s.verdictKeys := rfl
@[simp] theorem setJob_verdicts (s : State) (w : Job) : (setJob s w).verdicts = s.verdicts := rfl
@[simp] theorem setJob_sheaves (s : State) (w : Job) : (setJob s w).sheaves = s.sheaves := rfl
@[simp] theorem setJob_signers (s : State) (w : Job) : (setJob s w).signers = s.signers := rfl
@[simp] theorem setJob_bindings (s : State) (w : Job) : (setJob s w).bindings = s.bindings := rfl
@[simp] theorem setJob_instances (s : State) (w : Job) : (setJob s w).instances = s.instances := rfl
@[simp] theorem setJob_cards (s : State) (w : Job) : (setJob s w).cards = s.cards := rfl
@[simp] theorem setJob_journal (s : State) (w : Job) : (setJob s w).journal = s.journal := rfl
@[simp] theorem setJob_journalNo (s : State) (w : Job) : (setJob s w).journalNo = s.journalNo := rfl
@[simp] theorem setJob_officers (s : State) (w : Job) : (setJob s w).officers = s.officers := rfl
@[simp] theorem setJob_quorumM (s : State) (w : Job) : (setJob s w).quorumM = s.quorumM := rfl
@[simp] theorem setJob_approvals (s : State) (w : Job) : (setJob s w).approvals = s.approvals := rfl
@[simp] theorem setJob_approvalNo (s : State) (w : Job) : (setJob s w).approvalNo = s.approvalNo := rfl
@[simp] theorem setJob_scarecrow (s : State) (w : Job) : (setJob s w).scarecrow = s.scarecrow := rfl
@[simp] theorem setJob_life (s : State) (w : Job) : (setJob s w).life = s.life := rfl
@[simp] theorem setJob_lanyard (s : State) (w : Job) : (setJob s w).lanyard = s.lanyard := rfl
@[simp] theorem setJob_pair (s : State) (w : Job) : (setJob s w).pair = s.pair := rfl
@[simp] theorem setJob_update (s : State) (w : Job) : (setJob s w).update = s.update := rfl
@[simp] theorem setJob_power (s : State) (w : Job) : (setJob s w).power = s.power := rfl
@[simp] theorem setJob_withdrawals (s : State) (w : Job) : (setJob s w).withdrawals = s.withdrawals := rfl

@[simp] theorem draw_pending (s : State) : (draw s).pending = s.pending := rfl
@[simp] theorem draw_now (s : State) : (draw s).now = s.now := rfl
@[simp] theorem draw_ident (s : State) : (draw s).ident = s.ident := rfl
@[simp] theorem draw_fns (s : State) : (draw s).fns = s.fns := rfl
@[simp] theorem draw_vfEnable (s : State) : (draw s).vfEnable = s.vfEnable := rfl
@[simp] theorem draw_numVfs (s : State) : (draw s).numVfs = s.numVfs := rfl
@[simp] theorem draw_clients (s : State) : (draw s).clients = s.clients := rfl
@[simp] theorem draw_hostWrites (s : State) : (draw s).hostWrites = s.hostWrites := rfl
@[simp] theorem draw_hostReads (s : State) : (draw s).hostReads = s.hostReads := rfl
@[simp] theorem draw_keys (s : State) : (draw s).keys = s.keys := rfl
@[simp] theorem draw_wear (s : State) : (draw s).wear = s.wear := rfl
@[simp] theorem draw_writes (s : State) : (draw s).writes = s.writes := rfl
@[simp] theorem draw_counters (s : State) : (draw s).counters = s.counters := rfl
@[simp] theorem draw_counterBase (s : State) : (draw s).counterBase = s.counterBase := rfl
@[simp] theorem draw_almanac (s : State) : (draw s).almanac = s.almanac := rfl
@[simp] theorem draw_ledger (s : State) : (draw s).ledger = s.ledger := rfl
@[simp] theorem draw_jobs (s : State) : (draw s).jobs = s.jobs := rfl
@[simp] theorem draw_jobNo (s : State) : (draw s).jobNo = s.jobNo := rfl
@[simp] theorem draw_turnNo (s : State) : (draw s).turnNo = s.turnNo := rfl
@[simp] theorem draw_contexts (s : State) : (draw s).contexts = s.contexts := rfl
@[simp] theorem draw_twin (s : State) : (draw s).twin = s.twin := rfl
@[simp] theorem draw_floors (s : State) : (draw s).floors = s.floors := rfl
@[simp] theorem draw_stones (s : State) : (draw s).stones = s.stones := rfl
@[simp] theorem draw_groupFences (s : State) : (draw s).groupFences = s.groupFences := rfl
@[simp] theorem draw_curves (s : State) : (draw s).curves = s.curves := rfl
@[simp] theorem draw_hatch (s : State) : (draw s).hatch = s.hatch := rfl
@[simp] theorem draw_flail (s : State) : (draw s).flail = s.flail := rfl
@[simp] theorem draw_ports (s : State) : (draw s).ports = s.ports := rfl
@[simp] theorem draw_strands (s : State) : (draw s).strands = s.strands := rfl
@[simp] theorem draw_durable (s : State) : (draw s).durable = s.durable := rfl
@[simp] theorem draw_subs (s : State) : (draw s).subs = s.subs := rfl
@[simp] theorem draw_sealKeys (s : State) : (draw s).sealKeys = s.sealKeys := rfl
@[simp] theorem draw_sealIdle (s : State) : (draw s).sealIdle = s.sealIdle := rfl
@[simp] theorem draw_scannerCas (s : State) : (draw s).scannerCas = s.scannerCas := rfl
@[simp] theorem draw_scannerDenied (s : State) : (draw s).scannerDenied = s.scannerDenied := rfl
@[simp] theorem draw_trust (s : State) : (draw s).trust = s.trust := rfl
@[simp] theorem draw_trustNo (s : State) : (draw s).trustNo = s.trustNo := rfl
@[simp] theorem draw_policies (s : State) : (draw s).policies = s.policies := rfl
@[simp] theorem draw_dsCache (s : State) : (draw s).dsCache = s.dsCache := rfl
@[simp] theorem draw_verdictKeys (s : State) : (draw s).verdictKeys = s.verdictKeys := rfl
@[simp] theorem draw_verdicts (s : State) : (draw s).verdicts = s.verdicts := rfl
@[simp] theorem draw_sheaves (s : State) : (draw s).sheaves = s.sheaves := rfl
@[simp] theorem draw_signers (s : State) : (draw s).signers = s.signers := rfl
@[simp] theorem draw_bindings (s : State) : (draw s).bindings = s.bindings := rfl
@[simp] theorem draw_instances (s : State) : (draw s).instances = s.instances := rfl
@[simp] theorem draw_cards (s : State) : (draw s).cards = s.cards := rfl
@[simp] theorem draw_journal (s : State) : (draw s).journal = s.journal := rfl
@[simp] theorem draw_journalNo (s : State) : (draw s).journalNo = s.journalNo := rfl
@[simp] theorem draw_officers (s : State) : (draw s).officers = s.officers := rfl
@[simp] theorem draw_quorumM (s : State) : (draw s).quorumM = s.quorumM := rfl
@[simp] theorem draw_approvals (s : State) : (draw s).approvals = s.approvals := rfl
@[simp] theorem draw_approvalNo (s : State) : (draw s).approvalNo = s.approvalNo := rfl
@[simp] theorem draw_scarecrow (s : State) : (draw s).scarecrow = s.scarecrow := rfl
@[simp] theorem draw_life (s : State) : (draw s).life = s.life := rfl
@[simp] theorem draw_lanyard (s : State) : (draw s).lanyard = s.lanyard := rfl
@[simp] theorem draw_pair (s : State) : (draw s).pair = s.pair := rfl
@[simp] theorem draw_update (s : State) : (draw s).update = s.update := rfl
@[simp] theorem draw_power (s : State) : (draw s).power = s.power := rfl
@[simp] theorem draw_withdrawals (s : State) : (draw s).withdrawals = s.withdrawals := rfl

@[simp] theorem hostWrite_pending (s : State) (a : Nat) (w : Bytes) : (hostWrite s a w).pending = s.pending := rfl
@[simp] theorem hostWrite_now (s : State) (a : Nat) (w : Bytes) : (hostWrite s a w).now = s.now := rfl
@[simp] theorem hostWrite_rng (s : State) (a : Nat) (w : Bytes) : (hostWrite s a w).rng = s.rng := rfl
@[simp] theorem hostWrite_ident (s : State) (a : Nat) (w : Bytes) : (hostWrite s a w).ident = s.ident := rfl
@[simp] theorem hostWrite_fns (s : State) (a : Nat) (w : Bytes) : (hostWrite s a w).fns = s.fns := rfl
@[simp] theorem hostWrite_vfEnable (s : State) (a : Nat) (w : Bytes) : (hostWrite s a w).vfEnable = s.vfEnable := rfl
@[simp] theorem hostWrite_numVfs (s : State) (a : Nat) (w : Bytes) : (hostWrite s a w).numVfs = s.numVfs := rfl
@[simp] theorem hostWrite_clients (s : State) (a : Nat) (w : Bytes) : (hostWrite s a w).clients = s.clients := rfl
@[simp] theorem hostWrite_hostReads (s : State) (a : Nat) (w : Bytes) : (hostWrite s a w).hostReads = s.hostReads := rfl
@[simp] theorem hostWrite_keys (s : State) (a : Nat) (w : Bytes) : (hostWrite s a w).keys = s.keys := rfl
@[simp] theorem hostWrite_wear (s : State) (a : Nat) (w : Bytes) : (hostWrite s a w).wear = s.wear := rfl
@[simp] theorem hostWrite_writes (s : State) (a : Nat) (w : Bytes) : (hostWrite s a w).writes = s.writes := rfl
@[simp] theorem hostWrite_counters (s : State) (a : Nat) (w : Bytes) : (hostWrite s a w).counters = s.counters := rfl
@[simp] theorem hostWrite_counterBase (s : State) (a : Nat) (w : Bytes) : (hostWrite s a w).counterBase = s.counterBase := rfl
@[simp] theorem hostWrite_almanac (s : State) (a : Nat) (w : Bytes) : (hostWrite s a w).almanac = s.almanac := rfl
@[simp] theorem hostWrite_ledger (s : State) (a : Nat) (w : Bytes) : (hostWrite s a w).ledger = s.ledger := rfl
@[simp] theorem hostWrite_jobs (s : State) (a : Nat) (w : Bytes) : (hostWrite s a w).jobs = s.jobs := rfl
@[simp] theorem hostWrite_jobNo (s : State) (a : Nat) (w : Bytes) : (hostWrite s a w).jobNo = s.jobNo := rfl
@[simp] theorem hostWrite_turnNo (s : State) (a : Nat) (w : Bytes) : (hostWrite s a w).turnNo = s.turnNo := rfl
@[simp] theorem hostWrite_contexts (s : State) (a : Nat) (w : Bytes) : (hostWrite s a w).contexts = s.contexts := rfl
@[simp] theorem hostWrite_twin (s : State) (a : Nat) (w : Bytes) : (hostWrite s a w).twin = s.twin := rfl
@[simp] theorem hostWrite_floors (s : State) (a : Nat) (w : Bytes) : (hostWrite s a w).floors = s.floors := rfl
@[simp] theorem hostWrite_stones (s : State) (a : Nat) (w : Bytes) : (hostWrite s a w).stones = s.stones := rfl
@[simp] theorem hostWrite_groupFences (s : State) (a : Nat) (w : Bytes) : (hostWrite s a w).groupFences = s.groupFences := rfl
@[simp] theorem hostWrite_curves (s : State) (a : Nat) (w : Bytes) : (hostWrite s a w).curves = s.curves := rfl
@[simp] theorem hostWrite_hatch (s : State) (a : Nat) (w : Bytes) : (hostWrite s a w).hatch = s.hatch := rfl
@[simp] theorem hostWrite_flail (s : State) (a : Nat) (w : Bytes) : (hostWrite s a w).flail = s.flail := rfl
@[simp] theorem hostWrite_ports (s : State) (a : Nat) (w : Bytes) : (hostWrite s a w).ports = s.ports := rfl
@[simp] theorem hostWrite_strands (s : State) (a : Nat) (w : Bytes) : (hostWrite s a w).strands = s.strands := rfl
@[simp] theorem hostWrite_durable (s : State) (a : Nat) (w : Bytes) : (hostWrite s a w).durable = s.durable := rfl
@[simp] theorem hostWrite_subs (s : State) (a : Nat) (w : Bytes) : (hostWrite s a w).subs = s.subs := rfl
@[simp] theorem hostWrite_sealKeys (s : State) (a : Nat) (w : Bytes) : (hostWrite s a w).sealKeys = s.sealKeys := rfl
@[simp] theorem hostWrite_sealIdle (s : State) (a : Nat) (w : Bytes) : (hostWrite s a w).sealIdle = s.sealIdle := rfl
@[simp] theorem hostWrite_scannerCas (s : State) (a : Nat) (w : Bytes) : (hostWrite s a w).scannerCas = s.scannerCas := rfl
@[simp] theorem hostWrite_scannerDenied (s : State) (a : Nat) (w : Bytes) : (hostWrite s a w).scannerDenied = s.scannerDenied := rfl
@[simp] theorem hostWrite_trust (s : State) (a : Nat) (w : Bytes) : (hostWrite s a w).trust = s.trust := rfl
@[simp] theorem hostWrite_trustNo (s : State) (a : Nat) (w : Bytes) : (hostWrite s a w).trustNo = s.trustNo := rfl
@[simp] theorem hostWrite_policies (s : State) (a : Nat) (w : Bytes) : (hostWrite s a w).policies = s.policies := rfl
@[simp] theorem hostWrite_dsCache (s : State) (a : Nat) (w : Bytes) : (hostWrite s a w).dsCache = s.dsCache := rfl
@[simp] theorem hostWrite_verdictKeys (s : State) (a : Nat) (w : Bytes) : (hostWrite s a w).verdictKeys = s.verdictKeys := rfl
@[simp] theorem hostWrite_verdicts (s : State) (a : Nat) (w : Bytes) : (hostWrite s a w).verdicts = s.verdicts := rfl
@[simp] theorem hostWrite_sheaves (s : State) (a : Nat) (w : Bytes) : (hostWrite s a w).sheaves = s.sheaves := rfl
@[simp] theorem hostWrite_signers (s : State) (a : Nat) (w : Bytes) : (hostWrite s a w).signers = s.signers := rfl
@[simp] theorem hostWrite_bindings (s : State) (a : Nat) (w : Bytes) : (hostWrite s a w).bindings = s.bindings := rfl
@[simp] theorem hostWrite_instances (s : State) (a : Nat) (w : Bytes) : (hostWrite s a w).instances = s.instances := rfl
@[simp] theorem hostWrite_cards (s : State) (a : Nat) (w : Bytes) : (hostWrite s a w).cards = s.cards := rfl
@[simp] theorem hostWrite_journal (s : State) (a : Nat) (w : Bytes) : (hostWrite s a w).journal = s.journal := rfl
@[simp] theorem hostWrite_journalNo (s : State) (a : Nat) (w : Bytes) : (hostWrite s a w).journalNo = s.journalNo := rfl
@[simp] theorem hostWrite_officers (s : State) (a : Nat) (w : Bytes) : (hostWrite s a w).officers = s.officers := rfl
@[simp] theorem hostWrite_quorumM (s : State) (a : Nat) (w : Bytes) : (hostWrite s a w).quorumM = s.quorumM := rfl
@[simp] theorem hostWrite_approvals (s : State) (a : Nat) (w : Bytes) : (hostWrite s a w).approvals = s.approvals := rfl
@[simp] theorem hostWrite_approvalNo (s : State) (a : Nat) (w : Bytes) : (hostWrite s a w).approvalNo = s.approvalNo := rfl
@[simp] theorem hostWrite_scarecrow (s : State) (a : Nat) (w : Bytes) : (hostWrite s a w).scarecrow = s.scarecrow := rfl
@[simp] theorem hostWrite_life (s : State) (a : Nat) (w : Bytes) : (hostWrite s a w).life = s.life := rfl
@[simp] theorem hostWrite_lanyard (s : State) (a : Nat) (w : Bytes) : (hostWrite s a w).lanyard = s.lanyard := rfl
@[simp] theorem hostWrite_pair (s : State) (a : Nat) (w : Bytes) : (hostWrite s a w).pair = s.pair := rfl
@[simp] theorem hostWrite_update (s : State) (a : Nat) (w : Bytes) : (hostWrite s a w).update = s.update := rfl
@[simp] theorem hostWrite_power (s : State) (a : Nat) (w : Bytes) : (hostWrite s a w).power = s.power := rfl
@[simp] theorem hostWrite_withdrawals (s : State) (a : Nat) (w : Bytes) : (hostWrite s a w).withdrawals = s.withdrawals := rfl

@[simp] theorem advanceTo_pending (s : State) (n : Nat) : (advanceTo s n).pending = s.pending := rfl
@[simp] theorem advanceTo_rng (s : State) (n : Nat) : (advanceTo s n).rng = s.rng := rfl
@[simp] theorem advanceTo_ident (s : State) (n : Nat) : (advanceTo s n).ident = s.ident := rfl
@[simp] theorem advanceTo_fns (s : State) (n : Nat) : (advanceTo s n).fns = s.fns := rfl
@[simp] theorem advanceTo_vfEnable (s : State) (n : Nat) : (advanceTo s n).vfEnable = s.vfEnable := rfl
@[simp] theorem advanceTo_numVfs (s : State) (n : Nat) : (advanceTo s n).numVfs = s.numVfs := rfl
@[simp] theorem advanceTo_clients (s : State) (n : Nat) : (advanceTo s n).clients = s.clients := rfl
@[simp] theorem advanceTo_hostWrites (s : State) (n : Nat) : (advanceTo s n).hostWrites = s.hostWrites := rfl
@[simp] theorem advanceTo_hostReads (s : State) (n : Nat) : (advanceTo s n).hostReads = s.hostReads := rfl
@[simp] theorem advanceTo_keys (s : State) (n : Nat) : (advanceTo s n).keys = s.keys := rfl
@[simp] theorem advanceTo_wear (s : State) (n : Nat) : (advanceTo s n).wear = s.wear := rfl
@[simp] theorem advanceTo_writes (s : State) (n : Nat) : (advanceTo s n).writes = s.writes := rfl
@[simp] theorem advanceTo_counters (s : State) (n : Nat) : (advanceTo s n).counters = s.counters := rfl
@[simp] theorem advanceTo_counterBase (s : State) (n : Nat) : (advanceTo s n).counterBase = s.counterBase := rfl
@[simp] theorem advanceTo_ledger (s : State) (n : Nat) : (advanceTo s n).ledger = s.ledger := rfl
@[simp] theorem advanceTo_jobs (s : State) (n : Nat) : (advanceTo s n).jobs = s.jobs := rfl
@[simp] theorem advanceTo_jobNo (s : State) (n : Nat) : (advanceTo s n).jobNo = s.jobNo := rfl
@[simp] theorem advanceTo_turnNo (s : State) (n : Nat) : (advanceTo s n).turnNo = s.turnNo := rfl
@[simp] theorem advanceTo_contexts (s : State) (n : Nat) : (advanceTo s n).contexts = s.contexts := rfl
@[simp] theorem advanceTo_twin (s : State) (n : Nat) : (advanceTo s n).twin = s.twin := rfl
@[simp] theorem advanceTo_floors (s : State) (n : Nat) : (advanceTo s n).floors = s.floors := rfl
@[simp] theorem advanceTo_stones (s : State) (n : Nat) : (advanceTo s n).stones = s.stones := rfl
@[simp] theorem advanceTo_groupFences (s : State) (n : Nat) : (advanceTo s n).groupFences = s.groupFences := rfl
@[simp] theorem advanceTo_curves (s : State) (n : Nat) : (advanceTo s n).curves = s.curves := rfl
@[simp] theorem advanceTo_hatch (s : State) (n : Nat) : (advanceTo s n).hatch = s.hatch := rfl
@[simp] theorem advanceTo_flail (s : State) (n : Nat) : (advanceTo s n).flail = s.flail := rfl
@[simp] theorem advanceTo_ports (s : State) (n : Nat) : (advanceTo s n).ports = s.ports := rfl
@[simp] theorem advanceTo_strands (s : State) (n : Nat) : (advanceTo s n).strands = s.strands := rfl
@[simp] theorem advanceTo_durable (s : State) (n : Nat) : (advanceTo s n).durable = s.durable := rfl
@[simp] theorem advanceTo_subs (s : State) (n : Nat) : (advanceTo s n).subs = s.subs := rfl
@[simp] theorem advanceTo_sealKeys (s : State) (n : Nat) : (advanceTo s n).sealKeys = s.sealKeys := rfl
@[simp] theorem advanceTo_sealIdle (s : State) (n : Nat) : (advanceTo s n).sealIdle = s.sealIdle := rfl
@[simp] theorem advanceTo_scannerCas (s : State) (n : Nat) : (advanceTo s n).scannerCas = s.scannerCas := rfl
@[simp] theorem advanceTo_scannerDenied (s : State) (n : Nat) : (advanceTo s n).scannerDenied = s.scannerDenied := rfl
@[simp] theorem advanceTo_trust (s : State) (n : Nat) : (advanceTo s n).trust = s.trust := rfl
@[simp] theorem advanceTo_trustNo (s : State) (n : Nat) : (advanceTo s n).trustNo = s.trustNo := rfl
@[simp] theorem advanceTo_policies (s : State) (n : Nat) : (advanceTo s n).policies = s.policies := rfl
@[simp] theorem advanceTo_dsCache (s : State) (n : Nat) : (advanceTo s n).dsCache = s.dsCache := rfl
@[simp] theorem advanceTo_verdictKeys (s : State) (n : Nat) : (advanceTo s n).verdictKeys = s.verdictKeys := rfl
@[simp] theorem advanceTo_verdicts (s : State) (n : Nat) : (advanceTo s n).verdicts = s.verdicts := rfl
@[simp] theorem advanceTo_sheaves (s : State) (n : Nat) : (advanceTo s n).sheaves = s.sheaves := rfl
@[simp] theorem advanceTo_signers (s : State) (n : Nat) : (advanceTo s n).signers = s.signers := rfl
@[simp] theorem advanceTo_bindings (s : State) (n : Nat) : (advanceTo s n).bindings = s.bindings := rfl
@[simp] theorem advanceTo_instances (s : State) (n : Nat) : (advanceTo s n).instances = s.instances := rfl
@[simp] theorem advanceTo_cards (s : State) (n : Nat) : (advanceTo s n).cards = s.cards := rfl
@[simp] theorem advanceTo_journal (s : State) (n : Nat) : (advanceTo s n).journal = s.journal := rfl
@[simp] theorem advanceTo_journalNo (s : State) (n : Nat) : (advanceTo s n).journalNo = s.journalNo := rfl
@[simp] theorem advanceTo_officers (s : State) (n : Nat) : (advanceTo s n).officers = s.officers := rfl
@[simp] theorem advanceTo_quorumM (s : State) (n : Nat) : (advanceTo s n).quorumM = s.quorumM := rfl
@[simp] theorem advanceTo_approvals (s : State) (n : Nat) : (advanceTo s n).approvals = s.approvals := rfl
@[simp] theorem advanceTo_approvalNo (s : State) (n : Nat) : (advanceTo s n).approvalNo = s.approvalNo := rfl
@[simp] theorem advanceTo_scarecrow (s : State) (n : Nat) : (advanceTo s n).scarecrow = s.scarecrow := rfl
@[simp] theorem advanceTo_life (s : State) (n : Nat) : (advanceTo s n).life = s.life := rfl
@[simp] theorem advanceTo_lanyard (s : State) (n : Nat) : (advanceTo s n).lanyard = s.lanyard := rfl
@[simp] theorem advanceTo_pair (s : State) (n : Nat) : (advanceTo s n).pair = s.pair := rfl
@[simp] theorem advanceTo_update (s : State) (n : Nat) : (advanceTo s n).update = s.update := rfl
@[simp] theorem advanceTo_power (s : State) (n : Nat) : (advanceTo s n).power = s.power := rfl
@[simp] theorem advanceTo_withdrawals (s : State) (n : Nat) : (advanceTo s n).withdrawals = s.withdrawals := rfl

end Sys2Proof.Machine
end

