-- ==== Sys2Proof/Laws/Exec.lean ====
section
/-! SUPPORT. What a command can do at all, which mailbox commands only read, what a response touches, and that the tables of the
state keep their one canonical form. -/

namespace Sys2Proof.Machine

set_option Elab.async false

/-! ### Tables keep their keys rising -/

/-- The keys of a table rise strictly: equal tables are equal data. -/
def tblRising {α : Type} (t : Tbl α) : Prop := (t.map Prod.fst).Pairwise (· < ·)

theorem tblSet_keys_above {α : Type} {t : Tbl α} {m k : Nat} {v : α} (hm : m < k) (h : ∀ e ∈ t, m < e.1) :
    ∀ e ∈ tblSet t k v, m < e.1 := by
  induction t with
  | nil => simpa [tblSet] using hm
  | cons x r ih =>
    obtain ⟨j, w⟩ := x
    simp only [List.mem_cons, forall_eq_or_imp] at h
    unfold tblSet
    split_ifs
    · simpa using ⟨hm, fun a b hab => h.2 (a, b) hab⟩
    · simpa using ⟨hm, h.1, fun a b hab => h.2 (a, b) hab⟩
    · simpa using ⟨h.1, fun a b hab => ih h.2 (a, b) hab⟩

/-- Writing an entry keeps the keys rising. -/
theorem tblSet_rising {α : Type} {t : Tbl α} (k : Nat) (v : α) (h : tblRising t) : tblRising (tblSet t k v) := by
  induction t with
  | nil => simp [tblSet, tblRising]
  | cons x r ih =>
    obtain ⟨j, w⟩ := x
    have hr : tblRising r := (List.pairwise_cons.mp h).2
    have hj : ∀ e ∈ r, j < e.1 := fun e he => (List.pairwise_cons.mp h).1 e.1 (List.mem_map_of_mem he)
    unfold tblSet
    split_ifs with h1 h2
    · subst h1; exact List.pairwise_cons.mpr ⟨(List.pairwise_cons.mp h).1, hr⟩
    · refine List.pairwise_cons.mpr ⟨?_, h⟩
      intro a ha
      rw [List.map_cons, List.mem_cons] at ha
      rcases ha with rfl | ha
      · exact h2
      · obtain ⟨e, he, rfl⟩ := List.mem_map.mp ha
        exact lt_trans h2 (hj e he)
    · have hk : j < k := by omega
      refine List.pairwise_cons.mpr ⟨?_, ih hr⟩
      intro a ha
      obtain ⟨e, he, rfl⟩ := List.mem_map.mp ha
      exact tblSet_keys_above hk hj e he

/-- So does taking entries out. -/
theorem tblDel_rising {α : Type} {t : Tbl α} (k : Nat) (h : tblRising t) : tblRising (tblDel t k) :=
  h.sublist (List.filter_sublist.map _)

theorem tblDrop_rising {α : Type} {t : Tbl α} (p : Nat → α → Bool) (h : tblRising t) : tblRising (tblDrop t p) :=
  h.sublist (List.filter_sublist.map _)

/-! ### What every command does -/

/-- The meaning of every CODE answers a next state, also where a GO brings a file or an exchange with a card. -/
theorem goRows_finish : ∀ r ∈ goRows, ∀ q s, ∃ x, r.2 q s = .next (finish s x) := by
  unfold goRows sessionGo keyGo strandGo documentGo sheafGo cardGo pairGo baleGo powerGo lifeGo
  simp only [List.cons_append, List.nil_append]
  repeat refine List.forall_mem_cons.mpr ⟨fun q s => ⟨_, rfl⟩, ?_⟩
  exact List.forall_mem_nil _

/-- Every command answers a next state, and what follows every effect comes after its own. -/
theorem exec_finish (c : Instr) (s : State) : ∃ x, exec c s = .next (finish s x) := by
  cases c
  case registerWrite f bar off n v =>
    show ∃ x, execRegisterWrite f bar off n v s = _
    unfold execRegisterWrite runBuffer
    split_ifs
    · exact ⟨_, rfl⟩
    · dsimp only
      split
      · exact goRows_finish _ (List.mem_of_find?_eq_some ‹_›) _ s
      · exact ⟨_, rfl⟩
    · exact ⟨_, rfl⟩
  all_goals exact ⟨_, rfl⟩

/-! ### Functions, and the commands that only read -/

/-- A write to one function's state changes that function alone. -/
theorem setFn_reads (s : State) (f g : Nat) (v : Fn) : fnOf (setFn s f v) g = if g = f then v else fnOf s g := by
  split_ifs with h
  · subst h; exact fnOf_setFn_same s g v
  · exact fnOf_setFn_other s v h

/-- The commands that only read: their own part leaves the state as it finds it. -/
theorem body_reads : ∀ (b : MbxReq → State → Reply), b ∈ [bodyGetInfo, bodyKeyInfo, bodyCounterRead, bodyTimeRead,
    bodyDriftRead, bodyLedgerRead, bodyContextInfo, bodyCurveList, bodyStrandList, bodyStrandStatus, bodyTrustList,
    bodySheafList, bodyCardStatus, bodyCustodyJournalRead, bodyPairStatus, bodyFieldOutputRead, bodyBaleChunkMap,
    bodyBaleStatus, bodyPowerStatus, bodyTelemetryRead, bodyModeRead, bodyAlarmStatus, bodyVigilLogRead,
    bodyLifecycleStatus, bodyPortStatus] →
    ∀ q s, (b q s).st = s := by
  repeat' refine List.forall_mem_cons.mpr ⟨fun q s => ?_, ?_⟩
  any_goals exact List.forall_mem_nil _
  all_goals
    simp only [bodyGetInfo, bodyKeyInfo, bodyCounterRead, bodyTimeRead, bodyDriftRead, bodyLedgerRead, bodyContextInfo,
      bodyCurveList, bodyStrandList, bodyStrandStatus, bodyTrustList, bodySheafList, bodyCardStatus, bodyCustodyJournalRead,
      bodyPairStatus, bodyFieldOutputRead, bodyBaleChunkMap, bodyBaleStatus, bodyPowerStatus, bodyTelemetryRead, bodyModeRead,
      bodyAlarmStatus, bodyVigilLogRead, bodyLifecycleStatus, bodyPortStatus, withFormat, onSlot, awaitSlot]
    repeat' split
    all_goals rfl

end Sys2Proof.Machine
end

