-- ==== Sys2Proof/Tests/Slice0.lean ====
section
/-! SUPPORT. The model's own tests: an ill-formed command for each check of WellFormed, for each statement with hypotheses a state
and operands that meet them all, clause by clause, and small runs whose expected results come from the spec. -/

namespace Sys2Proof.Tests

open Sys2Proof Sys2Proof.Machine

set_option Elab.async false

/-! ### Small states -/

/-- Client 0's authenticated session, number 1. -/
def sess : Session := { index := 0, serial := 1, cred := 0, auth := true }

/-- Function 0 with its mailbox IDLE, a session, event ring 0 enabled and job ring 0 running. -/
def fn0 : Fn :=
  { state := .idle, sessions := [sess], event := [(0, { enable := true, enabled := true, sizeLog2 := 4 })]
    job := [(0, { enable := true, sizeLog2 := 4, prod := 1, session := 1 })] }

/-- The device after reset with function 0 in service, where VBAT reads 3 V and Tj 25 degrees. -/
def ready : State :=
  { fns := [(0, fn0)], power := { telemetry := [(9, 3000), (12, 250)] }, update := { step := 11, mbxReady := true, captureReady := true }
    officers := [(0, { cardId := List.replicate 16 0xAA, pub := zeros 97, state := .active })] }

/-- The same after R38 has taken the session's time (R44). -/
def served (s : State) : State := touchSession s 0 1

/-- A mailbox command of function 0 with this payload. -/
def ask (b : Bytes) : MbxReq := { fn := 0, session := 1, payload := b, len := b.length }

/-- An approval for the command. -/
def grant (c : CmdSpec) (q : MbxReq) : Approval :=
  { no := 1, code := c.code, client := q.fn, digest := sha3 q.payload, expires := 1000, challenge := [], approved := true }

/-- The state with that approval. -/
def granted (c : CmdSpec) (q : MbxReq) (s : State) : State := { s with approvals := [grant c q] }

/-- The state on which a guarded command runs: its approval is consumed (R333). -/
def spent (s : State) : State := { served s with approvals := [] }

theorem touchSession_approvals (s : State) (f n : Nat) : (touchSession s f n).approvals = s.approvals := rfl

theorem touchSession_now (s : State) (f n : Nat) : (touchSession s f n).now = s.now := rfl

/-- An approval that covers a guarded command admits it. -/
theorem admitted_granted {c : CmdSpec} {q : MbxReq} {s : State} (hf : q.fn = 0) (hs : q.session = 1) (hn : s.now = 0)
    (h : (c.access != .n && stewardTakes s q.fn && (headerCheck c q s).isNone &&
      (modeCheck c q (served (granted c q s))).isNone && isGuarded (served (granted c q s)) c q && !s.officers.isEmpty) = true) :
    admitted c q (granted c q s) = some (spent s) := by
  simp only [Bool.and_eq_true, Option.isNone_iff_eq_none] at h
  obtain ⟨⟨⟨⟨⟨ha, h1⟩, h2⟩, h3⟩, h4⟩, h5⟩ := h
  have e1 : stewardTakes (granted c q s) q.fn = true := h1
  have e2 : headerCheck c q (granted c q s) = none := h2
  have e3 : (c.access == Access.n) = false := by simpa [bne] using ha
  have e4 : touchSession (granted c q s) q.fn q.session = served (granted c q s) := by rw [hf, hs]; rfl
  have e5 : (served (granted c q s)).approvals = [grant c q] := rfl
  have e6 : (served (granted c q s)).now = 0 := hn
  unfold admitted
  simp only [e1, e2, e3, e4, h3, h4, coveringApproval, e5, List.find?, Option.isSome_none, Bool.not_true, Bool.or_self,
    Bool.false_eq_true, if_false, if_true]
  have e8 : (!(served (granted c q s)).officers.isEmpty) = true := h5
  have e7 : covers (served (granted c q s)) c.code q (grant c q) = true := by
    simp only [covers, e8, e6, grant, beq_self_eq_true, Bool.and_true, Bool.true_and]
    rfl
  rw [e7]
  simp only [Option.map, consumeApproval, spent, granted, grant]
  rfl

/-- A deferred operation of function 0 with this payload and file. -/
def anOp (code : Nat) (b : Bytes) (file : Option Bytes := none) : DefOp := { no := 1, code, tag := 0, started := 0, payload := b, file }

/-- The state in which it is under way. -/
def underWay (o : DefOp) (s : State) : State := { s with fns := [(0, { fn0 with ops := [o] })] }

/-- Some admitted command meets the hypothesis. -/
def Met (c : CmdSpec) (H : MbxReq → State → Prop) : Prop := ∃ q s s₀, admitted c q s = some s₀ ∧ H q s₀

/-! ### A witness for each statement, clause by clause -/

theorem meets_SessionCommandsComplete :
    Met specGetInfo (fun q _ => wellFormed q 0 []) ∧
    (∃ q s s₀ k i, admitted specSessionOpen q s = some s₀ ∧ wellFormed q 8 [(1, 3)] ∧ fld q 0 1 ≤ 3 ∧ fld q 4 4 ≤ 3600 ∧
      (clientOf s₀ q.fn).lockEnd ≤ s₀.now ∧ throttled s₀ = false ∧ tblFind (clientOf s₀ q.fn).creds (fld q 0 1) = some k ∧
      firstFrom 0 16 (fun n => !(fnOf s₀ q.fn).sessions.any (fun x => x.index == n)) = some i) ∧
    (∃ q s s₀ x, admitted specSessionAuth q s = some s₀ ∧ wellFormed q (4 + fld q 0 2) [(2, 2)] ∧
      sessionOf s₀ q.fn q.session = some x ∧ x.auth = false ∧ s₀.now < x.expires) ∧
    (∃ q s s₀ x, admitted specSessionClose q s = some s₀ ∧ wellFormed q 0 [] ∧ sessionOf s₀ q.fn q.session = some x) :=
  let creds : State := { ready with clients := [(0, { creds := [(3, { alg := 1, key := [] })] })] }
  let x : Session := { sess with auth := false, expires := 30000000 }
  let opened : State := { ready with fns := [(0, { fn0 with sessions := [x] })] }
  ⟨⟨ask [], ready, ready, by decide +kernel⟩,
   ⟨ask (le 1 3 ++ zeros 3 ++ le 4 3600), creds, creds, { alg := 1, key := [] }, 1, by decide +kernel⟩,
   ⟨ask (le 2 64 ++ zeros 66), opened, opened, x, by decide +kernel⟩,
   ⟨ask [], ready, served ready, sess, by decide +kernel⟩⟩

theorem meets_CredentialCommandsComplete :
    (∃ q s s₀, admitted specClientEnroll q s = some s₀ ∧ wellFormed q (8 + fld q 4 2) [(6, 2)] ∧ fld q 0 1 < 64 ∧ fld q 1 1 ≤ 3 ∧
      (fld q 2 2 = 1 ∨ fld q 2 2 = 2) ∧ fld q 4 2 = credLen (fld q 2 2)) ∧
    Met specClientRevoke (fun q s => wellFormed q 4 [(2, 2)] ∧ fld q 0 1 < 64 ∧
      (fld q 1 1 = 0xFF ∨ (fld q 1 1 ≤ 3 ∧ (revoked s (fld q 0 1) (fld q 1 1)).isEmpty = false))) :=
  let q := ask (le 1 63 ++ le 1 3 ++ le 2 1 ++ le 2 (credLen 1) ++ zeros 2 ++ zeros (credLen 1))
  let p := ask (le 1 63 ++ le 1 0xFF ++ zeros 2)
  ⟨⟨q, granted specClientEnroll q ready, spent ready,
    admitted_granted rfl rfl rfl (by decide +kernel), by decide +kernel⟩,
   ⟨p, granted specClientRevoke p ready, spent ready,
    admitted_granted rfl rfl rfl (by decide +kernel), by decide +kernel⟩⟩

theorem meets_KeyMaterialCommandsComplete :
    (Met specKeyGenerate (fun q s => wellFormed q 16 [(5, 1), (12, 4)] ∧ firstField (badKeyFields q s) = none ∧
       fenced s (hIndex (qHandle q)) = false ∧ publicType (fld q 4 1) = false ∧ hClass (qHandle q) ∈ typeClasses (fld q 4 1) ∧
       writeTarget s q.fn (qHandle q) (fld q 4 1) (fld q 8 4) = .ok 5) ∧
     ∃ f n o s i, mayEnd s f n o 0x0101 ∧
       let h := rd o.payload 0 4
       let t := rd o.payload 4 1
       s.writes.any (fun w => w.fn == f && w.op == some o.no) = false ∧ fenced s (hIndex h) = false ∧ publicType t = false ∧
       hClass h ∈ typeClasses t ∧ writeTarget s f h t (rd o.payload 8 4) = .ok i ∧ pairMade s f o = true) ∧
    (∃ q s s₀ i, admitted specKeyImport q s = some s₀ ∧ wellFormed q (16 + fld q 12 2) [(5, 1), (14, 2)] ∧
      firstField (badKeyFields q s₀) = none ∧ keyLen s₀ (fld q 4 1) (fld q 6 2) = some (q.payload.drop 16).length ∧
      fenced s₀ (hIndex (qHandle q)) = false ∧
      (hClass (qHandle q) = clsGeneral ∨ hClass (qHandle q) = clsPublic) ∧ hClass (qHandle q) ∈ typeClasses (fld q 4 1) ∧
      writeTarget s₀ q.fn (qHandle q) (fld q 4 1) (fld q 8 4) = .ok i ∧
      materialOk s₀ (fld q 4 1) (fld q 6 2) (q.payload.drop 16) = true) ∧
    (∃ q s s₀ k w, admitted specKeyExportWrapped q s = some s₀ ∧ wellFormed q 12 [(9, 3)] ∧
      badIndex (hIndex (qHandle q)) = false ∧ wrongIndex (fld q 8 1 == 1) (fld q 4 4) = false ∧ fld q 8 1 ≠ 0 ∧ fld q 8 1 ≤ 3 ∧
      strandIndex (hIndex (qHandle q)) = false ∧ strandIndex (hIndex (fld q 4 4)) = false ∧
      fenced s₀ (hIndex (qHandle q)) = false ∧ fenced s₀ (hIndex (fld q 4 4)) = false ∧
      keyAt s₀ (qHandle q) = .ok k ∧ keyAt s₀ (fld q 4 4) = .ok w ∧ mayManage k q.fn = true ∧ mayUse w q.fn = true ∧
      (k.cls = clsGeneral ∨ k.cls = clsEvidence) ∧ bit k.attr aExportable = true ∧ bit w.attr aWrap = true ∧
      fitsExport (fld q 8 1) w = true ∧ k.damaged = false ∧ w.damaged = false) ∧
    (∃ q s s₀ wk i, admitted specKeyImportWrapped q s = some s₀ ∧
      let b := q.payload.drop 12
      let attr := rd b 8 4 % 2 ^ 16 + q.fn * 2 ^ 16
      wellFormed q (12 + fld q 8 2) [(10, 2), (24, 4), (40, 4)] ∧ b.length = 32 + rd b 24 2 + rd b 26 2 ∧ rd b 0 1 = 1 ∧
      rd b 1 1 ≠ 0 ∧ rd b 1 1 ≤ 3 ∧ keyType (rd b 2 1) = true ∧ publicType (rd b 2 1) = false ∧ rd b 3 1 ≤ 2 ∧
      keyLen s₀ (rd b 2 1) (rd b 4 2) = some (rd b 6 2) ∧ attrReserved (rd b 8 4) = false ∧
      (rd b 3 1 == clsCustody && bit (rd b 8 4) aExportable) = false ∧ rd b 26 2 = wrappedLen (rd b 6 2) ∧ encLens (rd b 1 1) (rd b 24 2) = true ∧
      badWriteHandle (qHandle q) (rd b 2 1) = false ∧ wrongIndex (rd b 1 1 == 1) (fld q 4 4) = false ∧
      strandIndex (hIndex (fld q 4 4)) = false ∧ fenced s₀ (hIndex (qHandle q)) = false ∧
      fenced s₀ (hIndex (fld q 4 4)) = false ∧ keyAt s₀ (fld q 4 4) = .ok wk ∧ mayUse wk q.fn = true ∧
      bit wk.attr aUnwrap = true ∧ fitsImport (rd b 1 1) wk = true ∧ rd b 3 1 = hClass (qHandle q) ∧
      rd b 3 1 ∈ typeClasses (rd b 2 1) ∧ wk.damaged = false ∧ rd b 24 2 = encLen (rd b 1 1) wk.set ∧
      writeTarget s₀ q.fn (qHandle q) (rd b 2 1) attr = .ok i) :=
  let p1 := le 4 (handle 0 0 5) ++ le 1 1 ++ zeros 1 ++ le 2 256 ++ le 4 0x3FF ++ zeros 4
  let o := anOp 0x0101 p1
  let q2 := ask (le 4 (handle 0 0 0xFFFFF) ++ le 1 1 ++ zeros 1 ++ le 2 128 ++ le 4 3 ++ le 2 16 ++ zeros 2 ++ zeros 16)
  let k : KeySlot := { cls := clsEvidence, attr := 2 ^ aExportable, material := zeros 32 }
  let w : KeySlot := { cls := clsCustody, attr := 2 ^ aWrap + 2 ^ aUnwrap, material := zeros 32 }
  let s := { ready with keys := [(0, k), (0xBFFF, w)] }
  let q3 := ask (le 4 (handle 1 0 0) ++ le 4 (handle 2 0 0xBFFF) ++ le 1 1 ++ zeros 3)
  let b := [1, 1, 1, 0] ++ le 2 256 ++ le 2 32 ++ le 4 3 ++ zeros 12 ++ le 2 0 ++ le 2 (wrappedLen 32) ++ zeros 4 ++
    zeros (wrappedLen 32)
  let q4 := ask (le 4 (handle 0 0 7) ++ le 4 (handle 2 0 0xBFFF) ++ le 2 b.length ++ zeros 2 ++ b)
  ⟨⟨⟨ask p1, ready, served ready, by decide +kernel⟩, 0, 1, o, underWay o ready, 5, by decide +kernel⟩,
   ⟨q2, ready, served ready, 0, by decide +kernel⟩,
   ⟨q3, s, served s, k, w, by decide +kernel⟩,
   ⟨q4, s, served s, w, 7, by decide +kernel⟩⟩

theorem meets_KeySlotCommandsComplete :
    (∃ q s s₀ k, admitted specKeyDestroy q s = some s₀ ∧ wellFormed q 4 [] ∧ badIndex (hIndex (qHandle q)) = false ∧
      strandIndex (hIndex (qHandle q)) = false ∧ fenced s₀ (hIndex (qHandle q)) = false ∧ keyAt s₀ (qHandle q) = .ok k ∧
      mayManage k q.fn = true) ∧
    (∃ q s s₀ k, admitted specKeySetAttr q s = some s₀ ∧ wellFormed q 8 [] ∧ attrReserved (fld q 4 4) = false ∧
      badIndex (hIndex (qHandle q)) = false ∧ strandIndex (hIndex (qHandle q)) = false ∧
      fenced s₀ (hIndex (qHandle q)) = false ∧ keyAt s₀ (qHandle q) = .ok k ∧ mayManage k q.fn = true ∧
      attrForbidden k.attr (fld q 4 4) q.fn = false) ∧
    Met specKeyInfo (fun q s => wellFormed q 4 [] ∧ badIndex (hIndex (qHandle q)) = false ∧
      strandIndex (hIndex (qHandle q)) = false ∧ fenced s (hIndex (qHandle q)) = false ∧
      ∀ k, tblFind s.keys (hIndex (qHandle q)) = some k → (mayManage k q.fn || bit k.attr aShared) = true) ∧
    (∃ q s s₀ k p, admitted specKeyPublicRead q s = some s₀ ∧ wellFormed q 4 [] ∧ badIndex (hIndex (qHandle q)) = false ∧
      strandIndex (hIndex (qHandle q)) = false ∧ fenced s₀ (hIndex (qHandle q)) = false ∧ keyAt s₀ (qHandle q) = .ok k ∧
      (mayManage k q.fn || bit k.attr aShared) = true ∧ k.damaged = false ∧ publicOf s₀ k = some p) :=
  let k : KeySlot := { attr := 3, material := zeros 32 }
  let p : KeySlot := { cls := clsPublic, type := 0x11, set := 2, attr := 8, material := zeros 97 }
  let s := { ready with keys := [(0xBFFF, k), (0x107FF, p)] }
  let q := ask (le 4 (handle 0 0 0xBFFF))
  let q2 := ask (le 4 (handle 0 0 0xBFFF) ++ le 4 1)
  let q3 := ask (le 4 (handle 3 0 0x107FF))
  ⟨⟨q, s, served s, k, by decide +kernel⟩, ⟨q2, s, served s, k, by decide +kernel⟩,
   ⟨q, s, served s, by decide +kernel, by decide +kernel, by decide +kernel, by decide +kernel, by decide +kernel,
     fun x h => by
       have : some x = some k := h.symm.trans (by decide +kernel)
       cases this; decide +kernel⟩,
   ⟨q3, s, served s, p, zeros 97, by decide +kernel⟩⟩

theorem meets_CounterCommandsComplete :
    (∀ w ∈ [false, true], Met specCounterRead (fun q s => wellFormed q 4 [] ∧ fld q 0 4 < 0x80000 ∧
      (counterOf s (fld q 0 4)).damaged = false ∧ beyondAcked s (fld q 0 4) (counterValue s (fld q 0 4)) = w ∧
      ((counterOf s (fld q 0 4)).allocated = true → deviceCounter (fld q 0 4) = false →
        attrOwner (counterOf s (fld q 0 4)).attr = q.fn ∨ q.fn = 0 ∨ ctrShared (counterOf s (fld q 0 4)) = true))) ∧
    (∃ q s s₀, admitted specCounterAdvance q s = some s₀ ∧ wellFormed q 8 [] ∧ fld q 0 4 < 0x7FF00 ∧ fld q 4 4 ≠ 0 ∧
      let c := counterOf s₀ (fld q 0 4)
      let t := setCounter (rememberAcked s₀ (fld q 0 4) c.value) (fld q 0 4) { c with value := c.value + fld q 4 4 }
      c.allocated = true ∧ (attrOwner c.attr = q.fn ∨ ctrShared c = true) ∧ c.damaged = false ∧
      c.value + fld q 4 4 < counterTop ∧ beyondAcked t (fld q 0 4) (c.value + fld q 4 4) = false) ∧
    (∃ q s s₀, admitted specCounterAllocate q s = some s₀ ∧ wellFormed q 12 [(1, 3)] ∧ fld q 0 1 = 1 ∧ fld q 4 4 < 0x7FF00 ∧
      ctrReserved (fld q 8 4) = false ∧ (q.fn = 0 ∨ attrOwner (fld q 8 4) = q.fn) ∧
      (counterOf s₀ (fld q 4 4)).damaged = false ∧ (counterOf s₀ (fld q 4 4)).allocated = false) ∧
    (∃ q s s₀, admitted specCounterAllocate q s = some s₀ ∧ wellFormed q 12 [(1, 3)] ∧ fld q 0 1 = 2 ∧ fld q 4 4 < 0x7FF00 ∧
      (counterOf s₀ (fld q 4 4)).allocated = true ∧ (attrOwner (counterOf s₀ (fld q 4 4)).attr = q.fn ∨ q.fn = 0)) :=
  let s := { ready with counters := [(0x7FEFF, { value := counterTop - 2, allocated := true })] }
  let far := { ready with pair := { role := .active, peerRole := 2, ackedValues := [(0x7FEFE, 0)] }
                          counters := [(0x7FEFE, { value := 2 ^ 23, allocated := true })] }
  ⟨fun w _ => by
     cases w
     · exact ⟨ask (le 4 0x7FFFF), ready, served ready, by decide +kernel⟩
     · exact ⟨ask (le 4 0x7FEFE), far, served far, by decide +kernel⟩,
   ⟨ask (le 4 0x7FEFF ++ le 4 1), s, served s, by decide +kernel⟩,
   ⟨ask (le 1 1 ++ zeros 3 ++ le 4 0x7FEFF ++ le 4 0), ready, served ready, by decide +kernel⟩,
   ⟨ask (le 1 2 ++ zeros 3 ++ le 4 0x7FEFF ++ le 4 0), s, served s, by decide +kernel⟩⟩

theorem meets_TimeAndLedgerCommandsComplete :
    Met specTimeRead (fun q _ => wellFormed q 0 []) ∧ Met specDriftRead (fun q _ => wellFormed q 0 []) ∧
    (∃ q s s₀ k, admitted specTimeKeySet q s = some s₀ ∧ wellFormed q 4 [] ∧ wrongIndex false (fld q 0 4) = false ∧
      hClass (fld q 0 4) = clsPublic ∧ keyAt s₀ (fld q 0 4) = .ok k ∧ k.type = 0x11 ∧ k.set = 2 ∧ bit k.attr aVerify = true) ∧
    (∃ q s s₀ k, admitted specTimeSet q s = some s₀ ∧ wellFormed q 120 [(20, 4)] ∧ ownKey s₀ s₀.almanac.timeKey = some k ∧
      bit k.attr aVerify = true ∧
      10 ≤ fld q 16 2 ∧ fld q 16 2 ≤ 100 ∧ fld q 18 2 = 0 ∧ fld q 0 8 ≤ s₀.now ∧ s₀.now < fld q 0 8 + 10000000 ∧
      (s₀.almanac.refSet = true → s₀.almanac.lastRef < fld q 0 8) ∧
      let a := timeStatement s₀ (fld q 0 8) (fld q 8 8) (fld q 16 2)
      (-300000000 ≤ timeStep s₀ a) ∧ timeStep s₀ a ≤ 300000000) ∧
    Met specLedgerRead (fun q _ => wellFormed q 8 []) ∧
    (∃ q s s₀, admitted specLedgerHead q s = some s₀ ∧ wellFormed q 32 []) :=
  let p : KeySlot := { cls := clsPublic, type := 0x11, set := 2, attr := 2 ^ aVerify, material := zeros 97 }
  let s := { ready with keys := [(0x10000, p)], almanac := { timeKey := handle 3 0 0x10000 } }
  let q := ask (le 4 (handle 3 0 0x10000))
  let t := ask (le 8 0 ++ le 8 300000000 ++ le 2 10 ++ le 2 0 ++ zeros 100)
  ⟨⟨ask [], ready, served ready, by decide +kernel⟩, ⟨ask [], ready, served ready, by decide +kernel⟩,
   ⟨q, granted specTimeKeySet q s, spent s, p,
     admitted_granted rfl rfl rfl (by decide +kernel), by decide +kernel⟩,
   ⟨t, s, served s, p, by decide +kernel⟩, ⟨ask (le 8 0), ready, served ready, by decide +kernel⟩,
   ⟨ask (zeros 32), ready, served ready, by decide +kernel⟩⟩

theorem meets_ContextCommandsComplete :
    Met specContextClaim (fun q s => wellFormed q 4 [] ∧ fld q 0 4 < 16384 ∧ tblFind s.contexts (fld q 0 4) = none ∧
      (s.contexts.filter (fun e => e.2.holder == q.fn)).length < 2048) ∧
    (∃ q s s₀ x, admitted specContextRelease q s = some s₀ ∧ wellFormed q 4 [] ∧ fld q 0 4 < 16384 ∧
      tblFind s₀.contexts (fld q 0 4) = some x ∧ x.holder = q.fn ∧ (contextBusy s₀ (fld q 0 4) = false ∨ q.flags ≠ 0)) ∧
    Met specContextInfo (fun q _ => wellFormed q 4 [] ∧ fld q 0 4 < 16384) ∧
    (∃ q s s₀ x, admitted specDigestContextReset q s = some s₀ ∧ wellFormed q 4 [] ∧ fld q 0 4 < 16384 ∧
      tblFind s₀.contexts (fld q 0 4) = some x ∧ x.holder = q.fn ∧ contextBusy s₀ (fld q 0 4) = false) ∧
    Met specTwinSet (fun q _ => wellFormed q 4 [(1, 3)] ∧ fld q 0 1 ≤ 1) ∧ Met specCurveList (fun q _ => wellFormed q 4 [(2, 2)]) :=
  let s := { ready with contexts := [(16383, { holder := 0 })] }
  let q := ask (le 4 16383)
  let t := ask (le 4 1)
  ⟨⟨q, ready, served ready, by decide +kernel⟩, ⟨q, s, served s, { holder := 0 }, by decide +kernel⟩,
   ⟨q, s, served s, by decide +kernel⟩, ⟨q, s, served s, { holder := 0 }, by decide +kernel⟩,
   ⟨t, granted specTwinSet t ready, spent ready,
     admitted_granted rfl rfl rfl (by decide +kernel), by decide +kernel⟩,
   ⟨ask (le 4 0), ready, served ready, by decide +kernel⟩⟩

theorem meets_StrandCommandsComplete :
    Met specStrandConfig (fun q s => wellFormed q 64 [(6, 2)] ∧ badStrandCfg q = none ∧ fld q 2 1 = 1 ∧
      archiveFault s q.fn (payloadStrand q).archiveKey = none ∧
      (wantsDigest (payloadStrand q) && overDigest s (payloadStrand q :: otherCfgs s (qStrand q))) = false ∧
      overSeals (payloadStrand q :: otherCfgs s (qStrand q)) = false ∧ strandBarred q s = false) ∧
    Met specStrandConfig (fun q s => wellFormed q 64 [(6, 2)] ∧ badStrandCfg q = none ∧ fld q 2 1 = 2 ∧
      (strandOf s (qStrand q)).state = .armed) ∧
    Met specStrandList (fun q _ => wellFormed q 4 [] ∧ fld q 0 2 < 4096) ∧
    Met specStrandStatus (fun q _ => wellFormed q 4 [(2, 2)] ∧ qStrand q < 4096) ∧
    Met specStrandClose (fun q s => wellFormed q 4 [(3, 1)] ∧ qStrand q < 4096 ∧ fld q 2 1 = 0 ∧
      (strandOf s (qStrand q)).state = .opened) ∧
    Met specStrandClose (fun q s => wellFormed q 4 [(3, 1)] ∧ qStrand q < 4096 ∧ isOpen (strandOf s (qStrand q)) = true ∧
      fld q 2 1 = 1) ∧
    Met specStrandClose (fun q s => wellFormed q 4 [(3, 1)] ∧ qStrand q < 4096 ∧ isOpen (strandOf s (qStrand q)) = true ∧
      fld q 2 1 = 0 ∧ (strandOf s (qStrand q)).state ≠ .opened) ∧
    Met specStrandSubscribe (fun q s => wellFormed q 8 [(6, 2)] ∧ fld q 0 2 ≤ fld q 2 2 ∧ fld q 2 2 < 4096 ∧ fld q 4 1 ≤ 3 ∧
      1 ≤ fld q 5 1 ∧ fld q 5 1 ≤ 7 ∧
      (s.subs.filter (fun u => !sameRange q.fn (fld q 0 2) (fld q 2 2) u && u.client == q.fn)).length < 16) ∧
    Met specStrandSubscribe (fun q _ => wellFormed q 8 [(6, 2)] ∧ fld q 0 2 ≤ fld q 2 2 ∧ fld q 2 2 < 4096 ∧ fld q 4 1 ≤ 3 ∧
      fld q 5 1 = 0) :=
  let armed := { ready with strands := [(4095, { state := .armed })] }
  let opened := { ready with strands := [(4095, { state := .opened })] }
  let held := { ready with strands := [(4095, { state := .held })] }
  let cfg := fun op => ask (le 2 4095 ++ le 1 op ++ le 1 0 ++ le 1 1 ++ le 1 0 ++ zeros 2 ++ le 4 (handle 1 0 0) ++ le 4 10000000 ++ zeros 48)
  let close := fun k => ask (le 2 4095 ++ le 1 k ++ zeros 1)
  let s := { ready with keys := [(0, { cls := clsEvidence, attr := 2 ^ aEncrypt, material := zeros 32 })] }
  ⟨⟨cfg 1, s, served s, by decide +kernel⟩, ⟨cfg 2, armed, served armed, by decide +kernel⟩,
   ⟨ask (le 2 4095 ++ le 2 0), ready, served ready, by decide +kernel⟩, ⟨ask (le 4 4095), ready, served ready, by decide +kernel⟩,
   ⟨close 0, opened, served opened, by decide +kernel⟩, ⟨close 1, opened, served opened, by decide +kernel⟩,
   ⟨close 0, held, served held, by decide +kernel⟩,
   ⟨ask (le 2 4095 ++ le 2 4095 ++ le 1 3 ++ le 1 7 ++ zeros 2), ready, served ready, by decide +kernel⟩,
   ⟨ask (le 2 0 ++ le 2 4095 ++ zeros 4), ready, served ready, by decide +kernel⟩⟩

theorem meets_SealCommandsComplete :
    Met specScannerTrustImport (fun q _ => 2 ≤ fld q 0 1 ∧ fld q 0 1 ≤ 4 ∧ wellFormed q 36 [(1, 3)]) ∧
    (∃ q s s₀, admitted specScannerTrustImport q s = some s₀ ∧ fld q 0 1 = 1 ∧ fld q 4 2 ≤ 4056 ∧
      wellFormed q (8 + fld q 4 2) [(1, 3), (6, 2)]) ∧
    Met specSealConfig (fun q _ => wellFormed q 8 [(1, 1), (4, 4)] ∧ (fld q 0 1 = 1 ∨ fld q 0 1 = 2) ∧ fld q 2 2 ≤ 3600) ∧
    (∃ q s s₀, admitted specSealKeySet q s = some s₀ ∧ wellFormed q (12 + fld q 8 2) [(10, 2)] ∧
      (fld q 4 4 == 0) = classicalSeals s₀ ∧ wrongIndex false (fld q 0 4) = false ∧ wrongIndex false (fld q 4 4) = false ∧
      signKeyFault s₀ (fld q 0 4) 0x10 0x0002 = none ∧ (fld q 4 4 ≠ 0 → signKeyFault s₀ (fld q 4 4) 0x14 65 = none)) ∧
    (∀ op ∈ [1, 2, 3, 4], ∃ f n o s, mayEnd s f n o 0x0506 ∧ rd o.payload 0 1 = op ∧
      s.scannerCas = [] ∧ s.scannerDenied = []) :=
  let q := ask (le 1 4 ++ zeros 35)
  let c := ask (le 4 1 ++ le 2 4056 ++ zeros 2 ++ zeros 4056)
  let p := ask (le 1 2 ++ zeros 1 ++ le 2 3600 ++ zeros 4)
  let e : KeySlot := { cls := clsCustody, type := 0x10, set := 2, attr := 2 ^ aSign, material := zeros 48 }
  let m : KeySlot := { cls := clsCustody, type := 0x14, set := 65, attr := 2 ^ aSign, material := zeros 32 }
  let s := { ready with keys := [(0x10000, e), (0x107FF, m)] }
  let k := ask (le 4 (handle 2 0 0x10000) ++ le 4 (handle 2 0 0x107FF) ++ le 2 0 ++ zeros 2)
  ⟨⟨q, granted specScannerTrustImport q ready, spent ready,
     admitted_granted rfl rfl rfl (by decide +kernel), by decide +kernel⟩,
   ⟨c, granted specScannerTrustImport c ready, spent ready,
     admitted_granted rfl rfl rfl (by decide +kernel), by decide +kernel⟩,
   ⟨p, granted specSealConfig p ready, spent ready,
     admitted_granted rfl rfl rfl (by decide +kernel), by decide +kernel⟩,
   ⟨k, granted specSealKeySet k s, spent s,
     admitted_granted rfl rfl rfl (by decide +kernel), by decide +kernel⟩,
   fun op h => ⟨0, 1, anOp 0x0506 (le 1 op ++ zeros 35), underWay (anOp 0x0506 (le 1 op ++ zeros 35)) ready, by
     fin_cases h <;> decide +kernel⟩⟩

theorem meets_PortCommandsComplete :
    (∃ q s s₀ p, admitted specPortConfig q s = some s₀ ∧ wellFormed q 24 [(22, 2)] ∧ slotOf (fld q 0 1) = some p ∧
      badPortCfg p (payloadCfg q (portOf s₀ p).cfg.mac) = none) ∧
    (∃ q s s₀ p, admitted specPortStatus q s = some s₀ ∧ wellFormed q 4 [(1, 3)] ∧ slotOf (fld q 0 1) = some p) ∧
    (∃ q s s₀ p, admitted specPortCounters q s = some s₀ ∧ wellFormed q 4 [(2, 2)] ∧ slotOf (fld q 0 1) = some p ∧
      fld q 1 1 ≤ 1 ∧ (fld q 1 1 = 0 ∨ q.fn = 0)) :=
  ⟨⟨ask (le 1 0 ++ le 1 0 ++ le 1 1 ++ le 1 1 ++ zeros 20), ready, served ready, 0, by decide +kernel⟩,
   ⟨ask (le 1 0x87 ++ zeros 3), ready, served ready, 127, by decide +kernel⟩,
   ⟨ask (le 1 0 ++ le 1 1 ++ zeros 2), ready, served ready, 0, by decide +kernel⟩⟩

theorem meets_TrustCommandsComplete :
    (∃ q s s₀, admitted specTrustImportMasterlist q s = some s₀ ∧ wellFormed q 16 [(12, 4)]) ∧
    (∃ q s s₀, admitted specTrustImportCrl q s = some s₀ ∧ wellFormed q 16 [(12, 4)]) ∧
    (∃ q s s₀ k, admitted specTrustImportIsKey q s = some s₀ ∧ 8 ≤ q.payload.length ∧ 1 ≤ fld q 4 1 ∧ fld q 4 1 ≤ 4 ∧
      wellFormed q (splitCerts q.payload (fld q 4 1) 8).2 [(5, 3)] ∧ wrongIndex false (fld q 0 4) = false ∧
      (∀ c ∈ (splitCerts q.payload (fld q 4 1) 8).1, c.length ≤ 1024) ∧ keyAt s₀ (fld q 0 4) = .ok k ∧ k.session = false ∧
      k.cls = clsCustody ∧ asymIndex (hIndex (fld q 0 4)) = true ∧ k.damaged = false ∧ chainCount s₀ < 256) ∧
    Met specTrustList (fun q _ => wellFormed q 8 [(1, 3)] ∧ 1 ≤ fld q 0 1 ∧ fld q 0 1 ≤ 3) ∧
    Met specTrustRemove (fun q _ => wellFormed q 4 []) ∧
    (∃ f n o b s, mayEnd s f n o 0x0602 ∧ importFile o 4194304 = .ok b) ∧
    (∃ f n o b s, mayEnd s f n o 0x0603 ∧ importFile o 1048576 = .ok b) :=
  let q := ask (zeros 16)
  let o := fun code => anOp code (zeros 16) (some [])
  let k : KeySlot := { cls := clsCustody, type := 0x10, set := 2, material := zeros 48 }
  let s := { ready with keys := [(0x10000, k)] }
  let c := ask (le 4 (handle 2 0 0x10000) ++ le 1 1 ++ zeros 3 ++ le 2 1024 ++ zeros 1024)
  let r := ask (le 4 1)
  let u := { ready with trust := [(1, .csca [] {} false)] }
  ⟨⟨q, granted specTrustImportMasterlist q ready, spent ready,
     admitted_granted rfl rfl rfl (by decide +kernel), by decide +kernel⟩,
   ⟨q, ready, served ready, by decide +kernel⟩,
   ⟨c, granted specTrustImportIsKey c s, spent s, k,
     admitted_granted rfl rfl rfl (by decide +kernel), by decide +kernel⟩,
   ⟨ask (le 1 3 ++ zeros 7), ready, served ready, by decide +kernel⟩,
   ⟨r, granted specTrustRemove r u, spent u,
     admitted_granted rfl rfl rfl (by decide +kernel), by decide +kernel⟩,
   ⟨0, 1, o 0x0602, [], underWay (o 0x0602) ready, by decide +kernel⟩, 0, 1, o 0x0603, [], underWay (o 0x0603) ready, by decide +kernel⟩

theorem meets_VerdictPolicyCommandsComplete :
    (∃ q s s₀, admitted specVerdictKeySet q s = some s₀ ∧ wellFormed q (16 + fld q 12 2) [(1, 3), (14, 2)] ∧
      (fld q 0 1 = 2 ∨ (fld q 0 1 = 1 ∧ fld q 8 4 = 0)) ∧ wrongIndex false (fld q 4 4) = false ∧
      wrongIndex false (fld q 8 4) = false ∧ signKeyFault s₀ (fld q 4 4) 0x10 0x0002 = none ∧
      (fld q 0 1 = 2 → signKeyFault s₀ (fld q 8 4) 0x14 65 = none)) ∧
    Met specDscacheFlush (fun q _ => wellFormed q 0 []) ∧
    Met specVerifyPolicySet (fun q _ => wellFormed q 32 [(22, 10)] ∧ badPolicy (fld q 0 2) (payloadPolicy q) = none) :=
  let e : KeySlot := { cls := clsCustody, type := 0x10, set := 2, attr := 2 ^ aSign, material := zeros 48 }
  let m : KeySlot := { cls := clsCustody, type := 0x14, set := 65, attr := 2 ^ aSign, material := zeros 32 }
  let s := { ready with keys := [(0x10000, e), (0x107FF, m)] }
  let k := ask (le 4 2 ++ le 4 (handle 2 0 0x10000) ++ le 4 (handle 2 0 0x107FF) ++ le 2 0 ++ zeros 2)
  let p := ask (le 2 15 ++ [3, 2, 1, 1, 1, 1, 1, 1] ++ le 2 0xFFFE ++ le 2 0xFFFE ++ le 2 0xFFFE ++ le 2 100 ++ le 2 120 ++
    [63, 3] ++ zeros 10)
  ⟨⟨k, granted specVerdictKeySet k s, spent s,
     admitted_granted rfl rfl rfl (by decide +kernel), by decide +kernel⟩,
   ⟨ask [], ready, served ready, by decide +kernel⟩,
   ⟨p, granted specVerifyPolicySet p ready, spent ready,
     admitted_granted rfl rfl rfl (by decide +kernel), by decide +kernel⟩⟩

/-- A sheaf with one step table. -/
def oneTable : Sheaf :=
  { name := zeros 16, version := 1, signer := 0, format := 1, total := 64, digest := zeros 32, formats := [], curves := []
    rules := [], tables := [{ initial := 0, bound := 1, msgFirst := 0x8000, msgLast := 0x80FF, trans := [], acts := []
                              consts := [], states := [{ first := 0, count := 0, transient := false }] }] }

theorem meets_SheafCommandsComplete :
    (∃ q s s₀, admitted specSheafLoad q s = some s₀ ∧ wellFormed q 16 [(12, 4)]) ∧
    Met specSheafList (fun q _ => wellFormed q 4 [(1, 3)]) ∧
    Met specSheafRemove (fun q s => wellFormed q 4 [(1, 3)] ∧ tblHas s.sheaves (fld q 0 1) = true) ∧
    (∃ q s s₀, admitted specSheafBind q s = some s₀ ∧ wellFormed q 12 [(9, 3)] ∧ fld q 0 2 ≤ fld q 2 2 ∧ fld q 2 2 < 4096 ∧
      (sheafOf s₀ (fld q 4 1)).isSome = true ∧ (msgRange s₀ (fld q 4 1) (fld q 5 1)).isSome ∧ fld q 7 1 < 64 ∧ fld q 8 1 < 4 ∧
      fld q 6 1 = 1 ∧ ((List.range (fld q 2 2 + 1 - fld q 0 2)).map (· + fld q 0 2)).any (bindRefused s₀
        { sheaf := fld q 4 1, table := fld q 5 1, client := fld q 7 1, ring := fld q 8 1 }) = false) ∧
    (∃ q s s₀, admitted specSheafBind q s = some s₀ ∧ wellFormed q 12 [(9, 3)] ∧ fld q 0 2 ≤ fld q 2 2 ∧ fld q 2 2 < 4096 ∧
      tblHas s₀.sheaves (fld q 4 1) = true ∧ (msgRange s₀ (fld q 4 1) (fld q 5 1)).isSome ∧ fld q 7 1 < 64 ∧ fld q 8 1 < 4 ∧
      fld q 6 1 = 2) ∧
    (∃ q s s₀, admitted specSheafSignerSet q s = some s₀ ∧ wellFormed q 12 [(2, 2)] ∧ fld q 0 1 ≤ 3 ∧
      wrongIndex false (fld q 4 4) = false ∧ wrongIndex false (fld q 8 4) = false ∧ fld q 1 1 = 1 ∧
      signerKeyFault s₀ (fld q 4 4) 0x11 0x0002 = none ∧ (fld q 8 4 ≠ 0 → signerKeyFault s₀ (fld q 8 4) 0x15 65 = none)) ∧
    (∃ q s s₀, admitted specSheafSignerSet q s = some s₀ ∧ wellFormed q 12 [(2, 2)] ∧ fld q 0 1 ≤ 3 ∧
      wrongIndex false (fld q 4 4) = false ∧ wrongIndex false (fld q 8 4) = false ∧ fld q 1 1 = 2) ∧
    (∃ f n o b s, mayEnd s f n o 0x0701 ∧ loadLimits s (rd o.payload 8 4) = none ∧ o.file = some b) :=
  let s := { ready with sheaves := [(63, oneTable)] }
  let q := ask (zeros 16)
  let o := anOp 0x0701 (zeros 8 ++ le 4 128 ++ zeros 4) (some [])
  let r := ask (le 4 63)
  let b := fun op => ask (le 2 4095 ++ le 2 4095 ++ [63, 0, op, 63, 3] ++ zeros 3)
  let e : KeySlot := { cls := clsPublic, type := 0x11, set := 2, attr := 2 ^ aVerify, material := zeros 97 }
  let k := { ready with keys := [(0x10000, e), (0x107FF, { e with type := 0x15, set := 65 })] }
  let n := ask ([3, 1, 0, 0] ++ le 4 (handle 3 0 0x10000) ++ le 4 (handle 3 0 0x107FF))
  let m := ask ([3, 2] ++ zeros 10)
  ⟨⟨q, granted specSheafLoad q ready, spent ready,
     admitted_granted rfl rfl rfl (by decide +kernel), by decide +kernel⟩,
   ⟨ask (zeros 4), ready, served ready, by decide +kernel⟩,
   ⟨r, granted specSheafRemove r s, spent s,
     admitted_granted rfl rfl rfl (by decide +kernel), by decide +kernel⟩,
   ⟨b 1, s, served s, by decide +kernel⟩, ⟨b 2, s, served s, by decide +kernel⟩,
   ⟨n, granted specSheafSignerSet n k, spent k,
     admitted_granted rfl rfl rfl (by decide +kernel), by decide +kernel⟩,
   ⟨m, granted specSheafSignerSet m ready, spent ready,
     admitted_granted rfl rfl rfl (by decide +kernel), by decide +kernel⟩,
   0, 1, o, [], underWay o ready, by decide +kernel⟩

/-- A card in service with this state and PIN. -/
def tally (state : Nat) (pin : Bytes) : Card := { cardId := zeros 16, state, commit := 7, pub := zeros 97, priv := zeros 48, pin }

/-- Slot TC3 holding it. -/
def withCard (c : Card) (s : State) : State := { s with cards := [(3, { status := .ready, card := some c })] }

/-- The digits 0 six times. -/
def pin6 : Bytes := List.replicate 6 0x30

theorem meets_OfficerCommandsComplete :
    Met specCardStatus (fun q _ => wellFormed q 4 [(1, 3)] ∧ fld q 0 1 ≤ 3) ∧
    Met specCustodyJournalRead (fun q _ => wellFormed q 4 []) ∧
    (∃ q s s₀ c n, admitted specOfficerEnrol q s = some s₀ ∧ wellFormed q 16 [(3, 1)] ∧ fld q 0 1 ≤ 3 ∧
      (fld q 1 1 ≤ 15 ∨ fld q 1 1 = 0xFF) ∧ badPin (fld q 2 1) (slice q.payload 4 12) = false ∧
      readyCard s₀ (fld q 0 1) = some c ∧ enrolNumber s₀ (fld q 1 1) = some n ∧ tblHas s₀.officers n = false ∧
      enrolDenied s₀ c = false ∧
      let apdu := le 4 c.commit ++ le 8 s₀.ident.serial ++ le 1 n ++ le 1 (fld q 2 1) ++ fit 12 (slice q.payload 4 12)
      let b := beginJournal s₀ 1 (fld q 0 1) n c apdu
      let w := sendWrite b.2 (fld q 0 1) b.1 {}
      w.1.state = jDone ∧ w.1.sw = swOk) ∧
    Met specOfficerRemove (fun q s => wellFormed q 4 [(1, 3)] ∧ fld q 0 1 ≤ 15 ∧ (tblFind s.officers (fld q 0 1)).isSome ∧
      s.quorumM ≤ usableOfficers (setOfficer s (fld q 0 1) none)) ∧
    Met specQuorumSet (fun q s => wellFormed q 4 [(1, 3)] ∧ 1 ≤ fld q 0 1 ∧ fld q 0 1 ≤ 8 ∧ fld q 0 1 ≤ usableOfficers s) :=
  let s := withCard (tally 0 []) { ready with officers := [] }
  let q := ask ([3, 15, 6, 0] ++ pin6 ++ zeros 6)
  let o : Officer := { cardId := zeros 16, pub := zeros 97, state := .active }
  let two := { ready with officers := [(0, o), (15, o)] }
  let r := ask (le 4 15)
  let m := ask (le 4 2)
  ⟨⟨ask (le 4 3), ready, served ready, by decide +kernel⟩, ⟨ask (le 4 0), ready, served ready, by decide +kernel⟩,
   ⟨q, s, served s, tally 0 [], 15, by decide +kernel⟩,
   ⟨r, granted specOfficerRemove r two, spent two,
     admitted_granted rfl rfl rfl (by decide +kernel), by decide +kernel⟩,
   ⟨m, granted specQuorumSet m two, spent two,
     admitted_granted rfl rfl rfl (by decide +kernel), by decide +kernel⟩⟩

theorem locked_out {k : Nat} (r : Option Nat × Nat × State) (h : r.1 = some 0x6983) (g : r.2.1 = k) : r = (some 0x6983, k, r.2.2) := by
  rw [← h, ← g]

theorem meets_QuorumCommandsComplete :
    (∃ q s s₀, admitted specQuorumBegin q s = some s₀ ∧ wellFormed q 40 [(3, 1), (6, 2)] ∧ fld q 0 2 ∈ guardedCodes ∧
      fld q 2 1 ≤ 63 ∧ (fld q 4 2 = 0 ∨ (10 ≤ fld q 4 2 ∧ fld q 4 2 ≤ 3600)) ∧
      (frozen s₀ = true → fld q 0 2 ∈ freezeCodes) ∧ liveApprovals s₀ < 4) ∧
    (∃ q s s₀ a c n o, admitted specQuorumApprove q s = some s₀ ∧ wellFormed q 20 [(6, 2)] ∧ fld q 4 1 ≤ 3 ∧ fld q 5 1 ≤ 12 ∧
      allZero ((slice q.payload 8 12).drop (fld q 5 1)) = true ∧ s₀.approvals.find? (fun a => a.no == fld q 0 4) = some a ∧
      s₀.now < a.expires ∧ a.approved = false ∧ readyCard s₀ (fld q 4 1) = some c ∧
      officerByCard s₀ c.cardId = some (n, o) ∧ o.pub = c.pub ∧ o.state = .active ∧ n ∉ a.signers ∧
      hasEntry s₀ c.cardId jConflict = false ∧ c.pinTries ≠ 0 ∧
      cardVerify c ((slice q.payload 8 12).take (fld q 5 1)) = (swOk, c)) ∧
    (∃ q s s₀ a, admitted specQuorumCancel q s = some s₀ ∧ wellFormed q 4 [] ∧
      s₀.approvals.find? (fun a => a.no == fld q 0 4) = some a) ∧
    (∃ q s s₀ c, admitted specCardForceErase q s = some s₀ ∧ wellFormed q 20 [(1, 3)] ∧ fld q 0 1 ≤ 3 ∧
      readyCard s₀ (fld q 0 1) = some c ∧ c.cardId = slice q.payload 4 16) ∧
    (∃ f n o s c, mayEnd s f n o 0x0808 ∧
      let slot := rd o.payload 0 1
      readyCard s slot = some c ∧ c.cardId = slice o.payload 4 16 ∧ c.state = 2 ∧
      let off := ((officerByCard s c.cardId).map (·.1)).getD 0xFF
      let b := beginJournal s 2 slot off c (le 4 c.commit)
      let w := sendWrite b.2 slot b.1 (linkAt o.link 0)
      w.1.state = jDone ∧ w.1.sw = swOk) ∧
    (∃ f n o s c k t, mayEnd s f n o 0x0808 ∧
      let slot := rd o.payload 0 1
      readyCard s slot = some c ∧ c.cardId = slice o.payload 4 16 ∧ c.state = 1 ∧ 1 ≤ c.pinTries ∧ c.pinTries ≤ 15 ∧ o.link = [] ∧
      lockOut slot c.cardId o.link 17 0 s = (some 0x6983, k, t) ∧
      let off := ((officerByCard t c.cardId).map (·.1)).getD 0xFF
      let b := beginJournal t 2 slot off c (le 4 c.commit)
      let w := sendWrite b.2 slot b.1 (linkAt o.link k)
      w.1.state = jDone ∧ w.1.sw = swOk) :=
  let q := ask (le 2 0x0C04 ++ [63, 0] ++ le 2 3600 ++ zeros 2 ++ zeros 32)
  let a : Approval := { no := 9, code := 0x0C04, client := 0, digest := [], expires := 1, challenge := [] }
  let o : Officer := { cardId := zeros 16, pub := zeros 97, state := .active }
  let c := tally 1 pin6
  let s := { withCard c ready with officers := [(15, o)], approvals := [a] }
  let p := ask (le 4 9 ++ [3, 6, 0, 0] ++ pin6 ++ zeros 6)
  let f := ask (le 4 3 ++ zeros 16)
  let u := withCard c ready
  let e := anOp 0x0808 (le 4 3 ++ zeros 16)
  let d := { c with pinTries := 1 }
  ⟨⟨q, ready, served ready, by decide +kernel⟩, ⟨p, s, served s, a, c, 15, o, by decide +kernel⟩,
   ⟨ask (le 4 9), s, served s, a, by decide +kernel⟩,
   ⟨f, granted specCardForceErase f u, spent u, c,
     admitted_granted rfl rfl rfl (by decide +kernel), by decide +kernel⟩,
   ⟨0, 1, e, underWay e (withCard (tally 2 pin6) ready), tally 2 pin6, by decide +kernel⟩,
   0, 1, e, underWay e (withCard d ready), d, 2, (lockOut 3 (zeros 16) [] 17 0 (underWay e (withCard d ready))).2.2, by decide +kernel,
   by decide +kernel, by decide +kernel, rfl, by decide +kernel, by decide +kernel, rfl,
   locked_out _ (by decide +kernel) (by decide +kernel), by decide +kernel⟩

/-- A healthy Active unit with its Standby (R392). -/
def activePair : Pair :=
  { role := .active, paired := true, peerSerial := 5, peerRole := 2, peerReachable := true, peerUpdate := 2
    pathA := { link := true, up := true }, pathB := { link := true, up := true } }

theorem healthy_active {s : State} (h : s.pair = activePair) : healthy s = true := by simp [healthy, h, activePair]

theorem unhealthy_alone {s : State} (h : s.pair = { activePair with peerReachable := false }) : healthy s = false := by
  simp [healthy, h, activePair]

/-- A claimed unit. -/
def claimed : State := { ready with life := { claimed := true } }

theorem peer_alike (s : State) : peerDiffers s { member := 0x9144, optionN := s.ident.optionN, ownerKid := s.life.ownerDigest
                                                 partsId := partsId s } = none := by
  simp [peerDiffers]

theorem meets_PairAndFieldCommandsComplete :
    Met specPairBegin (fun q _ => wellFormed q 16 [(9, 7)] ∧ fld q 8 1 ≤ 1) ∧
    (∃ q s s₀ i, admitted specPairComplete q s = some s₀ ∧ 116 ≤ q.payload.length ∧ fld q 8 2 = mldsaPubLen s₀ ∧
      wellFormed q (116 + mldsaPubLen s₀) [(10, 6), (113, 3)] ∧ s₀.pair.identity = some i ∧ i.peer = fld q 0 8 ∧
      anyLink s₀ = true ∧ helloFault s₀ i.peer = none) ∧
    Met specPairStatus (fun q _ => wellFormed q 0 []) ∧
    Met specPairSwitchover (fun q s => wellFormed q 8 [] ∧ fld q 0 8 = s.pair.peerSerial ∧ healthy s = true) ∧
    Met specPairDissolve (fun q s => wellFormed q 8 [] ∧ fld q 0 8 = s.pair.peerSerial ∧ s.pair.role = .active) ∧
    Met specPairDissolve (fun q s => wellFormed q 8 [] ∧ fld q 0 8 = s.pair.peerSerial ∧ s.pair.role ≠ .active) ∧
    (∃ q s s₀, admitted specFieldOutputSet q s = some s₀ ∧ wellFormed q 4 []) ∧
    Met specFieldOutputRead (fun q _ => wellFormed q 0 []) ∧
    (∃ f n o s, mayEnd s f n o 0x0901 ∧ anyLink s = true ∧ helloFault s (rd o.payload 0 8) = none) ∧
    (∃ (p : Path) (who : PeerUnit) (body : Bytes) (k : KeyEx) (i : PairIdentity) (s : State), powered s = true ∧
      (pathOf s p).link = true ∧ s.pair.keyex = some k ∧ s.pair.identity = some i ∧ i.join = true ∧ k.agreed = false ∧
      peerDiffers s who = none ∧
      body.length = 129 + (if s.ident.optionN then 0 else 1088) + (if s.ident.optionN then 96 else 3405)) ∧
    (∃ f k s, powered s = true ∧ s.pair.claim = .window f ∧ claimStands s = true ∧ s.pair.hitchIn = false ∧
      (takeOver (advanceTo s (f + 20))).pair.keyex = some k ∧ k.agreed = true) :=
  let b := ask (le 8 9 ++ [1] ++ zeros 7)
  let i : PairIdentity := { peer := 9, join := true, begun := 0, ecdsa := zeros 97, mldsa := [] }
  let s := { claimed with pair := { identity := some i, pathB := { link := true } } }
  let c := ask (le 8 9 ++ le 2 1952 ++ zeros 6 ++ zeros 100 ++ zeros 1952)
  let a := { ready with pair := activePair }
  let r := { ready with pair := { activePair with role := .standby } }
  let p := ask (le 8 5)
  let kx : Bool → KeyEx := fun agreed => { fn := 0, op := 1, peer := 9, peerEcdsa := [], peerMldsa := [], started := 0, agreed }
  let who : PeerUnit := { member := 0x9144, optionN := false, ownerKid := s.life.ownerDigest, partsId := partsId s }
  ⟨⟨b, granted specPairBegin b claimed, spent claimed,
     admitted_granted rfl rfl rfl (by decide +kernel), by decide +kernel⟩,
   ⟨c, granted specPairComplete c s, spent s, i,
     admitted_granted rfl rfl rfl (by decide +kernel), by decide +kernel⟩,
   ⟨ask [], ready, served ready, by decide +kernel⟩,
   ⟨p, granted specPairSwitchover p a, spent a,
     admitted_granted rfl rfl rfl (by decide +kernel),
     by decide +kernel, by decide +kernel, healthy_active rfl⟩,
   ⟨p, granted specPairDissolve p a, spent a,
     admitted_granted rfl rfl rfl (by decide +kernel), by decide +kernel⟩,
   ⟨p, granted specPairDissolve p r, spent r,
     admitted_granted rfl rfl rfl (by decide +kernel), by decide +kernel⟩,
   ⟨ask (le 2 0xFFFF ++ le 2 0xFFFF), ready, served ready, by decide +kernel⟩, ⟨ask [], ready, served ready, by decide +kernel⟩,
   ⟨0, 1, anOp 0x0901 (zeros 16), { underWay (anOp 0x0901 (zeros 16)) ready with pair := { pathB := { link := true } } },
    by decide +kernel⟩,
   ⟨.b, who, zeros 4622, kx false, i, { s with pair := { s.pair with keyex := some (kx false) } }, by decide +kernel, rfl, rfl, rfl,
    rfl, rfl, peer_alike _, by decide +kernel⟩,
   0, kx true, { ready with pair := { role := .standby, paired := true, claim := .window 0, keyex := some (kx true) } }, by decide +kernel⟩

theorem meets_BaleCommandsComplete :
    Met specBaleBegin (fun q s => wellFormed q 40 [(4, 4)] ∧ firstRefusal s 6 = none ∧ 1 ≤ fld q 0 4 ∧ fld q 0 4 ≤ 8388608 ∧
      s.update.phase = .idle) ∧
    Met specBaleBegin (fun q s => wellFormed q 40 [(4, 4)] ∧ firstRefusal s 6 = none ∧ 1 ≤ fld q 0 4 ∧ fld q 0 4 ≤ 8388608 ∧
      (s.update.phase = .staging ∨ s.update.phase = .staged) ∧ s.update.baleLen = fld q 0 4 ∧
      s.update.baleId = slice q.payload 8 32) ∧
    (∃ q s s₀, admitted specBaleChunk q s = some s₀ ∧ wellFormed q 16 [(10, 2)] ∧ fld q 8 2 < chunkCount s₀ ∧
      fld q 12 4 = chunkLen s₀ (fld q 8 2)) ∧
    Met specBaleChunkMap (fun q _ => wellFormed q 0 []) ∧
    Met specBaleVerify (fun q s => wellFormed q 0 [] ∧ firstRefusal s 6 = none) ∧
    Met specBaleActivate (fun q s => wellFormed q 40 [(32, 8)] ∧ slice q.payload 0 32 = s.update.staged.baleId ∧
      firstRefusal s 8 = none) ∧
    Met specBaleStatus (fun q _ => wellFormed q 0 []) ∧
    Met specBaleAbandon (fun q s => wellFormed q 0 [] ∧ (s.update.phase = .staging ∨ s.update.phase = .staged)) ∧
    (∃ q s s₀, admitted specBaleAbandon q s = some s₀ ∧ wellFormed q 0 [] ∧ s₀.update.phase = .trial) ∧
    Met specUpdateLockSet (fun q _ => wellFormed q 4 [(1, 3)] ∧ fld q 0 1 ≤ 1) ∧
    (∃ f n o s, mayEnd s f n o 0x0A04 ∧ verifyModes { fn := f } s = none ∧ firstRefusal s 6 = none) ∧
    (∃ s f op since, powered s = true ∧ s.update.activation = .draining f op since ∧ drained s f op = true) ∧
    (∃ s f op since o, stewardWorks s = true ∧ millHolds s = false ∧ s.update.activation = .pause f op since ∧ s.update.attempt ≠ 0 ∧
      let t := setUpdate s { s.update with
        activation := .none, phase := .trial, deadline := s.now + 120000000, changed := [], testsPassed := [], attemptStart := s.now }
      opOf (shiftTimers (openMailboxes t) (s.now - since)) f op = some o) :=
  let b := ask (le 4 8388608 ++ zeros 4 ++ zeros 32)
  let u : Update := { phase := .staging, step := 11, mbxReady := true, baleLen := 65537, baleId := zeros 32, chunks := [(0, [0]), (1, [0])] }
  let s := { ready with update := { u with baleLen := 8388608 } }
  let g := { ready with update := u }
  let st := { ready with update := { u with phase := .staged, staged := { baleId := zeros 32, schemaMin := 0 } } }
  let t := { ready with update := { u with phase := .trial } }
  let v := ask (zeros 40)
  let l := ask (le 4 1)
  let o := anOp 0x0A05 v.payload
  ⟨⟨b, ready, served ready, by decide +kernel⟩, ⟨b, s, served s, by decide +kernel⟩,
   ⟨ask (zeros 8 ++ le 2 1 ++ zeros 2 ++ le 4 1), g, served g, by decide +kernel⟩,
   ⟨ask [], ready, served ready, by decide +kernel⟩, ⟨ask [], g, served g, by decide +kernel⟩,
   ⟨v, granted specBaleActivate v st, spent st,
     admitted_granted rfl rfl rfl (by decide +kernel), by decide +kernel⟩,
   ⟨ask [], ready, served ready, by decide +kernel⟩, ⟨ask [], g, served g, by decide +kernel⟩,
   ⟨ask [], t, served t, by decide +kernel⟩,
   ⟨l, granted specUpdateLockSet l ready, spent ready,
     admitted_granted rfl rfl rfl (by decide +kernel), by decide +kernel⟩,
   ⟨0, 1, anOp 0x0A04 [], { underWay (anOp 0x0A04 []) ready with update := u }, by decide +kernel⟩,
   ⟨{ underWay o ready with update := { u with activation := .draining 0 1 0 } }, 0, 1, 0, by decide +kernel⟩,
   { underWay o ready with update := { u with activation := .pause 0 1 0, attempt := 1 } }, 0, 1, 0, o, by decide +kernel⟩

theorem meets_PowerCommandsComplete :
    Met specPowerStateSet (fun q _ => wellFormed q 4 [(1, 3)] ∧ fld q 0 1 = 0) ∧
    Met specPowerStateSet (fun q _ => wellFormed q 4 [(1, 3)] ∧ fld q 0 1 = 1) ∧
    (∃ q s s₀, admitted specPowerStateSet q s = some s₀ ∧ wellFormed q 4 [(1, 3)] ∧ fld q 0 1 = 2 ∧
      (s₀.pair.role = .active → healthy s₀ = false ∧ (s₀.pair.peerReachable && s₀.pair.peerRole == 2) = false)) ∧
    Met specPowerStateSet (fun q s => wellFormed q 4 [(1, 3)] ∧ fld q 0 1 = 2 ∧ s.pair.role = .active ∧ healthy s = true) ∧
    Met specPowerStatus (fun q _ => wellFormed q 0 []) ∧ Met specTelemetryRead (fun q _ => wellFormed q 0 []) ∧
    Met specCompatSet (fun q _ => wellFormed q 4 [(1, 3)] ∧ fld q 0 1 ≤ 2) ∧ Met specModeRead (fun q _ => wellFormed q 0 []) :=
  let a := { ready with pair := activePair }
  let alone := { ready with pair := { activePair with peerReachable := false } }
  let c := ask (le 4 2)
  ⟨⟨ask (le 4 0), ready, served ready, by decide +kernel⟩, ⟨ask (le 4 1), ready, served ready, by decide +kernel⟩,
   ⟨ask (le 4 2), alone, served alone, by decide +kernel, by decide +kernel, by decide +kernel,
     fun _ => ⟨unhealthy_alone rfl, by decide +kernel⟩⟩,
   ⟨ask (le 4 2), a, served a, by decide +kernel, by decide +kernel, by decide +kernel, by decide +kernel,
     healthy_active rfl⟩,
   ⟨ask [], ready, served ready, by decide +kernel⟩, ⟨ask [], ready, served ready, by decide +kernel⟩,
   ⟨c, granted specCompatSet c ready, spent ready,
     admitted_granted rfl rfl rfl (by decide +kernel), by decide +kernel⟩,
   ⟨ask [], ready, served ready, by decide +kernel⟩⟩

theorem meets_AlarmCommandsComplete :
    Met specAlarmStatus (fun q _ => wellFormed q 0 []) ∧
    Met specMonitorConfig (fun q s => wellFormed q 12 [(2, 2), (8, 4)] ∧ fld q 0 1 < 32 ∧ fld q 1 1 ≤ 5 ∧
      thresholdOk s (fld q 0 1) (fld q 4 4) = true ∧ monitorFloor (fld q 0 1) ≤ fld q 1 1) ∧
    Met specSelfTest (fun q _ => wellFormed q 8 [] ∧ fld q 4 4 ≤ 1) ∧
    Met specThaw (fun q s => wellFormed q 0 [] ∧ s.scarecrow.latched ≠ 5 ∧ thawBlocker s = none) ∧
    Met specVigilLogRead (fun q _ => wellFormed q 4 [(1, 3)]) ∧ (∃ f n o s, mayEnd s f n o 0x0C03 ∧ s.hatch.wanted = false) :=
  let m := ask ([31, 5, 0, 0] ++ le 4 0x80000000 ++ zeros 4)
  let s := { ready with scarecrow := { latched := 4 } }
  ⟨⟨ask [], ready, served ready, by decide +kernel⟩,
   ⟨m, granted specMonitorConfig m ready, spent ready,
     admitted_granted rfl rfl rfl (by decide +kernel), by decide +kernel⟩,
   ⟨ask (le 4 0 ++ le 4 1), ready, served ready, by decide +kernel⟩,
   ⟨ask [], granted specThaw (ask []) s, spent s,
     admitted_granted rfl rfl rfl (by decide +kernel), by decide +kernel⟩,
   ⟨ask (le 4 127), ready, served ready, by decide +kernel⟩,
   0, 1, anOp 0x0C03 (zeros 8), underWay (anOp 0x0C03 (zeros 8)) ready, by decide +kernel⟩

theorem meets_LifecycleAndDebugCommandsComplete :
    Met specLifecycleStatus (fun q _ => wellFormed q 0 []) ∧
    (∃ q s s₀ t, admitted specLifecycleAdvance q s = some s₀ ∧ wellFormed q 16 [(1, 7)] ∧ fld q 8 8 = s₀.ident.serial ∧
      lifeReady s₀ = true ∧ lifeTarget 0x0D02 q.payload s₀ = some t) ∧
    (∃ q s s₀ t, admitted specDecommission q s = some s₀ ∧ wellFormed q 16 [(0, 8)] ∧ fld q 8 8 = s₀.ident.serial ∧
      lifeReady s₀ = true ∧ lifeTarget 0x0D07 q.payload s₀ = some t) ∧
    Met specOwnerClaim (fun q _ => wellFormed q (204 + fld q 6 2) [(105, 3)] ∧ claimKeyLen (fld q 4 2) = some (fld q 6 2)) ∧
    (∃ q s s₀, admitted specDebugChallenge q s = some s₀ ∧ wellFormed q 4 [(1, 3)] ∧ 1 ≤ fld q 0 1 ∧ fld q 0 1 ≤ 3) ∧
    (∃ q s s₀ c, admitted specDebugUnlock q s = some s₀ ∧ throttled s₀ = false ∧ s₀.life.lifecycle ≠ lcEndOfLife ∧
      (fld q 1 1 = 3 → s₀.pair.role = .solo) ∧ s₀.life.challenge = some c ∧ s₀.now < c.expires ∧
      q.payload.length = tokenLen c.need ∧
      firstReserved q.payload ([(2, 6)] ++ if bit c.need 1 then [((if bit c.need 0 then 152 else 56) + 97, 3)] else []) = none ∧
      fld q 0 1 = 1 ∧ fld q 1 1 = c.level ∧ fld q 8 8 = s₀.ident.serial ∧ slice q.payload 16 32 = c.bytes ∧
      fld q 48 8 = c.expires) ∧
    Met specDebugClose (fun q _ => wellFormed q 0 []) ∧
    (∀ code ∈ [0x0D02, 0x0D07], ∃ f n o t s, o.code = code ∧ mayEnd s f n o o.code ∧
      lifeTarget o.code o.payload s = some t) ∧
    (∃ f n o s, mayEnd s f n o 0x0D03 ∧ s.life.lifecycle = lcProduction ∧ (s.life.claimed = false ∨ s.life.purged = true) ∧
      s.scarecrow.zerofill ≠ 5 ∧ rd o.payload 0 4 = s.life.claimNo + 1 ∧
      (s.life.purged = true → s.life.claimNo ≠ 0 → sha3 (slice o.payload 8 97) = s.life.ownerDigest)) :=
  let adv := ask ([2] ++ zeros 15)
  let test := { ready with life := { lifecycle := lcTest, rows := [0x0F, 0x0F, 0x0F] } }
  let d := ask (zeros 16)
  let o := ask (zeros 4 ++ le 2 1 ++ le 2 97 ++ zeros 293)
  let c : Challenge := { level := 3, bytes := zeros 32, issued := 0, expires := 600000000, need := 3 }
  let s := { ready with life := { challenge := some c } }
  let u := ask ([1, 3] ++ zeros 46 ++ le 8 600000000 ++ zeros 292)
  ⟨⟨ask [], ready, ready, by decide +kernel⟩,
   ⟨adv, granted specLifecycleAdvance adv test, spent test, 2,
     admitted_granted rfl rfl rfl (by decide +kernel), by decide +kernel⟩,
   ⟨d, granted specDecommission d ready, spent ready, 3,
     admitted_granted rfl rfl rfl (by decide +kernel), by decide +kernel⟩,
   ⟨o, ready, ready, by decide +kernel⟩, ⟨ask (le 4 3), ready, served ready, by decide +kernel⟩,
   ⟨u, s, served s, c, by decide +kernel⟩, ⟨ask [], ready, served ready, by decide +kernel⟩,
   fun code h => by
     have h : code = 0x0D02 ∨ code = 0x0D07 := by simpa using h
     rcases h with rfl | rfl
     · exact ⟨0, 1, anOp 0x0D02 adv.payload, 2, { underWay (anOp 0x0D02 adv.payload) test with life := test.life }, by decide +kernel⟩
     · exact ⟨0, 1, anOp 0x0D07 d.payload, 3, underWay (anOp 0x0D07 d.payload) ready, by decide +kernel⟩,
   0, 1, anOp 0x0D03 (le 4 1 ++ zeros 300), underWay (anOp 0x0D03 (le 4 1 ++ zeros 300)) ready, by decide +kernel, rfl, .inl rfl,
   by decide +kernel, by decide +kernel, fun h => absurd h (by decide +kernel)⟩

/-- A job at the front of ring 0. -/
def job0 : JobReq := { fn := 0, ring := 0 }

theorem meets_JobRowsFetchTheirJob :
    (∃ op g i, (op, g, i) ∈ jobRows ∧
      (∃ (q : JobReq) (s : State), fetches s q.fn q.ring = true ∧ q.fetched = true ∧
        (eventRingOf (fnOf s q.fn) q.desc.eventRing).enabled = true) ∧
      (∃ (q : JobReq) (s : State), fetches s q.fn q.ring = true ∧ q.fetched = false) ∧
      (∃ (q : JobReq) (s : State), fetches s q.fn q.ring = true ∧ q.fetched = true ∧
        (eventRingOf (fnOf s q.fn) q.desc.eventRing).enabled = false) ∧
      (∃ (q : JobReq) (s : State), fetches s q.fn q.ring = false)) ∧
    (∃ (op : Nat) (q : JobReq) (s : State), engineOf op = none ∧ fetches s q.fn q.ring = true ∧ q.fetched = true ∧
      (eventRingOf (fnOf s q.fn) q.desc.eventRing).enabled = true) :=
  ⟨⟨0x0201, .thresher, .aesGcmEncrypt, by simp [jobRows], ⟨job0, ready, by decide +kernel⟩,
    ⟨{ job0 with fetched := false }, ready, by decide +kernel⟩, ⟨{ job0 with desc := { eventRing := 3 } }, ready, by decide +kernel⟩,
    { job0 with ring := 3 }, ready, by decide +kernel⟩, 0x0602, job0, ready, by decide +kernel⟩

/-- A job of these source bytes with `n` bytes of destination. -/
def jobOn (param b : Bytes) (n : Nat) : JobReq :=
  { job0 with desc := { param, srcCount := 1, dstCount := 1, totalLen := b.length }, src := [{ addr := 0, len := b.length }]
              dst := [{ addr := 4096, len := n }], data := b }

/-- The device at rest with floors and stones awake, an AES-256 key in slot 0 and a verdict key. -/
def rested : State :=
  { ready with keys := [(0, { cls := clsGeneral, attr := 0x3FF, material := zeros 32 }),
                        (0x10000, { cls := clsCustody, type := 0x10, set := 2, attr := 2 ^ aSign, material := zeros 48 })]
               floors := (List.range 6).map (fun n => (n, { awake := true }))
               stones := (List.range 64).map (fun n => (n, { state := .idle }))
               verdictKeys := { named := true, ecdsa := handle 2 0 0x10000 } }

/-- A state is quiet where its parts are, and no response of the PF waits. -/
theorem quiet_of {s : State} (h : (fnOf s 0).held = none)
    (k : (s.scarecrow.compat ≠ 1 ∨ s.scarecrow.decisions = []) ∧ s.hatch.starting = false ∧ s.strands = [] ∧ s.writes = [] ∧
      s.verdicts = [] ∧ s.instances = [] ∧ (∀ e ∈ s.fns, ∀ o ∈ e.2.ops, o.code ≠ 0x0101) ∧ s.jobs = [] ∧ s.pair.leaving = none)
    (b : ∀ f < 6, binsSettled s f) : quiet s := by
  obtain ⟨k1, k2, k3, k4, k5, k6, k7, k8, k9⟩ := k
  refine ⟨k1, k2, ?_, k4, k5, k6, k7, ?_, k9, ?_, b⟩
  · rw [k3]; exact fun e he => (List.not_mem_nil he).elim
  · rw [k8]; exact fun e he => (List.not_mem_nil he).elim
  · rw [h]; exact fun x hx => nomatch hx

theorem rested_atRest : atRest rested :=
  ⟨quiet_of (by decide +kernel) (by decide +kernel) (by unfold binsSettled; decide +kernel), by decide +kernel⟩

theorem meets_JobRowsComplete :
    let met := fun op g q (H : State → State → Job → Prop) => ∃ i, (op, g, i) ∈ jobRows ∧ ∃ s, atRest s ∧ fetches s q.fn q.ring = true ∧
      q.fetched = true ∧ (eventRingOf (fnOf s q.fn) q.desc.eventRing).enabled = true ∧ q.dmaFail = none ∧
      ∃ b, jobOf (takeDescriptor s op g q) s.jobNo = some b ∧ mustWait (takeDescriptor s op g q) b = false ∧
        firstFail (jobChecks (takeDescriptor s op g q) b) = none ∧ H s (takeDescriptor s op g q) b
    met 0x0205 .thresher (jobOn (zeros 16) (zeros 16) 16) (fun _ u b => (floorOf u b.floor).fenced = false ∧
      (floorOf u b.floor).awake = true ∧ starved u b.floor = false ∧ coresInService u b.floor ≠ 0 ∧
      jobCores u b ≤ freeCores u b.floor) ∧
    met 0x0301 .flail (jobOn [0x12] (zeros 3) 32) (fun _ u b => ∃ c rest, freeFlail u (onSha2 (flailAlg u b) && true) = c :: rest) ∧
    met 0x0411 .mill (jobOn (le 2 256) (zeros 96) 32) (fun s _ _ =>
      (∀ k < 64, (stoneOf s k).state = .idle ∧ (stoneOf s k).job = none) ∧ s.groupFences = []) ∧
    met 0x0601 .hand (jobOn [] ([1] ++ zeros 3 ++ le 4 1 ++ zeros 25) 608) (fun _ u _ => ∃ h, chooseHand u = some h) :=
  ⟨⟨.aesCtr, by simp [jobRows], rested, rested_atRest, by decide +kernel, rfl, by decide +kernel, rfl, _, rfl, by decide +kernel⟩,
   ⟨.digest, by simp [jobRows], rested, rested_atRest, by decide +kernel, rfl, by decide +kernel, rfl, _, rfl, by decide +kernel,
    by decide +kernel, _, _, rfl⟩,
   ⟨.modmul, by simp [jobRows], rested, rested_atRest, by decide +kernel, rfl, by decide +kernel, rfl, _, rfl, by decide +kernel⟩,
   .verifyOffline, by simp [jobRows], rested, rested_atRest, by decide +kernel, rfl, by decide +kernel, rfl, _, rfl,
   by decide +kernel, by decide +kernel, _, rfl⟩

/-- A job of an engine at a stage. -/
def aJob (g : Engine) (st : Stage) : Job := { id := 1, opcode := 0x0201, engine := g, req := job0, stage := st }

/-- The state holding it. -/
def withJob (b : Job) : State := { ready with jobs := [b] }

theorem meets_JobCompletionsEndJobs :
    let at_ := fun n s b => jobOf s n = some b ∧ powered s = true ∧ b.own = none
    (∃ n s b, at_ n s b ∧ (b.engine = .thresher ∨ b.engine = .flail) ∧ b.stage = .running ∧ b.onCore = true) ∧
    (∃ n s b, at_ n s b ∧ b.engine = .mill ∧ b.stage = .finished) ∧
    (∃ n s b h, at_ n s b ∧ b.engine = .hand ∧ b.stage = .running ∧ b.hand = some h ∧ b.hand.any (handHalted s) = false ∧
      askedDone s b = true) ∧
    (∃ n s b, at_ n s b ∧ b.stage = .running ∧ usesSlot b = true) ∧
    (∃ n s b, at_ n s b ∧ b.engine = .thresher ∧ b.twinned = true ∧ b.stage = .running ∧ b.onCore = true) ∧
    (∃ n s b c, at_ n s b ∧ b.engine = .flail ∧ b.stage = .running ∧ b.onCore = true ∧ b.core = some c) :=
  let onCore := fun g => { aJob g .running with onCore := true, core := some 31 }
  ⟨⟨1, withJob (onCore .thresher), _, ⟨rfl, by decide +kernel⟩, by decide +kernel⟩, ⟨1, withJob (aJob .mill .finished), _, ⟨rfl, by decide +kernel⟩, by decide +kernel⟩,
   ⟨1, withJob { aJob .hand .running with hand := some 7, asks := some [] }, _, 7, ⟨rfl, by decide +kernel⟩, by decide +kernel⟩,
   ⟨1, withJob (aJob .thresher .running), _, ⟨rfl, by decide +kernel⟩, by decide +kernel⟩,
   ⟨1, withJob { onCore .thresher with twinned := true }, _, ⟨rfl, by decide +kernel⟩, by decide +kernel⟩,
   1, withJob (onCore .flail), _, 31, ⟨rfl, by decide +kernel⟩, by decide +kernel⟩

theorem meets_EngineEventsAct :
    (∃ n s b, jobOf s n = some b ∧ powered s = true ∧ (b.engine = .thresher ∨ b.engine = .flail) ∧ b.stage = .running ∧
      b.onCore = true) ∧
    (∃ n s b, jobOf s n = some b ∧ powered s = true ∧ b.queue < 3 ∧ (b.engine = .thresher ∨ b.engine = .flail) ∧
      heldByContext s b = false ∧ (b.stage = .queued ∨ (b.stage = .running ∧ b.onCore = false))) ∧
    (∃ n s b, jobOf s n = some b ∧ powered s = true ∧ b.engine = .mill ∧ b.stage = .queued ∧ b.queue < 3) ∧
    (∀ op ∈ [0x0405, 0x040A, 0x0401], ∃ n s b, n < 64 ∧ powered s = true ∧ (stoneOf s n).state = .busy ∧
      (stoneOf s n).job.bind (jobOf s) = some b ∧ b.stone = some n ∧ b.stage = .running ∧ b.opcode = op ∧ b.own = none ∧
      (op = 0x040A → usesRandom op = true)) ∧
    (∀ w ∈ [none, some (.verdict 1)], ∃ n s b, jobOf s n = some b ∧ powered s = true ∧ b.engine = .mill ∧
      checkRuns s b = true ∧ b.own = w) ∧
    (∃ n s, n < 64 ∧ powered s = true ∧ (stoneOf s n).state = .wiping) ∧
    (∃ n s, n < 64 ∧ powered s = true ∧ (stoneOf s n).state = .idle ∧ (stoneOf s n).job = none ∧ lastAwake s n = false) ∧
    (∃ n s, n < 64 ∧ powered s = true ∧ (stoneOf s n).state = .waking) :=
  let stone := fun st => { ready with stones := [(63, { state := st })] }
  let b := fun op => { aJob .mill .running with opcode := op, stone := some 63 }
  ⟨⟨1, withJob { aJob .flail .running with onCore := true }, _, rfl, by decide +kernel⟩,
   ⟨1, withJob { aJob .flail .running with queue := 2 }, _, rfl, by decide +kernel⟩,
   ⟨1, withJob { aJob .mill .queued with queue := 2 }, _, rfl, by decide +kernel⟩,
   fun op h => ⟨63, { withJob (b op) with stones := [(63, { state := .busy, job := some 1 })] }, b op, by
     fin_cases h <;> decide +kernel⟩,
   fun w h => ⟨1, { withJob { aJob .mill .checking with own := w, check := some 63 } with
       stones := [(63, { state := .busy, job := some 1 })] }, _, rfl, by fin_cases h <;> decide +kernel⟩, ⟨63, stone .wiping, by decide +kernel⟩,
   ⟨63, { ready with stones := [(62, { state := .idle }), (63, { state := .idle })] }, by decide +kernel⟩,
   ⟨63, stone .waking, by decide +kernel⟩⟩

theorem meets_MailboxEventsAct :
    (∃ f s, powered s = true ∧ fnExists s f = true ∧ (fnOf s f).state ≠ .idle) ∧
    (∃ f s, powered s = true ∧ fnExists s f = true ∧ (fnOf s f).state = .done) ∧
    (∃ (code : Nat) (q : MbxReq) (s : State), stewardTakes s q.fn = true ∧ q.flags = 0 ∧ allZero q.rsv = true ∧ q.len ≤ 4064 ∧ code ∉ mboxCodes) :=
  ⟨⟨63, { ready with vfEnable := true, numVfs := 63 }, by decide +kernel⟩,
   ⟨0, { ready with fns := [(0, { fn0 with state := .done })] }, by decide +kernel⟩, 0xFFFF, { ask [] with len := 4064 }, ready,
   by decide +kernel⟩

theorem meets_RingCommandsComplete :
    (∃ f r v s, ringReached s f r = true ∧ bit v 0 = true ∧ (jobRingOf (fnOf s f) r).enable = false) ∧
    (∃ f r v s, ringReached s f r = true ∧ bit v 0 = false ∧ (eventRingOf (fnOf s f) r).enable = true) ∧
    (∃ f r v s, ringReached s f r = true ∧ bit v 0 = true ∧ (eventRingOf (fnOf s f) r).enable = false ∧
      (eventRingOf (fnOf s f) r).enabled = false) ∧
    (∃ f r s, ringReached s f r = true ∧ (eventRingOf (fnOf s f) r).enabled = true) ∧
    (∃ f r s, ringReached s f r = true ∧ (eventRingOf (fnOf s f) r).unsignalled ≠ 0 ∧
      (eventRingOf (fnOf s f) r).oldUsec ≠ 0 ∧ (eventRingOf (fnOf s f) r).enabled = true) :=
  let waits : EventRing := { enable := true, enabled := true, sizeLog2 := 4, unsignalled := 1, oldUsec := 5 }
  ⟨⟨0, 3, 0x31, ready, by decide +kernel⟩, ⟨0, 0, 0, ready, by decide +kernel⟩, ⟨0, 3, 0x31, ready, by decide +kernel⟩, ⟨0, 0, ready, by decide +kernel⟩, 0, 0,
   { ready with fns := [(0, { fn0 with event := [(0, waits)] })] }, by decide +kernel⟩

theorem meets_RegisterWritesTakeEffect :
    (∃ f off v s, fnReached s f = true ∧ off % 4 = 0 ∧ (off = 0 → bit v 0 = true → (fnOf s f).state ≠ .idle)) ∧
    (∃ f v s code, fnReached s f = true ∧ bit v 0 = true ∧ (fnOf s f).state = .idle ∧ code ∈ goRows.map Prod.fst ∧
      rd (fnOf s f).cmdBuf 0 2 = code) ∧
    (∃ f v s, stewardTakes s f = true ∧ bit v 0 = true ∧
      let b := (fnOf s f).cmdBuf
      rd b 0 2 ∉ mboxCodes ∧ rd b 2 2 = 0 ∧ allZero (slice b 16 16) = true ∧ rd b 8 4 ≤ 4064) ∧
    (∃ f off s, fnReached s f = true ∧ off % 8 = 0 ∧ wideRegister .bar0 off = true) ∧
    (∃ n, n ≠ 4 ∧ n ≠ 8) ∧
    (∃ f s, (jobRingOf (fnOf s f) 0).enable = false) ∧ (∃ f s, (jobRingOf (fnOf s f) 0).enable = true) ∧
    (∃ s k e, fnReached s 0 = true ∧ k < 4096 ∧ e ∈ s.ledger.entries.drop (s.ledger.entries.length - 4096) ∧ e.seq % 4096 = k ∧
      ∀ x ∈ s.ledger.entries.drop (s.ledger.entries.length - 4096), x.seq % 4096 = k → x = e) ∧
    (∃ s k, fnReached s 0 = true ∧ k < 4096 ∧ ∀ x ∈ s.ledger.entries, x.seq % 4096 ≠ k) :=
  let buf : Bytes → State := fun b => { ready with fns := [(0, { fn0 with cmdBuf := b })] }
  let e : LedgerEntry := { seq := 4097, tick := 0, type := 0, source := 0, client := 0, tag := 0, status := 0, detail := 0, data := []
                           prev := [] }
  let one := { ready with ledger := { seq := 4097, entries := [e] } }
  ⟨⟨0, 0, 1, State.reset, by decide +kernel⟩, ⟨0, 1, buf (le 2 0x0C04), 0x0C04, by decide +kernel⟩,
   ⟨0, 1, buf (le 2 0xFFFF ++ zeros 6 ++ le 4 4064), by decide +kernel⟩, ⟨0, 0x3300, ready, by decide +kernel⟩, ⟨2, by decide⟩,
   ⟨0, State.reset, by decide +kernel⟩, ⟨0, ready, by decide +kernel⟩, ⟨one, 1, e, by decide +kernel⟩, one, 4095, by decide +kernel⟩

theorem meets_HatchAndFallbackCommandsComplete :
    (∃ v s, powered s = true ∧ bit v 16 = false ∧ v % 65536 ≠ 0 ∧ v % 65536 ≠ 0xFFFF ∧ s.hatch.held = false) ∧
    (∃ v s, powered s = true ∧ bit v 16 = true ∧ v % 65536 ≠ 0xFFFF ∧ s.hatch.held = true ∧ s.hatch.tag = v % 65536) ∧
    (∃ s, powered s = true ∧ s.hatch.held = true ∧ s.hatch.internal = false) ∧
    (∃ s, powered s = true ∧ s.hatch.held = true ∧ s.hatch.internal = false ∧ s.hatch.busy = false ∧
      hatchRefused (hatchTouched s) = none ∧ fenced s (hIndex s.hatch.key) = false ∧ hatchKeyRefused (hatchTouched s) = none ∧
      hatchWaits (hatchTouched s) = false) ∧
    (∃ s r, powered s = true ∧ s.hatch.held = true ∧ s.hatch.internal = false ∧ s.hatch.busy = false ∧ hatchRefused (hatchTouched s) = some r) ∧
    (∃ s r, powered s = true ∧ s.hatch.held = true ∧ s.hatch.internal = false ∧ s.hatch.busy = false ∧
      hatchRefused (hatchTouched s) = none ∧ fenced s (hIndex s.hatch.key) = false ∧ hatchKeyRefused (hatchTouched s) = some r) ∧
    (∃ s, powered s = true ∧ s.hatch.held = true ∧ s.hatch.internal = false ∧ s.hatch.busy = true ∧ s.hatch.starting = false) ∧
    (∃ s, powered s = true ∧ s.hatch.held = true ∧ s.hatch.internal = false ∧ s.hatch.ready = true) ∧
    (∃ s, powered s = true ∧ s.hatch.finishing = true ∧ s.hatch.inBlock = false) ∧
    (∃ s, powered s = true ∧ s.hatch.held = true ∧ s.hatch.internal = false ∧ s.flail.busy = false) ∧
    (∃ s, powered s = true ∧ s.hatch.held = true ∧ s.hatch.internal = false ∧ s.flail.busy = true) ∧
    (∃ s, powered s = true ∧ s.hatch.held = true ∧ s.hatch.internal = false ∧ s.flail.ready = true) ∧
    (∃ s, powered s = true ∧ s.flail.inWord = true ∧ s.flail.core.isSome = true) ∧
    (∃ s, powered s = true ∧ s.flail.finishing = true ∧ s.flail.inWord = false ∧ s.flail.core.isSome = true) :=
  let hold : State := { ready with hatch := { held := true, tag := 0xFFFE } }
  let free : State := { ready with hatch := {} }
  let k : KeySlot := { attr := 0xFF, material := zeros 32 }
  let able : State := { ready with hatch := { held := true, tag := 1, op := 1, key := 0xBFFF }, keys := [(0xBFFF, k)] }
  ⟨⟨0xFFFE, free, by decide +kernel⟩, ⟨0x1FFFE, hold, by decide +kernel⟩, ⟨hold, by decide +kernel⟩,
   ⟨able, by decide +kernel⟩, ⟨hold, eFormat, by decide +kernel⟩, ⟨{ able with keys := [] }, eKeyAbsent, by decide +kernel⟩,
   ⟨{ hold with hatch := { held := true, busy := true } }, by decide +kernel⟩,
   ⟨{ hold with hatch := { held := true, ready := true } }, by decide +kernel⟩,
   ⟨{ hold with hatch := { finishing := true } }, by decide +kernel⟩, ⟨hold, by decide +kernel⟩,
   ⟨{ hold with flail := { busy := true } }, by decide +kernel⟩, ⟨{ hold with flail := { ready := true } }, by decide +kernel⟩,
   ⟨{ hold with flail := { inWord := true, core := some 0 } }, by decide +kernel⟩, { hold with flail := { finishing := true, core := some 31 } }, by decide +kernel⟩

theorem meets_HatchWritesNeedTheLock :
    (∃ i s, i ∈ hatchWrites 0 ∧ powered s = true ∧ s.hatch.held = false) ∧
    (∃ i s, i ∈ hatchWrites 0 ∧ powered s = true ∧ s.hatch.held = true ∧ s.hatch.internal = true) :=
  ⟨⟨.hatchStart, { ready with hatch := {} }, by decide +kernel⟩,
   .hatchStart, { ready with hatch := { held := true, internal := true } }, by decide +kernel⟩

theorem meets_PortEventsAct :
    (∃ p s, canLink (captureStarts s) p = true) ∧ (∃ p s, (portOf s p).up = true) ∧
    (∃ p s, powered s = true ∧ p < 128 ∧ (portOf s p).up = true) ∧
    (∃ p x s, (portOf s p).sending = some x ∧ (portOf s p).up = true) ∧
    (∃ f s, f < 6 ∧ (floorOf s f).pausing = true) ∧ (∃ p s, (portOf s p).rxPaused = true) ∧
    (∃ f s, powered s = true ∧ f < 6 ∧ floorNeeded s f = true) :=
  let down : State := { ready with update := { captureReady := true }, ports := [(0, { cfg := { admin := 1, modeAllow := 0x3FF, fecAllow := 0xF } })] }
  let up : State := { ready with ports := [(127, { cfg := { admin := 1 }, up := true })] }
  let sending := { ready with ports := [(0, { up := true, sending := some { kind := 1 } })] }
  ⟨⟨0, down, by decide +kernel⟩, ⟨127, up, by decide +kernel⟩, ⟨127, up, by decide +kernel⟩,
   ⟨0, { kind := 1 }, sending, by decide +kernel⟩, ⟨5, { ready with floors := [(5, { pausing := true })] }, by decide +kernel⟩,
   ⟨0, { ready with ports := [(0, { rxPaused := true })] }, by decide +kernel⟩,
   5, { ready with ports := [(119, { up := true })], jobs := [{ aJob .thresher .queued with floor := 5 }] }, by decide +kernel⟩

/-- Strand 4095 as given, on the device in service. -/
def onS (x : Strand) : State := { ready with strands := [(4095, x)] }

/-- A frame in the window, of TYPE 2 and a payload that begins with MSG. -/
def ctrlSlot (msg : Nat) (body : Bytes) (st : SlotState) : WSlot :=
  { seq := 1, header := [0, 2] ++ zeros 22, payload := le 2 msg ++ zeros 2 ++ body, tag := [], arrival := 0, state := st }

/-- An open strand with that frame at NEXT. -/
def ctrlS (msg : Nat) (body : Bytes) : State := onS { state := .opened, window := [ctrlSlot msg body .ready] }

theorem meets_StrandFrameEventsAct :
    let at_ := fun s => powered s = true ∧ acting s = true
    let i := 4095
    (∃ s q w, at_ s ∧ (strandOf s i).window.find? (fun w => w.seq == q && w.state == .verifying) = some w ∧ w.twinned = true) ∧
    (∃ s q, at_ s ∧ (strandOf s i).window.any (fun w => w.seq == q && w.state == .digesting) = true ∧ idleFlail s false ≠ []) ∧
    (∃ s r, at_ s ∧ (strandOf s i).building = some r ∧ r.digested = false ∧ idleFlail s false ≠ [] ∧
      (r.enc = .pending ∨ r.enc = .retry)) ∧
    (∃ s q e, at_ s ∧ timersRun s i = true ∧ (strandOf s i).next ≤ q ∧ (strandOf s i).missing.any (fun m => m.1 == q) = false ∧
      (strandOf s i).empty.find? (fun x => x.1 == q) = some e) ∧
    (∃ s m, at_ s ∧ timersRun s i = true ∧ (strandOf s i).missing.any (fun m => (strandOf s i).next ≤ m.1) = true ∧
      (strandOf s i).missing.find? (fun m => m.1 == (strandOf s i).next) = some m) ∧
    (∃ s, at_ s ∧ isKeyed (strandOf s i) = true ∧ (strandOf s i).pausing = true ∧ overLimit s i = true) ∧
    (∃ s, at_ s ∧ isKeyed (strandOf s i) = true ∧ (strandOf s i).pausing = true ∧ frozen s = true) :=
  let r : Release := { knot := {}, enc := .pending }
  let frozenS := { onS { state := .opened, pausing := true } with scarecrow := { latched := 3 } }
  let v : WSlot := { ctrlSlot 3 [] .verifying with twinned := true }
  ⟨⟨onS { state := .opened, window := [v] }, 1, v, by decide +kernel⟩,
   ⟨onS { state := .opened, window := [ctrlSlot 3 [] .digesting] }, 1, by decide +kernel⟩,
   ⟨onS { state := .opened, building := some r }, r, by decide +kernel⟩,
   ⟨onS { state := .opened, highest := 2, empty := [(1, 7)] }, 1, (1, 7), by decide +kernel⟩,
   ⟨onS { state := .opened, missing := [(1, 0)] }, (1, 0), by decide +kernel⟩,
   ⟨onS { state := .opened, pausing := true, heldBytes := 10 ^ 9 }, by decide +kernel⟩, frozenS, by decide +kernel⟩

theorem meets_CtrlMessagesTakeEffect :
    let taken := fun s w msg => ctrlAtNext s 4095 = some w ∧ msgOf w.payload = msg ∧ (plainMsg w).isSome
    (∃ s w, taken s w 3) ∧ (∃ s w, taken s w 4) ∧ (∃ s w, taken s w 6) ∧
    (∃ s w, taken s w 8 ∧ w.payload.length = 4) ∧ (∃ s w, taken s w 0x10 ∧ beginFormed s w = true) ∧
    (∃ s w, taken s w 0x12 ∧ rspFormed s w = true) ∧ (∃ s w, taken s w 0x13 ∧ w.payload.length = 8) ∧
    (∃ s w, ctrlAtNext s 4095 = some w ∧ knownMsg s 4095 (msgOf w.payload) = false) ∧
    (∃ s w b, ctrlAtNext s 4095 = some w ∧ bindingFor s 4095 (msgOf w.payload) = some b) :=
  let begin_ := zeros 8 ++ le 2 261 ++ zeros 6
  let b : Binding := { sheaf := 63, table := 0, client := 0, ring := 0 }
  ⟨⟨ctrlS 3 [], ctrlSlot 3 [] .ready, by decide +kernel⟩, ⟨ctrlS 4 [], ctrlSlot 4 [] .ready, by decide +kernel⟩,
   ⟨ctrlS 6 [], ctrlSlot 6 [] .ready, by decide +kernel⟩, ⟨ctrlS 8 [], ctrlSlot 8 [] .ready, by decide +kernel⟩,
   ⟨ctrlS 0x10 begin_, ctrlSlot 0x10 begin_ .ready, by decide +kernel⟩,
   ⟨ctrlS 0x12 (zeros 8), ctrlSlot 0x12 (zeros 8) .ready, by decide +kernel⟩,
   ⟨ctrlS 0x13 (zeros 4), ctrlSlot 0x13 (zeros 4) .ready, by decide +kernel⟩,
   ⟨ctrlS 0xFFFF [], ctrlSlot 0xFFFF [] .ready, by decide +kernel⟩,
   { ctrlS 0x80FF [] with sheaves := [(63, oneTable)], bindings := [(4095, [b])] }, ctrlSlot 0x80FF [] .ready, b,
   by decide +kernel⟩

theorem meets_StrandKeyEventsAct :
    let at_ := fun s => powered s = true ∧ acting s = true
    let i := 4095
    let next := fun s p src b => at_ s ∧ handsTake s = true ∧ strandHeld s i = false ∧ nextRequest (strandOf s i) = some (p, src, b)
    (∃ s p src b, next s p src b ∧ reqFormed i 64 b = false) ∧
    (∃ s p src b r, next s p src b ∧ reqFormed i 64 b = true ∧ openAsked s i p src b = true ∧ refusal s i p src b = some r) ∧
    (∃ s p src b, next s p src b ∧ reqFormed i 64 b = true ∧ ownReady s (.opening i) = true) ∧
    (∃ s w, at_ s ∧ (strandOf s i).state = .keying ∧ nextReady (strandOf s i) = some w ∧ handFor s i = true ∧
      hType w.header = 2 ∧ msgOf w.payload = 3) ∧
    (∃ s, at_ s ∧ (strandOf s i).state = .opened ∧ (strandOf s i).rekeySeq.isSome = true ∧ handFor s i = true) ∧
    (∃ s, at_ s ∧ (strandOf s i).state = .opened ∧ (strandOf s i).cfg.rekeyS ≠ 0 ∧ (strandOf s i).asked = false ∧
      (strandOf s i).rekeySeq = none ∧ handFor s i = true) ∧
    (∃ s t, at_ s ∧ (strandOf s i).closeEnd = some t ∧ (strandOf s i).state = .opened ∧ handFor s i = true) :=
  let req := le 2 4095 ++ zeros 174
  let asks : StrandState → Bytes → State := fun st b => { onS { state := st, ctrl := [.unkeyed 0 (zeros 6) b] } with
    jobs := [{ aJob .mill .finished with own := some (.opening 4095) }] }
  ⟨⟨asks .armed [], 0, zeros 6, [], by decide +kernel⟩, ⟨asks .keying req, 0, zeros 6, req, 1, by decide +kernel⟩,
   ⟨asks .armed req, 0, zeros 6, req, by decide +kernel⟩,
   ⟨onS { state := .keying, window := [ctrlSlot 3 [] .ready] }, ctrlSlot 3 [] .ready, by decide +kernel⟩,
   ⟨onS { state := .opened, rekeySeq := some 1 }, by decide +kernel⟩,
   ⟨onS { state := .opened, cfg := { rekeyS := 60 } }, by decide +kernel⟩,
   onS { state := .opened, closeEnd := some 100000 }, 100000, by decide +kernel⟩

/-- A seal that waits for its signatures. -/
def aSeal : Seal :=
  { kind := 1, flags := 0, strand := 4095, sealNo := 1, serial := 0, tick := 0, segStart := 0, firstSeq := 1, lastSeq := 1
    knots := 1, epoch := 0, head := [], prevSeal := [], ecdsaKid := [], mldsaKid := [], boundary := 0 }

/-- A chip session with a C-APDU outstanding. -/
def aChip : ChipSession :=
  { session := 1, policyNo := 0, policy := {}, pwdKind := 2, pwd := pin6, maxC := 261, maxR := 261, begun := 0, firstSeq := 1
    seed := 0, outstanding := true }

theorem meets_SealAndHandEventsAct :
    let at_ := fun s => powered s = true ∧ acting s = true
    let i := 4095
    (∃ s, at_ s ∧ braids (strandOf s i) = true ∧ stewardServes s = true ∧ s.sealIdle ≠ 0) ∧
    (∃ s x rest, at_ s ∧ (strandOf s i).sealQ = x :: rest ∧ sheafPaused s = false ∧ stewardServes s = true ∧
      ownRuns s (.seal i) = true) ∧
    (∃ s : State, powered s = true ∧ s.update.mbxReady = true ∧ (acting s = true ∨ s.pair.role = .standby)) ∧
    (∃ s c, (strandOf s i).chip = some c ∧ handFor s i = true ∧ c.outstanding = true) ∧
    (∃ s n v, s.verdicts.find? (fun v => v.no == n) = some v ∧ powered s = true ∧ sheafPaused s = false ∧
      stewardServes s = true ∧ beyondAcked s 0x7FF00 v.no = false ∧ ownRuns s (.verdict v.no) = true) ∧
    (∃ s k n t b key x, at_ s ∧ sheafPaused s = false ∧ boundInstance s i k = some (b, key, x) ∧ tblFind x.timers n = some t) ∧
    (∃ s k tag b key x a st out, at_ s ∧ sheafPaused s = false ∧ boundInstance s i k = some (b, key, x) ∧
      x.asyncs.find? (fun a => a.tag == tag) = some a ∧ a.done = some (st, out)) ∧
    (∃ s k tag b key x a z, at_ s ∧ sheafPaused s = false ∧ boundInstance s i k = some (b, key, x) ∧
      x.asyncs.find? (fun a => a.tag == tag) = some a ∧ a.done = none ∧ a.verdict = some z ∧
      ownReady s (.action key tag) = true ∧ countersHeld s = false) ∧
    (∃ s k tag b key x a id j, at_ s ∧ sheafPaused s = false ∧ boundInstance s i k = some (b, key, x) ∧
      x.asyncs.find? (fun a => a.tag == tag) = some a ∧ a.done = none ∧ a.verdict = none ∧ a.job = some id ∧
      jobOf s id = some j ∧ actionReady j = true ∧
      ((tblFind (startJobs (endAction s j)).instances key).bind
        (fun x => x.asyncs.find? (fun y => y.tag == tag && y.done.isSome))).isSome) :=
  let v : Verdict := { no := 1, record := [], result := 0, alg := 1 }
  let b : Binding := { sheaf := 63, table := 0, client := 0, ring := 0 }
  let a : Async := { tag := 255, done := some (0, []) }
  let x : Instance := { sheaf := 63, table := 0, state := 0, cells := [], timers := [(7, 1000)], asyncs := [a] }
  let inst : Async → State := fun a =>
    { onS { state := .opened } with bindings := [(4095, [b])], instances := [(instKey 4095 63 0, { x with asyncs := [a] })] }
  let s := inst a
  let own := fun w => { aJob .mill .finished with own := some w }
  let z : ToSign := { record := [], hybrid := false, ecdsa := 0, mldsa := 0 }
  let av : Async := { tag := 255, verdict := some z }
  let aj : Async := { tag := 255, job := some 1 }
  let mine : Job := { aJob .mill .finished with sheaf := some (instKey 4095 63 0, 255) }
  ⟨⟨{ onS { state := .closing } with sealIdle := 1 }, by decide +kernel⟩,
   ⟨{ onS { state := .opened, sealQ := [aSeal] } with jobs := [own (.seal 4095)] }, aSeal, [], by decide +kernel⟩,
   ⟨{ ready with update := { mbxReady := true } }, by decide +kernel⟩,
   ⟨onS { state := .opened, chip := some aChip }, aChip, by decide +kernel⟩,
   ⟨{ ready with verdicts := [v], jobs := [own (.verdict 1)] }, 1, v, by decide +kernel⟩,
   ⟨s, 0, 7, 1000, b, instKey 4095 63 0, x, by decide +kernel⟩,
   ⟨s, 0, 255, b, instKey 4095 63 0, x, a, 0, [], by decide +kernel⟩,
   ⟨{ inst av with jobs := [own (.action (instKey 4095 63 0) 255)] }, 0, 255, b, instKey 4095 63 0, { x with asyncs := [av] }, av, z,
    by decide +kernel⟩,
   { inst aj with jobs := [mine] }, 0, 255, b, instKey 4095 63 0, { x with asyncs := [aj] }, aj, 1, mine, by decide +kernel⟩

theorem meets_HawserEventsAct :
    (∃ s p, powered s = true ∧ (pathOf s p).link = false ∧ hawserStarted s = true ∧ pathPowered s = true ∧ (∀ k ∈ pathPorts p, (portOf s k).cfg.admin ≠ 1)) ∧
    (∃ s p, powered s = true ∧ (pathOf s p).link = true) :=
  ⟨⟨ready, .b, by decide +kernel⟩, { ready with pair := activePair }, .b, by decide +kernel⟩

/-- The device in service with this pair state. -/
def paired (p : Pair) : State := { ready with pair := p }

theorem meets_PairTimersAct :
    let at_ := fun s => powered s = true
    (∃ s, at_ s ∧ s.pair.role = .active) ∧
    (∃ s e t n rest, at_ s ∧ s.pair.sentEpochs = (e, t, n) :: rest ∧ s.pair.role = .active ∧ s.pair.peerRole = 2) ∧
    (∃ s, at_ s ∧ s.pair.paired = true ∧ s.pair.peerReachable = true) ∧
    (∃ s p, at_ s ∧ s.pair.paired = true ∧ (pathOf s p).silent = false ∧ (pathOf s (otherPath p)).up = true ∧
      (pathOf s (otherPath p)).silent = false) ∧
    (∃ s, at_ s ∧ s.pair.role = .active ∧ s.pair.hitchOut = true ∧ s.pair.peerReachable = false ∧ s.pair.peerMayClaim = true) ∧
    (∃ s, at_ s ∧ s.pair.starting = true ∧ s.pair.peerReachable = false ∧ s.pair.claim = .none) ∧
    (∃ (s : State) (q t : Nat), at_ s ∧ (fnOf s 0).held = some { code := 0x0906, tag := 0, payload := [], why := .shadow q t }) ∧
    (∃ s i, at_ s ∧ s.pair.identity = some i ∧ s.pair.keyex = none) ∧
    (∃ s k, at_ s ∧ s.pair.keyex = some k ∧ k.agreed = false) ∧ (∃ s, at_ s ∧ acting s = true) :=
  let i : PairIdentity := { peer := 9, join := true, begun := 0, ecdsa := [], mldsa := [] }
  let k : KeyEx := { fn := 0, op := 1, peer := 9, peerEcdsa := [], peerMldsa := [], started := 0 }
  ⟨⟨paired activePair, by decide +kernel⟩,
   ⟨paired { activePair with sentEpochs := [(1, 0, [])] }, 1, 0, [], [], by decide +kernel⟩, ⟨paired activePair, by decide +kernel⟩,
   ⟨paired activePair, .b, by decide +kernel⟩,
   ⟨paired { activePair with hitchOut := true, peerReachable := false, peerMayClaim := true }, by decide +kernel⟩,
   ⟨paired { starting := true }, by decide +kernel⟩,
   ⟨{ ready with fns := [(0, { fn0 with held := some { code := 0x0906, tag := 0, payload := [], why := .shadow 1 0 } })] }, 1, 0,
    by decide +kernel⟩,
   ⟨paired { identity := some i }, i, by decide +kernel⟩, ⟨paired { keyex := some k }, k, by decide +kernel⟩, ready,
   by decide +kernel⟩

theorem meets_HitchActs :
    let at_ := fun s => powered s = true
    (∃ s, at_ s ∧ s.pair.hitchIn = true ∧ s.pair.claim = .none ∧ s.pair.role = .standby) ∧
    (∃ s f, at_ s ∧ s.pair.claim = .quiet f ∧ claimStands s = true ∧ s.pair.hitchIn = false) ∧
    (∃ s f, at_ s ∧ s.pair.claim = .quiet f ∧ claimStands s = false) ∧ (∃ s f, at_ s ∧ s.pair.claim = .window f ∧ claimStands s = false) ∧
    (∃ s f, at_ s ∧ s.pair.claim = .window f ∧ claimStands s = true ∧ s.pair.hitchIn = false ∧ (takeOver (advanceTo s (f + 20))).pair.keyex = none) ∧
    (∃ s u, at_ s ∧ s.pair.claim = .backoff u ∧ s.pair.hitchIn = false) ∧
    (∃ s, at_ s ∧ s.pair.role = .active ∧ s.pair.hitchOut = true ∧ s.pair.hitchIn = true ∧ s.pair.claim = .none) :=
  ⟨⟨paired { role := .standby, hitchIn := true }, by decide +kernel⟩, ⟨paired { role := .standby, paired := true, claim := .quiet 0 }, 0, by decide +kernel⟩,
   ⟨paired { role := .isolated, claim := .quiet 0 }, 0, by decide +kernel⟩,
   ⟨paired { role := .isolated, claim := .window 0 }, 0, by decide +kernel⟩,
   ⟨paired { role := .standby, paired := true, claim := .window 0 }, 0, by decide +kernel⟩,
   ⟨paired { role := .standby, seat := 1, claim := .backoff 300 }, 300, by decide +kernel⟩,
   paired { activePair with hitchOut := true, hitchIn := true }, by decide +kernel⟩

theorem meets_UpdateEventsAct :
    let at_ := fun s => powered s = true
    (∃ s f op since, at_ s ∧ s.update.activation = .draining f op since ∧ drained s f op = true) ∧
    (∃ s f op since, at_ s ∧ s.update.activation = .draining f op since ∧ drained s f op = false) ∧
    (∃ s f op since, at_ s ∧ stewardServes s = true ∧ s.update.activation = .pause f op since ∧ s.update.attempt ≠ 0 ∧
      millHolds s = false) ∧
    (∃ s, at_ s ∧ trialHolds s = true ∧ max s.now (s.update.attemptStart + 30000000) < s.update.deadline) ∧
    (∃ s, at_ s ∧ s.update.phase = .trial ∧ s.update.deadline ≠ 0) :=
  let u : Update := { phase := .staged, activation := .draining 0 1 0 }
  let t : Update := { phase := .trial, attempt := 1, deadline := 90000000, testsPassed := List.range 21, mbxReady := true
                      captureReady := true }
  ⟨⟨{ ready with update := u }, 0, 1, 0, by decide +kernel⟩,
   ⟨{ ready with update := u, fns := [(0, { fn0 with state := .busy })] }, 0, 1, 0, by decide +kernel⟩,
   ⟨{ ready with update := { phase := .trial, attempt := 1, activation := .pause 0 1 0 } }, 0, 1, 0, by decide +kernel⟩,
   ⟨{ ready with update := t }, by decide +kernel⟩, { ready with update := t }, by decide +kernel⟩

theorem meets_CardEventsAct :
    (∃ n s, n < 4 ∧ slotsPowered s = true ∧ s.scarecrow.zerofill = 0 ∧ (cardSlotOf s n).status = .empty) ∧
    (∃ n s k, n < 4 ∧ slotsPowered s = true ∧ s.scarecrow.zerofill = 0 ∧ (cardSlotOf s n).status = .activating ∧
      (cardSlotOf s n).card = some k) ∧
    (∃ s, slotsPowered s = false) ∧ (∃ s : State, s.scarecrow.zerofill ≠ 0) ∧ (∃ n s c, n < 4 ∧ (cardSlotOf s n).card = some c) :=
  let c := tally 1 pin6
  ⟨⟨3, ready, by decide +kernel⟩, ⟨3, { ready with cards := [(3, { status := .activating, card := some c })] }, c, by decide +kernel⟩,
   ⟨{ ready with power := { vauxOk := false } }, by decide +kernel⟩, ⟨{ ready with scarecrow := { zerofill := 5 } }, by decide +kernel⟩,
   3, withCard c ready, c, by decide +kernel⟩

/-- An instance stopped at a transition. -/
def stopped : Parked :=
  { ev := { kind := 1 }, trans := 0, loops := [], steps := 0, before := { state := 0, cells := [], timers := [] }
    table := { initial := 0, bound := 1, msgFirst := 0, msgLast := 0, states := [], trans := [], acts := [], consts := [] }
    formats := [], rules := [] }

/-- Strand 5's instance of its first binding is stopped there, and this debug level is open. -/
def debugging (level : Nat) : State :=
  let x : Instance := { sheaf := 63, table := 0, state := 0, cells := [], parked := some stopped }
  { ready with life := { debug := level, debugExpires := 1 }, bindings := [(5, [{ sheaf := 63, table := 0, client := 0, ring := 0 }])]
               instances := [(instKey 5 63 0, x)], lanyard := { halted := [0, 8] } }

/-- A request with its CRC. -/
def sentAs (op : Nat) (r : LnyReq) : LnyReq := { r with crc := requestCrc op r }

theorem sentAs_crc (op : Nat) (r : LnyReq) : (sentAs op r).crc = requestCrc op (sentAs op r) := by
  simp [sentAs, requestCrc]

theorem meets_LanyardRequestsAct :
    let ok := fun s op (r : LnyReq) => powered s = true ∧ goesThrough r ∧ r.crc = requestCrc op r
    (∃ s r, ok s 0x0 r ∧ r.target = 0xF ∧ r.addr = 0 ∧ r.count = 3) ∧
    (∃ s r, ok s 0x1 r ∧ r.target = 0xF ∧ r.addr = 0 ∧ r.count = 0) ∧
    (∃ s r, ok s 0x2 r ∧ r.target = 0xF ∧ r.addr < 4096 ∧ r.count = 7 ∧ 1 ≤ s.life.debug) ∧
    (∃ s r, ok s 0x3 r ∧ r.target = 0xF ∧ 1 ≤ s.life.debug) ∧
    (∃ s r e x k, ok s 0x9 r ∧ r.target = 0xA ∧ 2 ≤ s.life.debug ∧ lnySpace r.addr ≤ 4 ∧
      parkedOn s (bits r.addr 11 0) = some (k, x) ∧ x.parked = some e) ∧
    (∃ s r, ok s 0x9 r ∧ r.target = 0xF ∧ s.life.debug = 3) ∧
    (∃ s r, ok s 0x4 r ∧ r.target = 0xA ∧ 2 ≤ s.life.debug ∧ r.addr ∉ s.lanyard.sheafBps ∧ s.lanyard.sheafBps.length < 16) ∧
    (∃ s r, ok s 0x5 r ∧ r.target = 0xA ∧ 2 ≤ s.life.debug) :=
  let x : Instance := { sheaf := 63, table := 0, state := 0, cells := [], parked := some stopped }
  ⟨⟨ready, sentAs 0 { target := 0xF, count := 3 }, by decide +kernel⟩, ⟨ready, sentAs 1 { target := 0xF }, by decide +kernel⟩,
   ⟨debugging 1, sentAs 2 { target := 0xF, addr := 4095, count := 7 }, by decide +kernel⟩,
   ⟨debugging 1, sentAs 3 { target := 0xF }, by decide +kernel⟩,
   ⟨debugging 2, sentAs 9 { target := 0xA, addr := 5 }, stopped, x, instKey 5 63 0, by decide +kernel⟩,
   ⟨debugging 3, sentAs 9 { target := 0xF }, by decide +kernel⟩, ⟨debugging 2, sentAs 4 { target := 0xA, addr := 5 }, by decide +kernel⟩,
   debugging 2, sentAs 5 { target := 0xA, addr := 5 }, by decide +kernel⟩

theorem meets_LanyardRequestsAct_held :
    let ok := fun s op (r : LnyReq) => powered s = true ∧ goesThrough r ∧ r.crc = requestCrc op r
    (∃ s r, ok s 0x6 r ∧ r.target ≤ 8 ∧ s.life.debug = 3 ∧ s.power.state ≠ .drowse) ∧
    (∃ s, powered s = true ∧ s.life.debug = 3 ∧ ∀ op ∈ [0x7, 0x8, 0xA], ∃ r, ok s op r ∧ r.target ≤ 8 ∧ r.target ∈ s.lanyard.halted) ∧
    (∃ s k x, 2 ≤ s.life.debug ∧ ∀ op ∈ [0x7, 0x8], ∃ r, ok s op r ∧ r.target = 0xA ∧ parkedOn s r.addr = some (k, x)) := by
  refine ⟨⟨debugging 3, sentAs 6 { target := 8 }, by decide +kernel⟩, ⟨debugging 3, by decide +kernel, by decide +kernel, ?_⟩,
    debugging 2, instKey 5 63 0, { sheaf := 63, table := 0, state := 0, cells := [], parked := some stopped },
    by decide +kernel, ?_⟩
  · simp only [List.forall_mem_cons, List.not_mem_nil, false_imp_iff, implies_true, and_true]
    exact ⟨⟨sentAs 7 { target := 8 }, by decide +kernel⟩, ⟨sentAs 8 { target := 8 }, by decide +kernel⟩,
      sentAs 0xA { target := 8, wdata := [1] }, by decide +kernel⟩
  · simp only [List.forall_mem_cons, List.not_mem_nil, false_imp_iff, implies_true, and_true]
    exact ⟨⟨sentAs 7 { target := 0xA, addr := 5 }, by decide +kernel⟩, sentAs 8 { target := 0xA, addr := 5 }, by decide +kernel⟩

/-- By hand from R383: a 1 bit leaves the polynomial 0x07, five 0 bits shift it to 0xE0, and the next drops the top bit and adds the
polynomial. -/
theorem test_crc8 : crc8 [true] = 0x07 ∧ crc8 (sentBits 6 1) = 0xE0 ∧ crc8 (sentBits 7 1) = 0xC7 := by decide

theorem meets_DebugLinkGuards :
    (∃ (s : State) (r : LnyReq), powered s = true ∧ r.crc ≠ requestCrc 0x0 r ∧ r.crc ≠ requestCrc 0xA r) ∧
    (∃ s : State, powered s = true ∧ s.life.debug = 0 ∧ ∀ op, ∃ r, r.crc = requestCrc op r) ∧
    (∃ (s : State) (r : LnyReq), powered s = true ∧ r.crc = requestCrc 0x1 r ∧ r.reservedOp.isSome = true) ∧
    (∀ w ∈ [true, false], ∃ (s : State) (r : LnyReq), powered s = true ∧ r.crc = requestCrc 0x1 r ∧ r.reservedOp = none ∧ r.target = 0xF ∧
      r.addr = 0 ∧ r.count = 0 ∧ r.busy = w ∧ r.parity = true) ∧
    (∃ (s : State) (r : LnyReq), powered s = true ∧ s.life.debug = 3 ∧ r.crc = requestCrc 0x9 r ∧ r.target ≠ 0xA) ∧
    (∃ s : State, s.life.debug ≠ 0 ∧ s.life.debugExpires ≠ 0) ∧ (∃ s : State, s.life.lifecycle = lcBlank ∨ s.life.lifecycle = lcTest) ∧
    (∃ s : State, s.life.lifecycle ≠ lcBlank ∧ s.life.lifecycle ≠ lcTest ∧ powered s = true ∧ s.scarecrow.lastTck = none) :=
  ⟨⟨ready, { target := 0, crc := 1 }, by decide +kernel⟩,
   ⟨ready, by decide +kernel, by decide +kernel, fun op => ⟨_, sentAs_crc op { target := 0 }⟩⟩,
   ⟨ready, sentAs 1 { target := 0xF, reservedOp := some 0xB }, by decide +kernel⟩,
   fun w h => ⟨ready, sentAs 1 { target := 0xF, busy := w, parity := true }, by fin_cases h <;> decide +kernel⟩,
   ⟨debugging 3, sentAs 9 { target := 8 }, by decide +kernel⟩,
   ⟨debugging 3, by decide +kernel⟩, ⟨{ ready with life := { lifecycle := lcTest } }, by decide +kernel⟩, ready, by decide +kernel⟩

theorem meets_ResetEventsAct :
    (∃ f s, fnReached s f = true ∧ f ≠ 0) ∧ (∃ s, fnReached s 0 = true) ∧
    (∃ s : State, powered s = true ∧ s.power.state ≠ .off ∧ s.power.resetPending = true) ∧ (∃ s, atStart s = true) :=
  ⟨⟨63, { ready with vfEnable := true, numVfs := 63 }, by decide +kernel⟩, ⟨ready, by decide +kernel⟩,
   ⟨{ ready with power := { resetPending := true } }, by decide +kernel⟩, State.reset, by decide +kernel⟩

/-- The device with this power state. -/
def powerS (p : Power) : State := { ready with power := p }

theorem meets_RailAndFeedEventsAct :
    (∃ s : State, s.power.state = .off ∧ s.life.lifecycle = lcProduction ∧ s.almanac.newEpoch = false) ∧
    (∃ s : State, s.power.state = .off ∧ s.life.lifecycle = lcBlank) ∧ (∃ (s : State) (r : Rail), s.power.railStarting = some r ∧ s.power.railFaults < 2) ∧
    (∃ (s : State) (r : Rail), s.power.railStarting = some r ∧ 2 ≤ s.power.railFaults) ∧
    (∃ s, s.power.retryAt ≠ 0 ∧ s.power.railHold = false ∧ powered s = false ∧ anyFeed s = true ∧ s.power.vauxOk = true) ∧
    (∃ r k p s, powered s = true ∧ shed s.power r k = some p ∧ tooFewPhases p = true) ∧
    (∃ s, s.power.feedAOk = true ∧ s.power.feedBOk = true ∧ powered s = true ∧ s.power.state ≠ .off) ∧
    (∃ s, s.power.feedAOk = false ∧ powered s = true ∧ s.power.state ≠ .off) ∧
    (∃ s, s.power.feedBOk = false ∧ powered s = false ∧ s.power.state ≠ .off ∧ anyFeed s = false ∧ s.power.vauxOk = true) :=
  let v : Power := { state := .vigil, railsGood := [] }
  ⟨⟨powerS { state := .off }, by decide +kernel⟩, ⟨{ powerS { state := .off } with life := { lifecycle := lcBlank } }, by decide +kernel⟩,
   ⟨powerS { v with railStarting := some .vio, railFaults := 1 }, .vio, by decide +kernel⟩,
   ⟨powerS { v with railStarting := some .vser, railFaults := 2 }, .vser, by decide +kernel⟩,
   ⟨powerS { v with retryAt := 1000000 }, by decide +kernel⟩,
   ⟨.vser, 3, { phasesSer := 3 }, powerS { phasesSer := 0xB }, by decide +kernel⟩, ⟨ready, by decide +kernel⟩,
   ⟨powerS { feedAOk := false }, by decide +kernel⟩, powerS { v with feedAOk := false, feedBOk := false }, by decide +kernel⟩

theorem meets_ClockSupplyAndSmbusAct :
    (∃ (s : State) (k : Nat), k ≠ 0 ∧ k < 4 ∧ bit s.power.ethRef k = true) ∧
    (∃ (s : State) (k : Nat), k ≠ 0 ∧ k < 4 ∧ bit s.power.ethRef k = false) ∧
    (∃ s : State, bit s.power.ethRef 0 = false ∧ s.power.holdover = true) ∧
    (∃ s : State, s.power.vauxOk = true ∧ s.power.state ≠ .off) ∧
    (∃ s : State, s.power.vauxOk = false ∧ s.power.state ≠ .off ∧ powered s = true ∧ s.scarecrow.zerofill = 0) ∧
    (∃ s : State, powered s = true ∧ .vio ∈ s.power.railsGood) ∧ (∃ s : State, .vio ∉ s.power.railsGood) ∧
    (∃ widths rates w r, powered ready = true ∧ highestCommon widths = some w ∧ highestCommon rates = some r) :=
  ⟨⟨ready, 3, by decide +kernel⟩, ⟨powerS { ethRef := 7 }, 3, by decide +kernel⟩,
   ⟨powerS { ethRef := 0xE, holdover := true }, by decide +kernel⟩, ⟨ready, by decide +kernel⟩,
   ⟨powerS { vauxOk := false }, by decide +kernel⟩, ⟨ready, by decide +kernel⟩, ⟨powerS { railsGood := [] }, by decide +kernel⟩,
   0x1F, 0x1F, 4, 4, by decide +kernel⟩

theorem meets_AlarmEventsAct :
    (∃ (s : State) (m v : Nat), m < 32 ∧ m ≠ 0x0F ∧ powered s = true ∧ (m = 0x1F → v ≠ 2 ∨ s.scarecrow.compat = 0)) ∧
    (∃ s : State, powered s = true ∧ s.scarecrow.compat ≠ 0) ∧
    (∃ s m, m < 32 ∧ (monitorOf s m).active = true) ∧ (∃ s, s.scarecrow.throttled = true ∧ causesLevel s < 2) ∧
    (∃ s m first rest, (monitorOf s m).recent = first :: rest) ∧ (∃ s : State, s.scarecrow.reload ≠ 0 ∧ powered s = true) ∧
    (∃ s : State, s.scarecrow.zerofill ≠ 0 ∧ s.scarecrow.zerofillEnd ≠ 0 ∧ s.scarecrow.reload = 0 ∧ powered s = true) ∧
    (∃ s, s.scarecrow.wdogArmed = true ∧ stewardWorks s = true ∧ powered s = true ∧ 0 ∉ s.lanyard.halted) :=
  let sc : Scarecrow → State := fun x => { ready with scarecrow := x }
  ⟨⟨ready, 31, 3, by decide +kernel⟩, ⟨sc { compat := 1 }, by decide +kernel⟩, ⟨sc { monitors := [(31, { active := true })] }, 31, by decide +kernel⟩,
   ⟨sc { throttled := true }, by decide +kernel⟩, ⟨sc { monitors := [(0, { recent := [0] })] }, 0, 0, [], by decide +kernel⟩,
   ⟨sc { reload := 5 }, by decide +kernel⟩, ⟨sc { zerofill := 4, zerofillEnd := 1 }, by decide +kernel⟩, sc { wdogArmed := true }, by decide +kernel⟩

theorem meets_VigilEventsAct :
    (∀ m ∈ [0x14, 0x0A, 0x1F], ∃ s : State, m < 32 ∧ s.power.state = .vigil ∧ monitorVigil m = true ∧ s.scarecrow.compat ≠ 0) ∧
    (∃ x d s, s.power.state = .vigil ∧ nextEvaluated s.scarecrow.decisions = some d ∧ levelsCapped s = false ∧
      min d.cap (max d.level (min 5 x)) = 5) :=
  let v : Scarecrow → State := fun c => { powerS { state := .vigil, railsGood := [] } with scarecrow := c }
  let d : Decision := { monitor := 6, value := 0, level := 3, detect := 0, configured := 3 }
  ⟨fun m h => ⟨v { compat := 1 }, by fin_cases h <;> decide +kernel⟩, 6, d, v { decisions := [d] }, by decide +kernel⟩

theorem meets_FaultEventsAct :
    (∃ s u w, powered s = true ∧ s.withdrawals.find? (fun v => v.unit == u) = some w ∧ w.out = true ∧ w.retired = false ∧
      testable s u = true) ∧
    (∃ s p, powered s = true ∧ isFenced s p = true) :=
  let w : Withdrawal := { unit := .stone 63 }
  ⟨⟨{ ready with withdrawals := [w], stones := [(63, { state := .withdrawn })] }, .stone 63, w, by decide +kernel⟩,
   { ready with floors := [(5, { fenced := true })] }, .floor 5, by decide +kernel⟩

theorem meets_OperationEventsAct :
    (∃ (s : State) (i : Nat) (w : SlotWrite), s.writes.find? (fun w => w.index == i) = some w) ∧
    (∃ s f n o, opOf s f n = some o ∧ stewardWorks s = true ∧ pastDrain s o = false) ∧
    (∃ s f i x, sessionAt s f i = some x ∧ powered s = true ∧ x.auth = false) ∧
    (∃ s f i x, sessionAt s f i = some x ∧ powered s = true ∧ x.auth = true ∧ sessionBusy s f (sessionId f x) = false) ∧
    (∃ s : State, s.power.state = .active ∧ s.life.lifecycle = lcProduction ∧ s.almanac.lowRate = false) ∧ (∃ s : State, s.life.lifecycle ≠ lcProduction) :=
  let w : SlotWrite := { index := 7, content := none, newGen := false, fn := 0, code := 0x0105, tag := 0, payload := [], reply := []
                         purgeClass := 0 }
  let o : DefOp := { no := 1, code := 0x0101, tag := 0, started := 0, payload := [] }
  let x : Session := { sess with auth := false }
  ⟨⟨{ ready with writes := [w] }, 7, w, by decide +kernel⟩, ⟨{ ready with fns := [(0, { fn0 with ops := [o] })] }, 0, 1, o, by decide +kernel⟩,
   ⟨{ ready with fns := [(0, { fn0 with sessions := [x] })] }, 0, 0, x, by decide +kernel⟩, ⟨ready, 0, 0, sess, by decide +kernel⟩,
   ⟨ready, by decide +kernel⟩, { ready with life := { lifecycle := lcBlank } }, by decide +kernel⟩

theorem meets_StepRunsFrontCommand :
    (∃ s c rest, s.pending = c :: rest ∧ step s = exec c { s with pending := rest }) ∧
    (∃ s f, s.pending = [] ∧ waitingGo s = some f ∧ stewardWorks s = true) ∧
    let idle := fun s => s.pending = [] ∧ (waitingGo s = none ∨ stewardWorks s = false)
    (∃ s, idle s ∧ s.power.state ≠ .drowse ∧ s.power.state ≠ .vigil) ∧ (∃ s, idle s ∧ s.power.state = .drowse) ∧
    (∃ s, idle s ∧ s.power.state = .vigil) :=
  ⟨⟨{ ready with pending := [.powerStatus (ask []), .thaw (ask [])] }, _, _, rfl, rfl⟩,
   ⟨{ ready with fns := [(0, { fn0 with state := .busy, held := some { code := 0x0C04, tag := 0, payload := [], why := .go (ask []) } })] }, 0, by decide +kernel⟩, ⟨ready, by decide +kernel⟩,
   ⟨powerS { state := .drowse }, by decide +kernel⟩, powerS { state := .vigil }, by decide +kernel⟩

theorem meets_NoticeFollowsStatus : ∃ s t, step s = .next t ∧ deviceStatus t ≠ deviceStatus s :=
  ⟨{ ready with pending := [.powerStateSet (ask (le 4 1))] }, _, rfl, by decide +kernel⟩

theorem meets_RejectedCommandsOnlyAnswer :
    (∃ i c q s st d, specOf i = some (c, q) ∧ stewardTakes s q.fn = true ∧ headerCheck c q s = some (st, d)) ∧
    (∃ i c q s, specOf i = some (c, q) ∧ stewardWorks s = true ∧ fnExists s q.fn = true ∧
      (fnOf s q.fn).state ≠ .idle) ∧
    (∃ i c q s, specOf i = some (c, q) ∧ powered s = false) :=
  ⟨⟨.thaw { ask [] with flags := 1 }, specThaw, _, ready, eFormat, 2, rfl, by decide +kernel⟩,
   ⟨.thaw (ask []), specThaw, _, { ready with fns := [(0, { fn0 with state := .busy })] }, rfl, by decide +kernel⟩,
   .thaw (ask []), specThaw, _, powerS { state := .vigil, railsGood := [] }, rfl, by decide +kernel⟩

theorem meets_MailboxChecksFollowOrder :
    let q := ask []
    (stewardTakes ready 0 = true ∧ sessionAuthed ready 0 1 = true ∧ sessionAuthed ready 0 2 = false) ∧
    (specOf (.thaw q) = some (specThaw, q) ∧ specThaw.pf = true ∧ specThaw.access ≠ .n) ∧
    (∃ s, stewardTakes s 0 = true ∧ sessionAuthed s 0 1 = true ∧ purged (served s) = true ∧ specThaw.inPurge = false) ∧
    (∃ s, stewardTakes s 0 = true ∧ sessionAuthed s 0 1 = true ∧ frozen (served s) = true ∧ specTwinSet.inFreeze q = false) ∧
    (∃ s st d, stewardTakes s 0 = true ∧ sessionAuthed s 0 1 = true ∧ modeCheck specTwinSet q (served s) = some (st, d)) ∧
    (modeCheck specThaw q (served ready) = none ∧ isGuarded (served ready) specThaw q = true ∧ (served ready).approvals = []) ∧
    (∃ s, stewardTakes s 5 = true) :=
  ⟨by decide +kernel, ⟨rfl, by decide +kernel⟩, ⟨{ ready with life := { purged := true } }, by decide +kernel⟩,
   ⟨{ ready with scarecrow := { latched := 3 } }, by decide +kernel⟩,
   ⟨paired { role := .standby }, _, _, by decide +kernel, by decide +kernel, rfl⟩, by decide +kernel,
   { ready with vfEnable := true, numVfs := 63, fns := [(5, fn0)] }, by decide +kernel⟩

theorem ready_quiet : quiet ready := quiet_of (by decide +kernel) (by decide +kernel) (by unfold binsSettled; decide +kernel)

theorem meets_ReadCommandsChangeOnlyTheirWindow : quiet ready ∧ stewardServes ready = true ∧
    (∃ c i, (c, i) ∈ readRows ∧ c.code = 0x0B02) ∧
    (∃ c i q, (c, i) ∈ readRows ∧ c.code = 0x0110 ∧ beyondAcked ready (fld q 0 4) (counterValue ready (fld q 0 4)) = false) :=
  ⟨ready_quiet, by decide +kernel, ⟨specPowerStatus, .powerStatus, by simp [readRows], rfl⟩,
   specCounterRead, .counterRead, ask (le 4 0), by simp [readRows], rfl, by decide +kernel⟩

theorem meets_ResponsesFrame :
    (∃ s t, quiet t ∧ (∀ e ∈ t.strands, archiveCount s (strandOf t e.1) = archiveCount t (strandOf t e.1)) ∧
      deviceStatus t = deviceStatus s) ∧
    (∃ s t, quiet t ∧ (∀ e ∈ t.strands, archiveCount s (strandOf t e.1) = archiveCount t (strandOf t e.1)) ∧
      deviceStatus t ≠ deviceStatus s) ∧
    isLogged specPowerStatus.code = false :=
  ⟨⟨ready, ready, ready_quiet, fun _ _ => rfl, rfl⟩,
   ⟨powerS { state := .drowse }, ready, ready_quiet, fun e (h : e ∈ []) => (List.not_mem_nil h).elim, by decide +kernel⟩, by decide⟩

theorem meets_LifecycleReadFromFuses : (∃ s, atStart s = true) ∧ (∃ a b c : Nat, ¬(a = b ∧ b = c)) ∧
    (∃ a : Nat, a ∉ [0x00, 0x0F, 0x3F, 0xFF]) :=
  ⟨⟨State.reset, by decide +kernel⟩, ⟨0x3F, 0x3F, 0xFF, by decide⟩, 0x7F, by decide⟩

theorem meets_LedgerEntriesChain :
    (∃ s : State, s.ledger.entries = []) ∧ (∃ (s : State) (p : LedgerEntry), s.ledger.entries.getLast? = some p) :=
  ⟨⟨ready, rfl⟩, _, _, (rfl : (ledger ready 0x0501 0 0 0 0 0 []).ledger.entries.getLast? = some _)⟩

theorem meets_ThawNeedsClearCauses :
    (∃ q s s₀, admitted specThaw q s = some s₀ ∧ wellFormed q 0 [] ∧ (s₀.scarecrow.latched = 3 ∨ s₀.scarecrow.latched = 4) ∧
      (s₀.scarecrow.compat = 1 ∨ Config.thawDisagrees s₀.rng = false) ∧
      ∀ m < 32, 3 ≤ (monitorOf s₀ m).level → (monitorOf s₀ m).active = false) ∧
    (∃ q s s₀ m, admitted specThaw q s = some s₀ ∧ wellFormed q 0 [] ∧ (s₀.scarecrow.latched = 3 ∨ s₀.scarecrow.latched = 4) ∧
      m < 32 ∧ 3 ≤ (monitorOf s₀ m).level ∧ (monitorOf s₀ m).active = true ∧
      ∀ k < m, 3 ≤ (monitorOf s₀ k).level → (monitorOf s₀ k).active = false) ∧
    (∃ q s, stewardTakes s q.fn = true ∧ headerCheck specThaw q s = none ∧ purged s = true) :=
  let a := { ready with scarecrow := { latched := 4, compat := 1 } }
  let b := { ready with scarecrow := { latched := 3, monitors := [(31, { level := 3, active := true })] } }
  ⟨⟨ask [], granted specThaw (ask []) a, spent a, admitted_granted rfl rfl rfl (by decide +kernel), by decide +kernel,
    by decide +kernel, .inl rfl, by decide +kernel⟩,
   ⟨ask [], granted specThaw (ask []) b, spent b, 31, admitted_granted rfl rfl rfl (by decide +kernel), by decide +kernel⟩,
   ask [], { ready with life := { purged := true } }, by decide +kernel⟩

/-! ### WellFormed -/

/-- A term that each operand check refuses. -/
theorem test_wellformed_refuses :
    [Instr.mbxRelease 64, .jobRingEnable 0 4 0, .jobRingEnable 0 0 (2 ^ 32), .nakRepeat 4096, .portLinkDown { slot := 128 },
     .getInfo { fn := 0, len := 1 }, .getInfo { fn := 0, flags := 65536 }, .aesCtr { fn := 0, ring := 0, desc := { srcCount := 1 } },
     .aesCtr { fn := 0, ring := 0, desc := { srcCount := 1 }, src := [{ addr := 2 ^ 64, len := 0 }] },
     .aesCtr { fn := 0, ring := 0, desc := { eventRing := 256 } }, .lanyardRead { target := 16 },
     .lanyardWrite { target := 0, crc := 256 }, .lanyardRead { target := 0, count := 16 },
     .lanyardRead { target := 0, reservedOp := some 0xA }, .cardActivation 0 { atrC := zeros 34 },
     .rxFrame 0 { dst := [], src := zeros 6 }, .cardActivation 4 {}, .cardActivation 0 { state := 3 },
     .withdrawalTestDone (.aes 6 0) true, .keyBusStall (.group 8), .phaseFault .vser 4, .scrubPass [.ledgerDamaged 0],
     .hawserHello .a { serial := 0, seat := 2, kid := zeros 8, nonce := [] },
     .hawserHeartbeat .a {} { serial := 0, tick := 0, role := 5, seat := 0, hitch := 0, alarm := 0, update := 0, copy := 0,
                                paths := 0, epoch := 0, acked := 0, fieldOut := 0, fieldSeq := 0, partsId := zeros 8 },
     .jobRingProduce 0 0 65536, .flailOutRead 16, .portCounterLatchRead 0 64, .registerWrite 0 .bar0 0 4 (2 ^ 32),
     .sessionAuthTimeout 0 256, .vfEnableChange true 64, .ethrefLoss 4, .monitorEvent 32 0, .decisionSecondEvaluation 6,
     .keySlotCommit 67584, .floorWakeDone 6, .winnowSliceEnd 1 65537, .stoneWipeDone 64, .tagVerifyDone 0 (2 ^ 64) true,
     .sheafTimerExpiry 0 16 0, .hawserShadow .a {} 65536 0, .pcieLinkUp 32 1, .pcieLinkUp 1 0, .mbxGoCodeNotAllocated 65536 { fn := 0 }].all
      (fun i => !i.wellFormed) = true := by decide +kernel

/-- Terms that they accept. -/
theorem test_wellformed_accepts :
    [Instr.mbxRelease 63, .getInfo { fn := 63 }, .aesCtr { fn := 0, ring := 3 }, .portLinkDown { slot := 127, hiBer := true },
     .phaseFault .vcore 15, .keyBusStall (.group 7), .rxFrame 127 { dst := zeros 6, src := zeros 6 }].all Instr.wellFormed = true := by decide +kernel

/-! ### Small runs -/

/-- A field of the state that a command leads to. -/
def after {α : Type} (o : Host.Outcome State Fault Refusal) (f : State → α) : Option α :=
  match o with
  | .next s => some (f s)
  | _ => none

/-- No row of the table has bits. -/
theorem test_no_word_spells_a_command (n w : Nat) : decodeTableWord n w = none := rfl

/-- An idle step lets a microsecond pass (notes/assumptions/1.md). -/
theorem test_idle_tick : after (step ready) (·.now) = some 1 := by decide +kernel

/-- Table 2-7: CODE, STATUS, TAG, PAYLOAD_LEN and DETAIL of a response; here E_FORMAT (0x0003) at header offset 2 (R38 step 1). -/
theorem test_response_header :
    after (exec (.thaw { ask [] with flags := 1, tag := 0x01020304 }) ready) (fun s => (fnOf s 0).rspBuf.take 16) =
      some (le 2 0x0C04 ++ le 2 eFormat ++ le 4 0x01020304 ++ le 4 0 ++ le 4 2) := by decide +kernel

/-- R300: COUNTER_ADVANCE adds STEP. -/
theorem test_counter_advance :
    after (exec (.counterAdvance (ask (le 4 5 ++ le 4 3))) { ready with counters := [(5, { value := 4, allocated := true })] })
      (fun s => ((counterOf s 5).value, (fnOf s 0).rspBuf.drop 32)) = some (7, le 8 7) := by decide +kernel

/-- R300: a STEP of 0 changes nothing. -/
theorem test_counter_step_zero :
    after (exec (.counterAdvance (ask (le 4 5 ++ le 4 0))) { ready with counters := [(5, { value := 4, allocated := true })] })
      (fun s => (counterOf s 5).value) = some 4 := by decide +kernel

/-- R179: a second requester is ignored while the lock is held. -/
theorem test_hatch_lock_is_exclusive :
    after (exec (.hatchLockAcquire 2) { ready with hatch := { held := true, tag := 1 } }) (·.hatch.tag) = some 1 := by
  decide +kernel

/-- R39: GO on a mailbox that is not IDLE sets REJECTED_GO. -/
theorem test_go_rejected :
    after (exec (.mbxGoRejected 0) State.reset) (fun s => (fnOf s 0).rejectedGo) = some true := by decide +kernel

/-- R456: the last rail brings the device to t0. -/
theorem test_last_rail :
    after (exec (.railGood .vser) (powerS { state := .vigil, railsGood := [.vio, .vddh, .vcore], railStarting := some .vser }))
      (·.power.state) = some .active := by decide +kernel

/-- R501 to R505: the worked example of the electrical chapter, Q17_RXP2 at BL52 and its partner at BM52. -/
theorem test_ball_map : rowName 49 = ['B', 'L'] ∧ ballAt 49 52 = .rxp 17 2 ∧ rowName 50 = ['B', 'M'] ∧
    ballAt 50 52 = .rxn 17 2 := by decide +kernel

/-- R368: three different rows read as End of life. -/
theorem test_fuse_rows : lifecycleOf [0x3F, 0x3F, 0xFF] = 3 := by decide

/-- The PEC of R469: the CRC-8 of the SMBus specification gives 0xF4 for the digits 1 to 9. -/
theorem test_pecOf : pecOf [0x31, 0x32, 0x33, 0x34, 0x35, 0x36, 0x37, 0x38, 0x39] = 0xF4 := by decide +kernel

end Sys2Proof.Tests
end

section
/-! The engines' completions and events (O23, O24) and the state after reset (O56). Each row gets one equation under its guard, each
operation that a row leads to an equation per case; the obligations put them together. -/

namespace Sys2Proof.Machine

/-! ### How an engine's end of a job acts -/

/-- The engine that serves the job, or the host interface for a Mill result, can report its end. -/
def engineReady (s : State) (b : Job) : Bool :=
  match b.engine with
  | .mill => b.stage == .finished && b.own.isNone
  | .hand => b.stage == .running && !b.hand.any (handHalted s)
  | _ => b.stage == .running && b.onCore

section
variable {s : State} {b : Job}

theorem engineReady_of_onCore (he : b.engine = .thresher ∨ b.engine = .flail) (hr : b.stage = .running) (hc : b.onCore = true) :
    engineReady s b = true := by
  rcases he with he | he <;> simp [engineReady, he, hr, hc]

theorem engineReady_of_millFinished (he : b.engine = .mill) (hf : b.stage = .finished) (ho : b.own = none) :
    engineReady s b = true := by
  simp [engineReady, he, hf, ho]

theorem engineReady_of_handRunning (he : b.engine = .hand) (hr : b.stage = .running) (hh : b.hand.any (handHalted s) = false) :
    engineReady s b = true := by
  simp [engineReady, he, hr, hh]

theorem spoil_of_hostJob (ho : b.own = none) (st d : Nat) : spoil s b st d = failJob s b st d := by
  simp [spoil, ho]

theorem engineEnds_keyParity : engineEnds s b .keyParity = keyFails s b := rfl

/-- What a job that its engine can end becomes, for every outcome but the failed read of its key. -/
theorem engineEnds_of_ready (h : engineReady s b = true) :
    engineEnds s b .good = endsWell s b ∧ engineEnds s b .twin = twinFault s b ∧
    engineEnds s b .parity = spoil (reportParity s) b eParity 0 ∧ engineEnds s b .fault = engineFault s b ∧
    ∀ off, engineEnds s b (.dma off) = if b.own.isSome then s else failJob s b eDma off := by
  cases he : b.engine <;> simp only [engineReady, he] at h <;> simp [engineEnds, he, h]

theorem engineEnds_parity_of_hostJob (h : engineReady s b = true) (ho : b.own = none) :
    engineEnds s b .parity = failJob (reportParity s) b eParity 0 := by
  obtain ⟨-, -, hparity, -⟩ := engineEnds_of_ready h
  rw [hparity, spoil_of_hostJob ho]

theorem engineEnds_dma_of_hostJob (h : engineReady s b = true) (ho : b.own = none) (off : Nat) :
    engineEnds s b (.dma off) = failJob s b eDma off := by
  obtain ⟨-, -, -, -, hdma⟩ := engineEnds_of_ready h
  simp [hdma, ho]

/-! ### What a job that ends well gives -/

/-- A core's result over the message with the job's bytes. -/
theorem computed_of_core (he : b.engine = .thresher ∨ b.engine = .flail) :
    computed s b = if b.engine = .flail then flResult b.opcode b.req.desc (extended s b)
      else thResult b.opcode b.req.desc b.key b.iv (extended s b) (messageOf s b).data.length
        (if verifiesTag b.opcode && dFinal b.req.desc then (srcData b.req).drop (b.req.desc.totalLen - tagLen (messageOf s b).param)
         else []) := by
  rcases he with he | he <;> simp [computed, he]

/-- A host job of a core ends with what it computed, and its context keeps the message where that is OK. -/
theorem endsWell_of_core (he : b.engine = .thresher ∨ b.engine = .flail) (ho : b.own = none) :
    endsWell s b = endJob (if (computed s b).1 = sOk then keepMessage s b else s) b (computed s b).1 0 false
      (computed s b).2.1 (computed s b).2.2 := by
  rcases he with he | he <;> simp [endsWell, completeJob, ho, he]

theorem endsWell_of_mill (he : b.engine = .mill) (ho : b.own = none) :
    endsWell s b = endJob s b b.status b.detail false b.out b.inline := by
  simp [endsWell, ho, he]

theorem endsWell_of_hand (he : b.engine = .hand) (ho : b.own = none) (ha : askedDone s b = true) :
    endsWell s b = offlineDone s b := by
  simp [endsWell, ho, he, ha]

/-! ### What a faulty unit does to its job -/

theorem engineFault_of_flail {c : Nat} (he : b.engine = .flail) (ho : b.own = none) (hc : b.core = some c) :
    engineFault s b = failJob (withdraw (report s 0x19 (c % 16)) (.flail c) 0x19) b eFault 0 := by
  simp [engineFault, flailMismatch, he, hc, spoil_of_hostJob ho]

theorem engineFault_of_hand {h : Nat} (he : b.engine = .hand) (hh : b.hand = some h) :
    engineFault s b = withdraw (report (faultHand s h) 0x15 h) (.hand h) 0x15 := by
  simp [engineFault, handMismatch, he, hh]

theorem twinFault_of_twinned (he : b.engine = .thresher) (ht : b.twinned = true) :
    twinFault s b = failJob (twinMismatch s b.floor b.cores (!b.custody) b.req.desc.tag) b eTwin b.floor := by
  simp [twinFault, he, ht]

theorem keyFails_of_running (hr : b.stage = .running) (hk : usesSlot b = true) :
    keyFails s b = cutJob (damageSlot s (hIndex b.req.desc.key)) b eParity 0 := by
  simp [keyFails, hr, hk]

end

theorem exec_jobComplete {n : Nat} {o : JobOutcome} {s : State} {b : Job} (hj : jobOf s n = some b) (hp : powered s = true) :
    exec (.jobComplete n o) s = .next (finish s (startJobs (engineEnds s b o))) := by
  change execJobComplete n o s = _
  simp [execJobComplete, done, hj, hp]

/-- Settles O23: JOB_COMPLETE leads to `engineEnds`, whose guard each engine's hypotheses meet. -/
theorem jobCompletionsEndJobs : Obligations.JobCompletionsEndJobs := by
  intro n s b hj hp ho
  simp only [exec_jobComplete hj hp]
  refine ⟨fun he hr hc => ?core, fun he hf => ?mill, fun he hr hh => ?hand, fun hr hk => ?key, fun he ht hr hc => ?twin,
    fun c he hr hc hcore => ?flail⟩
  case core =>
    have hready : engineReady s b = true := engineReady_of_onCore he hr hc
    obtain ⟨hgood, -⟩ := engineEnds_of_ready hready
    refine ⟨?_, by rw [engineEnds_parity_of_hostJob hready ho], fun off => by rw [engineEnds_dma_of_hostJob hready ho]⟩
    rw [hgood, endsWell_of_core he ho, computed_of_core he]
    rfl
  case mill =>
    have hready : engineReady s b = true := engineReady_of_millFinished he hf ho
    obtain ⟨hgood, -⟩ := engineEnds_of_ready hready
    exact ⟨by rw [hgood, endsWell_of_mill he ho], fun off => by rw [engineEnds_dma_of_hostJob hready ho]⟩
  case hand =>
    have hready : engineReady s b = true := engineReady_of_handRunning he hr hh
    obtain ⟨hgood, -, -, hfault, -⟩ := engineEnds_of_ready hready
    exact ⟨fun ha => by rw [hgood, endsWell_of_hand he ho ha], by rw [engineEnds_parity_of_hostJob hready ho],
      fun off => by rw [engineEnds_dma_of_hostJob hready ho], fun h hhand => by rw [hfault, engineFault_of_hand he hhand]⟩
  case key => rw [engineEnds_keyParity, keyFails_of_running hr hk]
  case twin =>
    obtain ⟨-, htwin, -⟩ := engineEnds_of_ready (s := s) (engineReady_of_onCore (.inl he) hr hc)
    rw [htwin, twinFault_of_twinned he ht]
  case flail =>
    obtain ⟨-, -, -, hfault, -⟩ := engineEnds_of_ready (s := s) (engineReady_of_onCore (.inr he) hr hc)
    rw [hfault, engineFault_of_flail he ho hcore]

/-! ### Slices and age -/

theorem winnowed_iff {b : Job} : winnowed b = true ↔ b.engine = .thresher ∨ b.engine = .flail := by
  simp [winnowed]

/-- A slice on a core ends: its entry goes to the tail of its own priority's queue. -/
theorem exec_winnowSliceEnd {n bytes : Nat} {s : State} {b : Job} (hj : jobOf s n = some b) (hp : powered s = true)
    (hw : winnowed b = true) (hr : b.stage = .running) (hc : b.onCore = true) :
    exec (.winnowSliceEnd n bytes) s = .next (finish s (startJobs
      (toTail s { b with rest := b.rest - min bytes 65536, onCore := false, core := none, cores := [] } b.priority))) := by
  change execWinnowSliceEnd n bytes s = _
  simp [execWinnowSliceEnd, done, hj, hp, hw, hr, hc]

theorem promote_of_lower {s : State} {b : Job} (hq : b.queue < 3) :
    promote s b = startJobs (toTail (advanceTo s (b.since + 100)) b (b.queue + 1)) := by
  simp [promote, hq]

theorem exec_winnowAgePromotion {n : Nat} {s : State} {b : Job} (hj : jobOf s n = some b) (hp : powered s = true)
    (hw : winnowed b = true) (hh : heldByContext s b = false)
    (hq : b.stage = .queued ∨ (b.stage = .running ∧ b.onCore = false)) :
    exec (.winnowAgePromotion n) s = .next (finish s (promote s b)) := by
  change execWinnowAgePromotion n s = _
  simp [execWinnowAgePromotion, done, hj, hp, hw, hh, hq]

theorem exec_millAgePromotion {n : Nat} {s : State} {b : Job} (hj : jobOf s n = some b) (hp : powered s = true)
    (hq : millQueued b = true) : exec (.millAgePromotion n) s = .next (finish s (promote s b)) := by
  change execMillAgePromotion n s = _
  simp [execMillAgePromotion, done, hj, hp, hq]

/-! ### Stones -/

/-- A busy stone's report acts on the job that the stone works for. -/
theorem exec_millStoneDone {n : Nat} {f : StoneFault} {s : State} {b : Job} (hn : n < 64) (hp : powered s = true)
    (hb : (stoneOf s n).state = .busy) (hj : (stoneOf s n).job.bind (jobOf s) = some b) :
    exec (.millStoneDone n f) s = .next (finish s (startJobs (stoneDone s b n f))) := by
  change execMillStoneDone n f s = _
  simp [execMillStoneDone, done, hj, hp, hb, hn]

section
variable {s : State} {b : Job} {n : Nat}

theorem stoneDone_clean (hn : b.stone = some n) (hr : b.stage = .running) : stoneDone s b n .clean = stoneComputes s b := by
  simp [stoneDone, hn, hr]

theorem stoneDone_point (hop : b.opcode = 0x0405) (hr : b.stage = .running) :
    stoneDone s b n .point = stoneFails s b n 0x19 eFault := by
  simp [stoneDone, hop, hr]

theorem stoneDone_iterations (hop : b.opcode = 0x040A) (hr : b.stage = .running) (ho : b.own = none) :
    stoneDone s b n .iterations = failJob (freeStones s b) b eFault 0 := by
  simp [stoneDone, hop, hr, spoil_of_hostJob ho]

theorem stoneDone_noRandom (hop : usesRandom b.opcode = true) (hr : b.stage = .running) (ho : b.own = none) :
    stoneDone s b n .noRandom = failJob (report (draw (freeStones s b)) 0x1B (Config.free 0x001B s.rng)) b eFault 0 := by
  simp [stoneDone, hop, hr, spoil_of_hostJob ho]

theorem checkFails_of_hostJob (ho : b.own = none) : checkFails s b = failJob (checkLost s b) b eFault 0 := spoil_of_hostJob ho ..

theorem checkFails_of_ownWork (ho : b.own.isSome = true) : checkFails s b = workFails (checkLost s b) b eFault := by
  simp [checkFails, spoil, ho]

end

/-- A release check under way ends: the result goes on, or the check fails. -/
theorem exec_millReleaseCheckDone {n : Nat} {passed : Bool} {s : State} {b : Job} (hj : jobOf s n = some b) (hp : powered s = true)
    (he : b.engine = .mill) (hc : checkRuns s b = true) :
    exec (.millReleaseCheckDone n passed) s = .next (finish s (startJobs (
      if passed then setJob (freeStones (advanceTo s (b.since + usOf (checkTime s b))) b) { b with stage := .finished }
      else checkFails (advanceTo s (b.since + usOf (checkTime s b))) b))) := by
  change execMillReleaseCheckDone n passed s = _
  simp [execMillReleaseCheckDone, done, hj, hp, he, hc]

theorem exec_stoneWipeDone {n : Nat} {s : State} (hn : n < 64) (hp : powered s = true) (hw : (stoneOf s n).state = .wiping) :
    exec (.stoneWipeDone n) s = .next (finish s (startJobs
      (setStone s n { stoneOf s n with state := (stoneOf s n).afterWipe, afterWipe := .idle, since := s.now }))) := by
  change execStoneWipeDone n s = _
  simp [execStoneWipeDone, done, hn, hp, hw]

theorem exec_stoneIdleGate {n : Nat} {s : State} (hn : n < 64) (hp : powered s = true) (hi : (stoneOf s n).state = .idle)
    (hj : (stoneOf s n).job = none) (hl : lastAwake s n = false) :
    exec (.stoneIdleGate n) s = .next (finish s
      (setStone (advanceTo s ((stoneOf s n).since + 100)) n { stoneOf s n with state := .gated })) := by
  change execStoneIdleGate n s = _
  simp [execStoneIdleGate, done, hn, hp, hi, hj, hl]

theorem exec_stoneWakeDone {n : Nat} {s : State} (hn : n < 64) (hp : powered s = true) (hw : (stoneOf s n).state = .waking) :
    exec (.stoneWakeDone n) s = .next (finish s (startJobs (setStone s n { stoneOf s n with state := .idle, since := s.now }))) := by
  change execStoneWakeDone n s = _
  simp [execStoneWakeDone, done, hn, hp, hw]

/-- Settles O24, row by row. -/
theorem engineEventsAct : Obligations.EngineEventsAct := by
  refine ⟨?slice, ?age, ?stone, ?check, fun n s => exec_stoneWipeDone, fun n s => exec_stoneIdleGate, fun n s => exec_stoneWakeDone⟩
  case slice =>
    intro n bytes s b hj hp he hr hc
    exact exec_winnowSliceEnd hj hp (winnowed_iff.mpr he) hr hc
  case age =>
    intro n s b hj hp hq
    refine ⟨fun he hh hw => ?_, fun he hw => ?_⟩
    · rw [exec_winnowAgePromotion hj hp (winnowed_iff.mpr he) hh hw, promote_of_lower hq]
      rfl
    · rw [exec_millAgePromotion hj hp (by simp [millQueued, he, hw]), promote_of_lower hq]
      rfl
  case stone =>
    intro n s b hn hp hb hj
    simp only [exec_millStoneDone hn hp hb hj]
    refine ⟨fun hs hr => ?_, rfl, rfl, fun hop hr => ?_, fun hop hr ho => ?_, fun hop hr ho => ?_⟩
    · rw [stoneDone_clean hs hr]
    · rw [stoneDone_point hop hr]
    · rw [stoneDone_iterations hop hr ho]
    · rw [stoneDone_noRandom hop hr ho]
  case check =>
    intro n s b hj hp he hc
    simp only [exec_millReleaseCheckDone hj hp he hc]
    exact ⟨rfl, fun ho => by simp [checkFails_of_hostJob ho], fun ho => by simp [checkFails_of_ownWork ho]⟩

/-! ### The state after reset -/

/-- No function's window has been written at reset. -/
theorem fnOf_reset (f : Nat) : fnOf State.reset f = {} := rfl

/-- Settles O56. Every part but the mailboxes is the value of a field; each mailbox is one not written yet. -/
theorem resetState : Obligations.ResetState := by
  refine ⟨rfl, rfl, rfl, fun f => ?mailbox, ⟨rfl, rfl, rfl⟩, rfl, rfl, rfl, rfl, rfl⟩
  case mailbox => rw [fnOf_reset]

end Sys2Proof.Machine
end

section
/-! Refutations: an idle step that changes DEVICE_STATUS (O51), and PAIR_COMPLETE, which takes a kept KEYEX frame even where R38 turns
the command away (O52, O53). -/

namespace Sys2Proof.Machine

/-- Step 10 of the start is done, and the next idle step sees step 11 (R446). -/
def captureAboutToStart : State := { update := { step := 10, mbxReady := true } }

/-- Refutes O51: CAPTURE_READY comes with an idle step, and an idle step sets no NOTICE. -/
theorem not_noticeFollowsStatus : ¬ Obligations.NoticeFollowsStatus := by
  intro h
  have hnotice := h captureAboutToStart (pass (captureStarts captureAboutToStart) 1) rfl (by decide +kernel)
  exact absurd hnotice (by decide +kernel)

/-- A key agreement is under way in a unit with this power state, an IDLE mailbox and a KEYEX frame that was kept (R417). -/
def keyexKept (power : PowerState) : State :=
  { power := { state := power }
    fns := [(0, { state := .idle })]
    pair := { keyex := some { fn := 0, op := 1, peer := 0, peerEcdsa := [], peerMldsa := [], started := 0 }
              early := some (.a, { peer := { member := 0x9144, optionN := false, ownerKid := [], partsId := [] }, body := [] }) } }

/-- Refutes O52: a PAIR_COMPLETE to a device without power still takes the kept KEYEX frame. -/
theorem not_rejectedCommandsOnlyAnswer : ¬ Obligations.RejectedCommandsOnlyAnswer := by
  intro h
  obtain ⟨-, -, hunpowered⟩ := h (.pairComplete { fn := 0 }) specPairComplete { fn := 0 } (keyexKept .off) rfl
  have hstates := Host.Outcome.next.inj (hunpowered rfl)
  exact absurd (congrArg (fun s : State => s.pair.early.isSome) hstates) (by decide +kernel)

/-- Refutes O53: a PAIR_COMPLETE with a reserved flag is answered E_FORMAT, and takes the kept KEYEX frame as well. -/
theorem not_mailboxChecksFollowOrder : ¬ Obligations.MailboxChecksFollowOrder := by
  intro h
  obtain ⟨hflags, -⟩ :=
    h (.pairComplete { fn := 0, flags := 1 }) specPairComplete { fn := 0, flags := 1 } (keyexKept .active) rfl (by decide +kernel)
  have hstates := Host.Outcome.next.inj (hflags (by decide) (by decide))
  exact absurd (congrArg (fun s : State => s.pair.early.isSome) hstates) (by decide +kernel)

/-- An OPCODE that no group of codes has. -/
abbrev unlistedOpcode : Nat := 0x0500

/-- A ring of the PF fetches, while a job fetched earlier from it still has its output to deliver. -/
def ringBehindDelivery : State :=
  { update := { mbxReady := true }
    fns := [(0, { job := [(0, { enable := true, sizeLog2 := 4, prod := 1 })], event := [(0, { enabled := true })] })]
    jobs := [{ id := 0, opcode := 0x0301, engine := .flail, req := { fn := 0, ring := 0 }, stage := .delivering }] }

/-- A descriptor with FENCE. -/
def fencedDescriptor : JobReq := { fn := 0, ring := 0, desc := { flags := 7 } }

/-- Refutes O21: a descriptor whose OPCODE lies in no engine's group joins the Hands' queue, not the Flail's. FENCE keeps it there. -/
theorem not_jobRowsFetchTheirJob : ¬ Obligations.JobRowsFetchTheirJob := by
  intro h
  obtain ⟨-, hunlisted⟩ := h
  have hstates := Host.Outcome.next.inj (hunlisted unlistedOpcode fencedDescriptor ringBehindDelivery
    (by decide) (by decide +kernel) rfl (by decide))
  exact absurd (congrArg (fun s : State => s.jobs.map (·.engine)) hstates) (by decide +kernel)

end Sys2Proof.Machine
end

section
/-! Every command completes (O50), and the fields of DEVICE_STATUS (O57). -/

namespace Sys2Proof.Machine

/-- Settles O50: `exec_finish` names the next state. -/
theorem everyCommandCompletes : Obligations.EveryCommandCompletes := by
  intro c s
  obtain ⟨x, hx⟩ := exec_finish c s
  exact ⟨_, hx⟩

/-! ### Fields of a packed word -/

/-- The fields of a word lie one after the other: each begins where those before it have ended, the first at `from_` or above. -/
def laidOut (from_ : Nat) : List (Nat × Nat × Nat) → Prop
  | [] => True
  | (_, lo, width) :: fs => from_ ≤ lo ∧ laidOut (lo + width) fs

theorem pack_cons (v lo width : Nat) (fs : List (Nat × Nat × Nat)) :
    pack ((v, lo, width) :: fs) = v % 2 ^ width * 2 ^ lo + pack fs := by simp [pack]

/-- Fields from bit `from_` up leave the bits below it zero. -/
theorem pack_aligned {from_ : Nat} {fs : List (Nat × Nat × Nat)} (h : laidOut from_ fs) : 2 ^ from_ ∣ pack fs := by
  induction fs generalizing from_ with
  | nil => simp [pack]
  | cons f fs ih =>
    obtain ⟨v, lo, width⟩ := f
    obtain ⟨hlo, hfs⟩ := h
    rw [pack_cons]
    exact dvd_add ((pow_dvd_pow 2 hlo).mul_left _) ((pow_dvd_pow 2 (by omega)).trans (ih hfs))

/-- What lies below a field, with the field, lies below the field's end. -/
theorem below_field_end {x v lo width : Nat} (hx : x < 2 ^ lo) : x + v % 2 ^ width * 2 ^ lo < 2 ^ (lo + width) := by
  have hv : v % 2 ^ width + 1 ≤ 2 ^ width := Nat.mod_lt _ (by positivity)
  calc x + v % 2 ^ width * 2 ^ lo < (v % 2 ^ width + 1) * 2 ^ lo := by rw [add_one_mul]; omega
    _ ≤ 2 ^ width * 2 ^ lo := Nat.mul_le_mul_right _ hv
    _ = 2 ^ (lo + width) := by rw [← pow_add, add_comm]

/-- A field reads as its value, cut to its width; `x` is what lies below the fields. -/
theorem field_of_pack {from_ x v lo width : Nat} {fs : List (Nat × Nat × Nat)} (h : laidOut from_ fs) (hx : x < 2 ^ from_)
    (hm : (v, lo, width) ∈ fs) : (x + pack fs) / 2 ^ lo % 2 ^ width = v % 2 ^ width := by
  induction fs generalizing from_ x with
  | nil => cases hm
  | cons f fs ih =>
    obtain ⟨v', lo', width'⟩ := f
    obtain ⟨hlo, hfs⟩ := h
    have hx' : x < 2 ^ lo' := hx.trans_le (Nat.pow_le_pow_right (by omega) hlo)
    rw [pack_cons, ← add_assoc]
    rcases List.mem_cons.mp hm with heq | hm
    · obtain ⟨rfl, rfl, rfl⟩ := by simpa using heq
      obtain ⟨m, hm⟩ := pack_aligned hfs
      have hsplit : x + v % 2 ^ width * 2 ^ lo + pack fs = x + 2 ^ lo * (v % 2 ^ width + 2 ^ width * m) := by
        rw [hm, pow_add]; ring
      rw [hsplit, Nat.add_mul_div_left _ _ (by positivity), Nat.div_eq_of_lt hx', zero_add, Nat.add_mul_mod_self_left, Nat.mod_mod]
    · exact ih hfs (below_field_end hx') hm

theorem pack_lt {from_ x n : Nat} {fs : List (Nat × Nat × Nat)} (h : laidOut from_ fs) (hx : x < 2 ^ from_) (hn : from_ ≤ n)
    (hends : ∀ f ∈ fs, f.2.1 + f.2.2 ≤ n) : x + pack fs < 2 ^ n := by
  induction fs generalizing from_ x with
  | nil => simpa [pack] using hx.trans_le (Nat.pow_le_pow_right (by omega) hn)
  | cons f fs ih =>
    obtain ⟨v, lo, width⟩ := f
    obtain ⟨hlo, hfs⟩ := h
    rw [pack_cons, ← add_assoc]
    exact ih hfs (below_field_end (hx.trans_le (Nat.pow_le_pow_right (by omega) hlo))) (hends _ List.mem_cons_self)
      fun f hf => hends f (List.mem_cons_of_mem _ hf)

section
variable {fs : List (Nat × Nat × Nat)} (h : laidOut 0 fs)
include h

theorem bits_pack {v lo hi : Nat} (hm : (v, lo, hi + 1 - lo) ∈ fs) : bits (pack fs) hi lo = v % 2 ^ (hi + 1 - lo) := by
  simpa [bits] using field_of_pack h (x := 0) (by simp) hm

theorem bit_pack {b : Bool} {k : Nat} (hm : (ofBool b, k, 1) ∈ fs) : bit (pack fs) k = b := by
  have hfield : pack fs / 2 ^ k % 2 ^ 1 = ofBool b % 2 ^ 1 := by simpa using field_of_pack h (x := 0) (by simp) hm
  rw [bit, Nat.testBit_eq_decide_div_mod_eq]
  cases b <;> simp_all [ofBool]

theorem bits_pack_above {hi lo : Nat} (hends : ∀ f ∈ fs, f.2.1 + f.2.2 ≤ lo) : bits (pack fs) hi lo = 0 := by
  have hlt : pack fs < 2 ^ lo := by simpa using pack_lt h (x := 0) (by simp) (by omega) hends
  simp [bits, Nat.div_eq_of_lt hlt]

end

theorem powerNo_lt (p : PowerState) : powerNo p < 4 := by cases p <;> decide
theorem roleNo_lt (r : Role) : roleNo r < 8 := by cases r <;> decide
theorem phaseNo_lt (p : Phase) : phaseNo p < 4 := by cases p <;> decide

/-- Settles O57: the fields of `deviceStatus` lie one after the other. -/
theorem deviceStatusFields : Obligations.DeviceStatusFields := by
  intro s
  have hlaid : laidOut 0 [(s.life.lifecycle, 0, 2), (ofBool s.life.purged, 2, 1), (powerNo s.power.state, 3, 2),
      (roleNo s.pair.role, 5, 3), (phaseNo s.update.phase, 8, 2), (s.life.debug, 10, 2), (s.scarecrow.compat, 12, 2),
      (alarmLevel s, 14, 3), (s.pair.seat, 17, 1), (s.update.bank, 18, 1), (ofBool s.update.mbxReady, 19, 1),
      (ofBool s.update.captureReady, 20, 1)] := by simp [laidOut]
  have hpower := Nat.mod_eq_of_lt (powerNo_lt s.power.state)
  have hrole := Nat.mod_eq_of_lt (roleNo_lt s.pair.role)
  have hphase := Nat.mod_eq_of_lt (phaseNo_lt s.update.phase)
  refine ⟨bits_pack hlaid (by simp), bit_pack hlaid (by simp), (bits_pack hlaid (by simp)).trans hpower,
    (bits_pack hlaid (by simp)).trans hrole, (bits_pack hlaid (by simp)).trans hphase, bits_pack hlaid (by simp),
    bits_pack hlaid (by simp), bits_pack hlaid (by simp), bits_pack hlaid (by simp), bits_pack hlaid (by simp),
    bit_pack hlaid (by simp), bit_pack hlaid (by simp), bits_pack_above hlaid (by simp)⟩

end Sys2Proof.Machine
end

section
/-! GO, RELEASE and the rings' registers (O25, O26), and writes and reads of the other registers (O27). -/

namespace Sys2Proof.Machine

/-! ### GO and RELEASE -/

theorem fnReached_iff {s : State} {f : Nat} : fnReached s f = true ↔ powered s = true ∧ fnExists s f = true := by
  simp [fnReached]

theorem stewardTakes_iff {s : State} {f : Nat} :
    stewardTakes s f = true ↔
      powered s = true ∧ stewardServes s = true ∧ fnExists s f = true ∧ (fnOf s f).state = .idle := by
  simp [stewardTakes, stewardWorks, and_assoc]

theorem goRejected_notIdle {s : State} {f : Nat} (hr : fnReached s f = true) (hi : (fnOf s f).state ≠ .idle) :
    goRejected s f = setFn s f { fnOf s f with rejectedGo := true } := by
  simp [goRejected, rejectGo, hr, hi]

theorem mbxReleased_done {s : State} {f : Nat} (hr : fnReached s f = true) (hd : (fnOf s f).state = .done) :
    mbxReleased s f = setFn s f { fnOf s f with state := .idle } := by
  simp [mbxReleased, hr, hd]

/-- The Steward answers a CODE that no command has, where the header is good. -/
theorem goUnknown_answers {code : Nat} {q : MbxReq} {s : State} (ht : stewardTakes s q.fn = true) (hf : q.flags = 0)
    (hr : allZero q.rsv = true) (hl : q.len ≤ 4064) (hc : code ∉ mboxCodes) :
    goUnknown code q s = respond s code q.fn q.tag eCode 0 [] := by
  obtain ⟨hp, hs, he, hi⟩ := stewardTakes_iff.mp ht
  simp [goUnknown, hp, hs, he, hi, hf, hr, hl, hc]

/-- Settles O25. -/
theorem mailboxEventsAct : Obligations.MailboxEventsAct := by
  refine ⟨fun f s hp he hi => ?_, fun f s hp he hd => ?_, fun code q s ht hf hr hl hc => ?_⟩
  · exact congrArg (done s) (goRejected_notIdle (fnReached_iff.mpr ⟨hp, he⟩) hi)
  · exact congrArg (done s) (mbxReleased_done (fnReached_iff.mpr ⟨hp, he⟩) hd)
  · exact congrArg (done s) (goUnknown_answers ht hf hr hl hc)

/-! ### Job rings and event rings -/

section
variable {s : State} {f r v : Nat}

theorem writeJrCtrl_enables (hv : bit v 0 = true) (he : (jobRingOf (fnOf s f) r).enable = false) :
    writeJrCtrl f r v s =
      let k : JobRing := { jobRingOf (fnOf s f) r with
        priority := bits v 2 1, sizeLog2 := bits v 7 4, enable := true, halted := false, cause := 0 }
      let t := setJobRing s f r k
      if jobRingOk t f k then t else haltRing t f r 1 := by
  simp [writeJrCtrl, hv, he]

theorem writeJrCtrl_stops (hv : bit v 0 = false) :
    writeJrCtrl f r v s =
      let j := jobRingOf (fnOf s f) r
      setJobRing s f r { j with priority := bits v 2 1, sizeLog2 := if j.enable then j.sizeLog2 else bits v 7 4, enable := false } := by
  simp [writeJrCtrl, hv]

theorem writeErCtrl_enables (hv : bit v 0 = true) (he : (eventRingOf (fnOf s f) r).enable = false)
    (hd : (eventRingOf (fnOf s f) r).enabled = false) :
    writeErCtrl f r v s =
      enableEventRing f r
        { eventRingOf (fnOf s f) r with sizeLog2 := bits v 7 4, vector := bits v 12 8, mask := bit v 13 } s := by
  simp [writeErCtrl, hv, he, hd]

theorem writeErCtrl_disables (hv : bit v 0 = false) (he : (eventRingOf (fnOf s f) r).enable = true) :
    writeErCtrl f r v s =
      let e := eventRingOf (fnOf s f) r
      setEventRing s f r (disableEventRing
        { e with sizeLog2 := if e.enabled then e.sizeLog2 else bits v 7 4, vector := bits v 12 8, mask := bit v 13 }) := by
  simp [writeErCtrl, hv, he]

theorem writeErCons_enabled (he : (eventRingOf (fnOf s f) r).enabled = true) :
    writeErCons f r v s =
      let e := eventRingOf (fnOf s f) r
      let n := (v % 65536 + ringSize e - e.cons) % ringSize e
      startJobs (flushRing (setEventRing s f r { e with cons := v % 65536, live := e.live.drop n }) f r) := by
  simp [writeErCons, he]

theorem coalesceExpires_due (hu : (eventRingOf (fnOf s f) r).unsignalled ≠ 0) (ho : (eventRingOf (fnOf s f) r).oldUsec ≠ 0)
    (he : (eventRingOf (fnOf s f) r).enabled = true) :
    coalesceExpires f r s =
      let e := eventRingOf (fnOf s f) r
      let t := setEventRing (advanceTo s (e.oldest + e.oldUsec)) f r { e with unsignalled := 0 }
      if e.oldMask then t else signal t f e.oldVector := by
  simp [coalesceExpires, hu, ho, he]

end

/-- Settles O26: each row of a ring that can be reached is the write of its register. -/
theorem ringCommandsComplete : Obligations.RingCommandsComplete := by
  refine ⟨fun f r v s hr hv he => ?_, fun f r v s hr hv => ?_, fun f r v s hr => ?_, fun f r v s hr hv he hd => ?_,
    fun f r v s hr hv he => ?_, fun f r v s hr he => ?_, fun f r s hr hu ho he => ?_⟩
  · change execJobRingEnable f r v s = _
    simp only [execJobRingEnable, done, hr, hv, Bool.and_self, if_true, writeJrCtrl_enables hv he]
  · change execJobRingDisable f r v s = _
    simp only [execJobRingDisable, done, hr, hv, Bool.not_false, Bool.and_self, if_true, writeJrCtrl_stops hv]
  · change execJobRingProduce f r v s = _
    simp only [execJobRingProduce, done, hr, if_true, writeJrProd]
  · change execEventRingEnable f r v s = _
    simp only [execEventRingEnable, done, hr, hv, Bool.and_self, if_true, writeErCtrl_enables hv he hd, enableEventRing]
  · change execEventRingDisable f r v s = _
    simp only [execEventRingDisable, done, hr, hv, Bool.not_false, Bool.and_self, if_true, writeErCtrl_disables hv he,
      disableEventRing]
  · change execEventRingConsume f r v s = _
    simp only [execEventRingConsume, done, hr, if_true, writeErCons_enabled he]
  · change execEventCoalesceExpiry f r s = _
    simp only [execEventCoalesceExpiry, done, hr, if_true, coalesceExpires_due hu ho he]

end Sys2Proof.Machine
end

section
/-! GO as a register write, and the other registers (O27). -/

namespace Sys2Proof.Machine

/-! ### GO as a register write -/

/-- The codes with a meaning are the M codes of Table 2-17. -/
theorem goRows_codes : goRows.map (·.1) = mboxCodes := rfl

theorem mboxCodes_nodup : mboxCodes.Nodup := by decide

/-- A CODE finds its own row. -/
theorem goRows_find {code : Nat} {k : MbxReq → State → Out} (h : (code, k) ∈ goRows) :
    goRows.find? (fun r => r.1 == code) = some (code, k) := by
  have hsome : (goRows.find? (fun r => r.1 == code)).isSome := List.find?_isSome.mpr ⟨_, h, by simp⟩
  obtain ⟨row, hrow⟩ := Option.isSome_iff_exists.mp hsome
  have hcode : row.1 = code := by simpa using List.find?_some hrow
  have hnodup : (goRows.map (·.1)).Nodup := goRows_codes ▸ mboxCodes_nodup
  rw [hrow, List.inj_on_of_nodup_map hnodup (List.mem_of_find?_eq_some hrow) h hcode]

/-- A CODE that is not allocated finds none. -/
theorem goRows_find_none {code : Nat} (h : code ∉ mboxCodes) : goRows.find? (fun r => r.1 == code) = none := by
  refine List.find?_eq_none.mpr fun r hr hcode => h ?_
  rw [← goRows_codes]
  exact List.mem_map.mpr ⟨r, hr, by simpa using hcode⟩

section
variable {s : State} {f v : Nat}

/-- A GO by a register write runs the command in the buffer. -/
theorem exec_registerWrite_go (hr : fnReached s f = true) (hv : bit v 0 = true) (hi : (fnOf s f).state = .idle) :
    exec (.registerWrite f .bar0 0 4 v) s = runBuffer s f := by
  change execRegisterWrite f .bar0 0 4 v s = _
  simp [execRegisterWrite, hr, isGo, hv, hi]

theorem runBuffer_row {code : Nat} {k : MbxReq → State → Out} (h : (code, k) ∈ goRows) (hc : bufCode (fnOf s f).cmdBuf = code) :
    runBuffer s f = k (bufCommand f (fnOf s f).cmdBuf) s := by
  simp [runBuffer, hc, goRows_find h]

theorem runBuffer_notAllocated (hc : bufCode (fnOf s f).cmdBuf ∉ mboxCodes) :
    runBuffer s f = .next (finish s (goUnknown (bufCode (fnOf s f).cmdBuf) (bufCommand f (fnOf s f).cmdBuf) s)) := by
  simp [runBuffer, goRows_find_none hc, execMbxGoCodeNotAllocated, done]

/-! ### Other register writes -/

/-- A write that is no GO is that of its register. -/
theorem exec_registerWrite_noGo {bar : Bar} {off n : Nat} (hr : fnReached s f = true) (hg : isGo f bar off n v s = false) :
    exec (.registerWrite f bar off n v) s = .next (finish s (writeRegister f bar off n v s)) := by
  change execRegisterWrite f bar off n v s = _
  simp [execRegisterWrite, hr, hg, done]

/-- A write or a read of another size than 4 or 8 meets no register. -/
theorem writeRegister_oddSize {bar : Bar} {off n : Nat} (h4 : n ≠ 4) (h8 : n ≠ 8) : writeRegister f bar off n v s = s := by
  simp [writeRegister, h4, h8]

theorem exec_registerWrite_oddSize {bar : Bar} {off n : Nat} (h4 : n ≠ 4) (h8 : n ≠ 8) :
    exec (.registerWrite f bar off n v) s = .next (finish s s) := by
  change execRegisterWrite f bar off n v s = _
  simp [execRegisterWrite, isGo, h4, writeRegister_oddSize h4 h8, done]

theorem readRegister_oddSize {bar : Bar} {off n : Nat} (h4 : n ≠ 4) (h8 : n ≠ 8) : readRegister s f bar off n = 0 := by
  simp [readRegister, h4, h8]

end

/-! ### The Ledger window -/

/-- The Ledger window takes up the top half of BAR2. -/
theorem readBar2_ledger {s : State} {off : Nat} (hlo : 0x80000 ≤ off) (hhi : off < 0x100000) :
    readBar2 s off = readLedger s (off - 0x80000) := by
  have hlow : ∀ n ≤ 0x80000, ¬ off < n := fun n hn => by omega
  have hne : ∀ n < 0x80000, (off == n) = false := fun n hn => beq_false_of_ne (by omega)
  simp [readBar2, hlow, hne, hlo, hhi]

/-- `readLedger` with its body: the two are compared as functions, for applied to arguments the kernel would evaluate the slot, and
with it 4,096 by units. -/
theorem readLedger_of_slot {s : State} {off : Nat} {slot : Option LedgerEntry} (h : ledgerSlot s (off / 128) = slot) :
    readLedger s off = (slot.map (fun e => rd (ledgerRead s.ledger e) (off % 128) 4)).getD 0 := by
  have hbody : readLedger = readLedger := rfl
  conv_rhs at hbody => delta readLedger
  rw [hbody]
  beta_reduce
  rw [h]
  cases slot <;> rfl

/-- A word of a slot of the Ledger window. -/
theorem readRegister_ledgerSlot {s : State} {k w off : Nat} {slot : Option LedgerEntry} (hr : fnReached s 0 = true) (hk : k < 4096)
    (hw : w < 32) (ho : off = 0x80000 + 128 * k + 4 * w) (h : ledgerSlot s k = slot) :
    readRegister s 0 .bar2 off 4 = (slot.map (fun e => rd (ledgerRead s.ledger e) (4 * w) 4)).getD 0 := by
  have haligned : off % 4 = 0 := by omega
  have hslot : (off - 0x80000) / 128 = k := by omega
  have hword : (off - 0x80000) % 128 = 4 * w := by omega
  have hread : readRegister s 0 .bar2 off 4 = readBar2 s off := by simp [readRegister, hr, haligned, readWord]
  rw [hread, readBar2_ledger (by omega) (by omega), readLedger_of_slot (hslot ▸ h), hword]

theorem ledgerSlot_of_unique {s : State} {k : Nat} {e : LedgerEntry}
    (he : e ∈ s.ledger.entries.drop (s.ledger.entries.length - 4096)) (hk : e.seq % 4096 = k)
    (hu : ∀ x ∈ s.ledger.entries.drop (s.ledger.entries.length - 4096), x.seq % 4096 = k → x = e) :
    ledgerSlot s k = some e := by
  unfold ledgerSlot
  generalize s.ledger.entries.drop (s.ledger.entries.length - 4096) = latest at he hu ⊢
  obtain ⟨x, hx⟩ := Option.isSome_iff_exists.mp 
    (List.find?_isSome (p := fun e : LedgerEntry => e.seq % 4096 == k) |>.mpr ⟨e, he, by simp [hk]⟩)
  rw [hx, hu x (List.mem_of_find?_eq_some hx) (by simpa using List.find?_some hx)]

theorem ledgerSlot_of_none {s : State} {k : Nat} (h : ∀ x ∈ s.ledger.entries, x.seq % 4096 ≠ k) : ledgerSlot s k = none :=
  List.find?_eq_none.mpr fun x hx => by simpa using h x (List.mem_of_mem_drop hx)

/-- Settles O27. -/
theorem registerWritesTakeEffect : Obligations.RegisterWritesTakeEffect := by
  refine ⟨fun f off v s hr ha hg => ?word, ⟨fun f v s code k hr hv hi hk hc => ?go, fun f v s ht hv => ?noCode⟩,
    fun off v s hr ha => ?pf, fun f off v s hr ha hw => ?wide, fun f bar off n v s h4 h8 => exec_registerWrite_oddSize h4 h8,
    fun f v s => rfl, fun f v s => rfl, fun f v s => rfl, fun f v s he => ?base, fun f v s he => ?held, fun v s => rfl,
    fun s f bar off n h4 h8 => readRegister_oddSize h4 h8, fun s k w hr hk hw => ⟨fun e he hek hu => ?entry, fun hn => ?empty⟩⟩
  case word =>
    have hnoGo : isGo f .bar0 off 4 v s = false := by
      by_cases h0 : off = 0
      · cases hv : bit v 0 <;> simp_all [isGo]
      · simp [isGo, h0]
    rw [exec_registerWrite_noGo hr hnoGo]
    simp [writeRegister, ha]
  case go =>
    rw [exec_registerWrite_go hr hv hi, runBuffer_row hk hc]
    rfl
  case noCode =>
    intro b hc hf hz hl
    obtain ⟨hp, -, he, hi⟩ := stewardTakes_iff.mp ht
    rw [exec_registerWrite_go (fnReached_iff.mpr ⟨hp, he⟩) hv hi, runBuffer_notAllocated hc]
    exact congrArg (done s) (goUnknown_answers (q := bufCommand f b) ht hf hz hl hc)
  case pf =>
    rw [exec_registerWrite_noGo hr (by simp [isGo])]
    simp [writeRegister, ha]
  case wide =>
    rw [exec_registerWrite_noGo hr (by simp [isGo])]
    simp [writeRegister, ha, hw]
  case base => simp [writeBar0, writeJobRing, he]
  case held => simp [writeBar0, writeJobRing, he]
  case entry => exact readRegister_ledgerSlot hr hk hw rfl (ledgerSlot_of_unique he hek hu)
  case empty => exact readRegister_ledgerSlot hr hk hw rfl (ledgerSlot_of_none hn)

end Sys2Proof.Machine
end

section
/-! Sessions and credentials (O1, O2). -/

namespace Sys2Proof.Machine

/-! ### What the bodies of the session commands give -/

section
variable {q : MbxReq} {s : State}

theorem bodySessionOpen_opens {k : Credential} {i : Nat} (hf : wellFormed q 8 [(1, 3)]) (hc : fld q 0 1 ≤ 3) (hi : fld q 4 4 ≤ 3600)
    (hl : (clientOf s q.fn).lockEnd ≤ s.now) (ht : throttled s = false) (hk : tblFind (clientOf s q.fn).creds (fld q 0 1) = some k)
    (hfree : firstFrom 0 16 (fun n => !(fnOf s q.fn).sessions.any (fun x => x.index == n)) = some i) :
    bodySessionOpen q s = openSession s q.fn i (fld q 0 1) (if fld q 4 4 == 0 then 300 else fld q 4 4) k := by
  rw [bodySessionOpen, withFormat_ok hf]
  simp [Nat.not_lt.mpr hc, Nat.not_lt.mpr hi, Nat.not_lt.mpr hl, ht, hk, hfree]

theorem bodySessionAuth_judges {x : Session} (hf : wellFormed q (4 + fld q 0 2) [(2, 2)]) (hx : sessionOf s q.fn q.session = some x)
    (ha : x.auth = false) (he : s.now < x.expires) :
    bodySessionAuth q s =
      if authVerifies s q.fn x (q.payload.drop 4) then accept (authenticate s q.fn x) [] else authFails q s x := by
  rw [bodySessionAuth, withFormat_ok hf]
  simp [hx, ha, Nat.not_le.mpr he]

theorem bodySessionClose_closes {x : Session} (hf : wellFormed q 0 []) (hx : sessionOf s q.fn q.session = some x) :
    bodySessionClose q s = accept (closeSession s q.fn x) [] := by
  rw [bodySessionClose, withFormat_ok hf]
  simp [hx]

/-- CLIENT_ENROLL judges the key of a credential whose fields are in range. -/
theorem bodyClientEnroll_judges (hf : wellFormed q (8 + fld q 4 2) [(6, 2)]) (hc : fld q 0 1 < 64) (hk : fld q 1 1 ≤ 3)
    (ha : fld q 2 2 = 1 ∨ fld q 2 2 = 2) (hl : fld q 4 2 = credLen (fld q 2 2)) :
    bodyClientEnroll q s =
      let kept := setCred s (fld q 0 1) (fld q 1 1) (some { alg := fld q 2 2, key := q.payload.drop 8 })
      if credKeyOk s (fld q 2 2) (q.payload.drop 8) then
        accept (if tblHas (clientOf s (fld q 0 1)).creds (fld q 1 1) then dropCredSessions kept (fld q 0 1) (fld q 1 1) else kept) []
      else reject s ePkReject 0 := by
  have hfields : firstField [(decide (64 ≤ fld q 0 1), 32), (decide (3 < fld q 1 1), 33), (fld q 2 2 != 1 && fld q 2 2 != 2, 34),
      (fld q 4 2 != credLen (fld q 2 2), 36)] = none := by
    rcases ha with ha | ha <;> simp [firstField, Nat.not_le.mpr hc, Nat.not_lt.mpr hk, ha, hl]
  rw [bodyClientEnroll, withFormat_ok hf]
  simp only [hfields]
  cases credKeyOk s (fld q 2 2) (q.payload.drop 8) <;> rfl

theorem bodyClientRevoke_revokes (hf : wellFormed q 4 [(2, 2)]) (hc : fld q 0 1 < 64)
    (hk : fld q 1 1 = 0xFF ∨ (fld q 1 1 ≤ 3 ∧ (revoked s (fld q 0 1) (fld q 1 1)).isEmpty = false)) :
    bodyClientRevoke q s = accept ((revoked s (fld q 0 1) (fld q 1 1)).foldl
      (fun s k => dropCredSessions (setCred s (fld q 0 1) k none) (fld q 0 1) k) s) [] := by
  rw [bodyClientRevoke, withFormat_ok hf]
  rcases hk with hk | ⟨hk, hr⟩
  · simp [Nat.not_le.mpr hc, hk]
  · simp [Nat.not_le.mpr hc, Nat.not_lt.mpr hk, hr]

end

/-- Settles O1. -/
theorem sessionCommandsComplete : Obligations.SessionCommandsComplete := by
  refine ⟨fun q s s₀ h hf => ?info, fun q s s₀ k i h hf hc hi hl ht hk hfree => ?opens, fun q s s₀ x h hf hx ha he => ?auth,
    fun q s s₀ x h hf hx => ?close⟩
  case info =>
    change runMbx specGetInfo bodyGetInfo q s = _
    rw [runMbx_admitted h, bodyGetInfo, withFormat_ok hf, settleReply_accept rfl]
  case opens =>
    change runMbx specSessionOpen bodySessionOpen q s = _
    rw [runMbx_admitted h, bodySessionOpen_opens hf hc hi hl ht hk hfree, openSession, settleReply_accept rfl]
  case auth =>
    change runMbx specSessionAuth bodySessionAuth q s = _
    rw [runMbx_admitted h, bodySessionAuth_judges hf hx ha he]
    cases authVerifies s₀ q.fn x (q.payload.drop 4) with
    | true => rw [if_pos rfl, if_pos rfl, settleReply_accept rfl]
    | false =>
      rw [if_neg (by decide), if_neg (by decide)]
      exact congrArg (fun t => Host.Outcome.next (finish s t)) (settleReply_reject (by decide))
  case close =>
    change runMbx specSessionClose bodySessionClose q s = _
    rw [runMbx_admitted h, bodySessionClose_closes hf hx, settleReply_accept rfl]

/-- Settles O2. -/
theorem credentialCommandsComplete : Obligations.CredentialCommandsComplete := by
  refine ⟨fun q s s₀ h hf hc hk ha hl => ?enroll, fun q s s₀ h ⟨hf, hc, hk⟩ => ?revoke⟩
  case enroll =>
    change runMbx specClientEnroll bodyClientEnroll q s = _
    rw [runMbx_admitted h, bodyClientEnroll_judges hf hc hk ha hl]
    cases credKeyOk s₀ (fld q 2 2) (q.payload.drop 8) with
    | true => exact congrArg (fun t => Host.Outcome.next (finish s t)) (settleReply_accept rfl)
    | false => simp only [Bool.false_eq_true, if_false, settleReply_reject (show ePkReject ≠ sOk by decide)]
  case revoke =>
    change runMbx specClientRevoke bodyClientRevoke q s = _
    rw [runMbx_admitted h, bodyClientRevoke_revokes hf hc hk, settleReply_accept rfl]

end Sys2Proof.Machine
end

section
/-! Resets (O42), clocks, supplies, the PCIe link and the SMBus target (O44), operations, sessions and the tick (O48): each row's guard,
met, leaves its effect. -/

namespace Sys2Proof.Machine

/-- Settles O42. -/
theorem resetEventsAct : Obligations.ResetEventsAct := by
  refine ⟨fun f s hr => ⟨?_, ?_⟩, fun on n s hp => ?_, fun f s hr hf => ?_, fun s hr => ?_, fun s hp => ?_, fun s hp ho => ?_,
    fun s hp hd => ?_, fun env s ha => ?_⟩
  · change execBusMasterEnableChange f false s = _
    simp [execBusMasterEnableChange, done, hr, setBusMaster]
  · change execBusMasterEnableChange f true s = _
    simp [execBusMasterEnableChange, done, hr, setBusMaster]
  · change execVfEnableChange on n s = _
    simp [execVfEnableChange, done, hp]
  · change execFunctionLevelReset f s = _
    simp [execFunctionLevelReset, done, hr, flr, hf]
  · change execFunctionLevelReset 0 s = _
    simp [execFunctionLevelReset, done, hr, flr]
  · change execPerstAssert s = _
    simp [execPerstAssert, done, hp]
  · change execRstNAssert s = _
    simp [execRstNAssert, done, resetByPin, hp, ho]
  · change execSelfResetDue s = _
    simp [execSelfResetDue, done, hp, hd]
  · change execColdResetStart env s = _
    simp [execColdResetStart, done, ha]

/-! ### The SMBus target -/

theorem smbusRead_awake {s : State} {code : Nat} {data : Bytes} (h : .vio ∈ s.power.railsGood) :
    smbusRead s code data = .next (finish s (setPower s { s.power with
      smbusAck := true
      smbus := data ++ le 1 (pecOf ([byte (2 * smbusAddr s), byte code, byte (2 * smbusAddr s + 1)] ++ data)) })) := by
  simp [smbusRead, done, h]

theorem smbusRead_silent {s : State} {code : Nat} {data : Bytes} (h : .vio ∉ s.power.railsGood) :
    smbusRead s code data = .next (finish s (setPower s { s.power with smbus := [], smbusAck := false })) := by
  simp [smbusRead, done, h]

/-- Each SMBus row reads its own command code. -/
theorem exec_smbusRow {row : Instr} {code : Nat} {data : State → Bytes} (h : (row, code, data) ∈ smbusRows) (s : State) :
    exec row s = smbusRead s code (data s) := by
  simp only [smbusRows, List.mem_cons, List.not_mem_nil, or_false, Prod.mk.injEq] at h
  rcases h with ⟨rfl, rfl, rfl⟩ | ⟨rfl, rfl, rfl⟩ | ⟨rfl, rfl, rfl⟩ | ⟨rfl, rfl, rfl⟩ <;> rfl

/-- Settles O44. -/
theorem clockSupplyAndSmbusAct : Obligations.ClockSupplyAndSmbusAct := by
  refine ⟨⟨fun k s h0 h4 hb => ?_, fun k s h0 h4 hb => ?_, fun s hb hh => ?_, fun s hv ho => ?_, fun s hv ho hp hz => ?_,
    fun s hv ho => ?_, fun widths rates w r s hp hw hr => ?_, fun s => rfl⟩, fun row code data hrow s => ⟨fun hv => ?_, fun hv => ?_⟩⟩
  · change execEthrefLoss k s = _
    simp [execEthrefLoss, done, Nat.not_le.mpr h4, hb, h0]
  · change execEthrefReturn k s = _
    simp [execEthrefReturn, done, Nat.not_le.mpr h4, hb, h0]
  · change execEthrefReturn 0 s = _
    simp [execEthrefReturn, done, hb, hh, setPower]
  · change execVauxLoss s = _
    simp [execVauxLoss, done, hv, ho]
  · change execVauxReturn s = _
    rw [execVauxReturn, if_neg (by simp [hv, ho])]
    exact congrArg (done s) (if_pos (Bool.and_eq_true_iff.mpr ⟨hp, beq_iff_eq.mpr hz⟩))
  · change ∃ t, execAlwaysOnPowerLoss s = _ ∧ _
    exact ⟨_, by rw [execAlwaysOnPowerLoss, if_neg (by simp [hv, ho])]; rfl, rfl, rfl, rfl, rfl, rfl, rfl⟩
  · change execPcieLinkUp widths rates s = _
    simp [execPcieLinkUp, done, hw, hr, hp]
  · rw [exec_smbusRow hrow, smbusRead_awake hv]
  · rw [exec_smbusRow hrow, smbusRead_silent hv]

/-- Settles O48. -/
theorem operationEventsAct : Obligations.OperationEventsAct := by
  refine ⟨fun i w s hw => ?_, fun f n o s ho hs => ?_, fun f n o s ho hs hd => ?_, fun f i x s hx hp ha => ?_,
    fun f i x s hx hp ha hb => ?_, fun s hp hl hc => ?_, fun s h => ?_, fun ppb s hp hl => ?_⟩
  · change execKeySlotCommit i s = _
    simp [execKeySlotCommit, done, hw]
  · change execDeferredOpEnd f n s = _
    simp [execDeferredOpEnd, done, ho, hs]
  · change execDeferredOpTimeout f n s = _
    simp [execDeferredOpTimeout, done, ho, hs, hd]
  · change execSessionAuthTimeout f i s = _
    simp [execSessionAuthTimeout, done, hx, hp, ha]
  · change execSessionIdleTimeout f i s = _
    simp [execSessionIdleTimeout, done, hx, hp, ha, hb]
  · change execAlmanacStore s = _
    simp [execAlmanacStore, done, pllsRun, hp, hl, hc]
  · change execAlmanacStore s = _
    rcases h with h | h <;> simp [execAlmanacStore, done, pllsRun, h]
  · change execCrystalCalibration ppb s = _
    simp [execCrystalCalibration, done, pllsRun, measureCrystal, hp, hl]

end Sys2Proof.Machine
end

section
/-! A job on a device otherwise at rest (O22): what follows a step has nothing to do there, the scheduler serves the one job, each
engine takes it up, and its end is the engine's. -/

namespace Sys2Proof.Machine

/-! ### A state that asks nothing of what follows a step -/

theorem foldl_of_fixed {α β : Type} {f : β → α → β} {b : β} {l : List α} (h : ∀ a ∈ l, f b a = b) : l.foldl f b = b := by
  induction l with
  | nil => rfl
  | cons a l ih =>
    rw [List.foldl_cons, h a List.mem_cons_self]
    exact ih fun x hx => h x (List.mem_cons_of_mem a hx)

/-- The part of `atRest` that starting a job keeps, and power. -/
structure Peaceful (s : State) : Prop where
  decisions : s.scarecrow.compat ≠ 1 ∨ s.scarecrow.decisions = []
  hatch : s.hatch.starting = false
  strands : s.strands = []
  verdicts : s.verdicts = []
  instances : s.instances = []
  ops : ∀ e ∈ s.fns, ∀ o ∈ e.2.ops, o.code ≠ 0x0101
  leaving : s.pair.leaving = none
  held : ∀ h, (fnOf s 0).held = some h → h.why ≠ .switchover none
  bins : ∀ f < 6, binsSettled s f
  inWord : s.flail.inWord = false
  finishing : s.flail.finishing = false
  power : powered s = true

theorem peaceful_of_atRest {s : State} (h : atRest s) (hp : powered s = true) : Peaceful s := by
  obtain ⟨⟨hd, hh, -, -, hv, hi, ho, -, hl, hw, hb⟩, hs, -, hf, hf'⟩ := h
  exact ⟨hd, hh, hs, hv, hi, ho, hl, hw, hb, hf, hf', hp⟩

section
variable {s : State} (h : Peaceful s)
include h

theorem settleNow_of_peaceful (n : Nat) : settleNow n s = s := by
  cases n with
  | zero => rfl
  | succ n => rcases h.decisions with hd | hd <;> simp [settleNow, hd]

theorem watchKeys_of_peaceful (s₀ : State) : watchKeys s₀ s = s := by
  simp [watchKeys, watchReverse, strandIds, h.strands]

theorem watchBins_of_peaceful : watchBins s = s := by
  refine foldl_of_fixed fun f hf => ?_
  have hb := h.bins f (List.mem_range.mp hf)
  unfold binsSettled at hb
  unfold linkPauseCheck
  cases hp : (floorOf s f).pausing
  · simp only [hp, if_false, Bool.false_eq_true] at hb
    obtain ⟨hfree, hstarved⟩ := hb
    simp [hp, hfree.not_gt, hstarved]
  · simp only [hp, if_true] at hb
    rcases hb with hfree | hstarved
    · simp [hp, hfree.not_gt]
    · simp [hp, hstarved]

theorem drainSheafEvents_of_peaceful : drainSheafEvents s = s := by simp [drainSheafEvents, h.strands]

theorem wakeWaiting_of_peaceful : wakeWaiting s = s := by simp [wakeWaiting, wakeChips, h.strands]

theorem handOver_of_peaceful : handOver s = s := by
  unfold handOver leaveActive
  simp only [h.leaving]
  unfold switchSends
  split
  next w hw => simp [h.held w hw]
  next => rfl

/-- What follows a step, where nothing but jobs asks for it. -/
theorem finish_of_peaceful (s₀ : State) : finish s₀ s = noteStatus (deviceStatus s₀) (serveOwn s) := by
  simp [finish, settleNow_of_peaceful h, settleHatch, h.hatch, watchKeys_of_peaceful h, watchBins_of_peaceful h,
    drainSheafEvents_of_peaceful h, wakeWaiting_of_peaceful h, handOver_of_peaceful h]

theorem startFallback_of_peaceful : startFallback s = s := by simp [startFallback, h.inWord, h.finishing]

theorem ownNeeds_of_peaceful : ownNeeds s = s.jobs.flatMap (fun b =>
    match b.asks with
    | some l => if b.stage == .running then handNeeds (.document b.id) l else []
    | none => []) := by
  have hops : s.fns.flatMap (fun e => e.2.ops.flatMap (opNeeds s e.1)) = [] := by
    refine List.flatMap_eq_nil_iff.mpr fun e he => List.flatMap_eq_nil_iff.mpr fun o ho => ?_
    simp [opNeeds, h.ops e he o ho]
  simp [ownNeeds, h.strands, h.verdicts, h.instances, hops] <;> rfl

end

theorem askDocuments_of_noHand {s : State} (h : ∀ b ∈ s.jobs, b.engine ≠ .hand) : askDocuments s = s := by
  have hjobs : s.jobs.map (fun b =>
      if b.engine == .hand && b.stage == .running && b.asks.isNone then { b with asks := some (docOps s (offlineDocument s b)) }
      else b) = s.jobs := by
    conv_rhs => rw [← List.map_id s.jobs]
    exact List.map_congr_left fun b hb => by simp [h b hb]
  simp only [askDocuments, hjobs]

/-- No job asks for work of the device: nothing is queued, and nothing is taken back. -/
theorem serveOwn_of_peaceful {s : State} (h : Peaceful s) (hj : ∀ b ∈ s.jobs, b.own = none ∧ b.engine ≠ .hand ∧ b.asks = none) :
    serveOwn s = s := by
  have hown : s.jobs.filter (fun b => b.own.isSome && b.stage == .finished && b.status != sOk) = [] :=
    List.filter_eq_nil_iff.mpr fun b hb => by simp [(hj b hb).1]
  have hneeds : ownNeeds s = [] := by
    rw [ownNeeds_of_peaceful h]
    exact List.flatMap_eq_nil_iff.mpr fun b hb => by simp [(hj b hb).2.2]
  have hstale : s.jobs.filter (fun b => b.own.isSome) = [] := List.filter_eq_nil_iff.mpr fun b hb => by simp [(hj b hb).1]
  simp [serveOwn, h.power, hown, askDocuments_of_noHand fun b hb => (hj b hb).2.1, hneeds, hstale]

/-! ### NOTICE changes a function's registers alone -/

theorem signal_fns (s : State) (f v : Nat) : ∃ x, signal s f v = { s with fns := x } := by
  unfold signal
  dsimp only
  split_ifs <;> exact ⟨_, rfl⟩

theorem raiseCause_fns (s : State) (f : Nat) (c : Cause) : ∃ x, raiseCause s f c = { s with fns := x } := by
  unfold raiseCause
  dsimp only
  split_ifs
  · exact ⟨_, rfl⟩
  · obtain ⟨x, hx⟩ := signal_fns (setFn s f _) f 0
    exact ⟨x, hx⟩

theorem noteStatus_fns (d : Nat) (s : State) : ∃ x, noteStatus d s = { s with fns := x } := by
  unfold noteStatus
  split_ifs
  · exact ⟨_, rfl⟩
  · exact raiseCause_fns _ _ _

theorem mem_tblSet {α : Type} {t : Tbl α} {k : Nat} {v : α} {e : Nat × α} (h : e ∈ tblSet t k v) : e = (k, v) ∨ e ∈ t := by
  induction t with
  | nil => exact .inl (List.mem_singleton.mp h)
  | cons d r ih =>
    unfold tblSet at h
    split_ifs at h
    · exact (List.mem_cons.mp h).imp_right (List.mem_cons_of_mem _)
    · exact List.mem_cons.mp h
    · rcases List.mem_cons.mp h with rfl | h
      · exact .inr List.mem_cons_self
      · exact (ih h).imp_right (List.mem_cons_of_mem _)

theorem mem_of_tblFind {α : Type} {t : Tbl α} {k : Nat} {v : α} (h : tblFind t k = some v) : (k, v) ∈ t := by
  induction t with
  | nil => simp at h
  | cons d r ih =>
    obtain ⟨j, w⟩ := d
    unfold tblFind at h
    split_ifs at h with hj
    · simp_all
    · exact List.mem_cons_of_mem _ (ih h)

/-- A function without an entry has no operation under way. -/
theorem ops_fnOf {s : State} {p : DefOp → Prop} (h : ∀ e ∈ s.fns, ∀ o ∈ e.2.ops, p o) (f : Nat) : ∀ o ∈ (fnOf s f).ops, p o := by
  unfold fnOf tblGet
  cases hf : tblFind s.fns f with
  | none => simp
  | some w => exact h _ (mem_of_tblFind hf)

theorem peaceful_setFn {s : State} {f : Nat} {w : Fn} (h : Peaceful s) (ho : w.ops = (fnOf s f).ops)
    (hh : w.held = (fnOf s f).held) : Peaceful (setFn s f w) where
  decisions := h.decisions
  hatch := h.hatch
  strands := h.strands
  verdicts := h.verdicts
  instances := h.instances
  ops := by
    intro e he
    rcases mem_tblSet he with rfl | he
    · rw [ho]; exact ops_fnOf h.ops f
    · exact h.ops e he
  leaving := h.leaving
  held := by
    by_cases hf : f = 0
    · subst hf; rw [fnOf_setFn_same, hh]; exact h.held
    · rw [fnOf_setFn_other s w (Ne.symm hf)]; exact h.held
  bins := h.bins
  inWord := h.inWord
  finishing := h.finishing
  power := h.power

theorem peaceful_signal {s : State} (h : Peaceful s) (f v : Nat) : Peaceful (signal s f v) := by
  unfold signal
  dsimp only
  split_ifs
  · exact h
  all_goals exact peaceful_setFn h rfl rfl

theorem peaceful_noteStatus {s : State} (h : Peaceful s) (d : Nat) : Peaceful (noteStatus d s) := by
  unfold noteStatus raiseCause
  dsimp only
  have hset := peaceful_setFn (f := 0) (w := { fnOf s 0 with notice := true }) h rfl rfl
  split_ifs
  · exact h
  · exact hset
  · exact peaceful_signal hset 0 0

@[simp] theorem noteStatus_jobs (d : Nat) (s : State) : (noteStatus d s).jobs = s.jobs := by
  obtain ⟨x, hx⟩ := noteStatus_fns d s; rw [hx]
@[simp] theorem noteStatus_stones (d : Nat) (s : State) : (noteStatus d s).stones = s.stones := by
  obtain ⟨x, hx⟩ := noteStatus_fns d s; rw [hx]
@[simp] theorem noteStatus_power (d : Nat) (s : State) : (noteStatus d s).power = s.power := by
  obtain ⟨x, hx⟩ := noteStatus_fns d s; rw [hx]
@[simp] theorem noteStatus_lanyard (d : Nat) (s : State) : (noteStatus d s).lanyard = s.lanyard := by
  obtain ⟨x, hx⟩ := noteStatus_fns d s; rw [hx]

/-! ### What a job's start leaves as it was -/

section
variable {s : State} (h : Peaceful s)
include h

theorem peaceful_setJob (b : Job) : Peaceful (setJob s b) := { h with }

theorem peaceful_countFetch (f : Nat) : Peaceful (countFetch s f) := peaceful_setFn h rfl rfl

theorem peaceful_touchSession (c v : Nat) : Peaceful (touchSession s c v) := peaceful_setFn h rfl rfl

theorem peaceful_takeDescriptor (op : Nat) (g : Engine) (q : JobReq) : Peaceful (takeDescriptor s op g q) := by
  let j := jobRingOf (fnOf s q.fn) q.ring
  have hring : Peaceful (setFn s q.fn { fnOf s q.fn with
      job := tblSet (fnOf s q.fn).job q.ring { j with cons := (j.cons + 1) % 2 ^ j.sizeLog2 } }) := peaceful_setFn h rfl rfl
  have hfetched := peaceful_touchSession (peaceful_countFetch hring q.fn) q.fn j.session
  exact { hfetched with }

theorem peaceful_setFloor (f : Nat) (t : Tbl (Bytes × Bool)) : Peaceful (setFloor s f { floorOf s f with keyRegs := t }) := by
  have hbins : ∀ g, binsSettled s g → binsSettled (setFloor s f { floorOf s f with keyRegs := t }) g := by
    intro g hg
    by_cases hf : g = f
    · subst hf
      simpa [binsSettled, freeBins, instanceBytes, h.instances, starved, coresInService, servingCores] using hg
    · simpa [binsSettled, freeBins, instanceBytes, h.instances, starved, coresInService, servingCores,
        floorOf_setFloor_other _ _ hf] using hg
  exact { h with bins := fun g hg => hbins g (h.bins g hg) }

end

/-- What a descriptor's job holds when it joins the queue. -/
structure Fetched (b : Job) (n op : Nat) (g : Engine) (q : JobReq) : Prop where
  id : b.id = n
  opcode : b.opcode = op
  engine : b.engine = g
  req : b.req = q
  stage : b.stage = .queued
  own : b.own = none
  asks : b.asks = none
  sheaf : b.sheaf = none
  carried : b.carried = none
  stone : b.stone = none
  displaced : b.displaced = false

theorem takeDescriptor_jobs {s : State} (h : s.jobs = []) (op : Nat) (g : Engine) (q : JobReq) :
    ∃ b, (takeDescriptor s op g q).jobs = [b] ∧ Fetched b s.jobNo op g q := by
  have hjobs : ∃ b, (takeDescriptor s op g q).jobs = s.jobs ++ [b] ∧ Fetched b s.jobNo op g q :=
    ⟨_, rfl, by constructor <;> rfl⟩
  rwa [h] at hjobs

theorem jobOf_single {s : State} {b : Job} (h : s.jobs = [b]) : jobOf s b.id = some b := by simp [jobOf, h]

theorem setJob_single {s : State} {b r : Job} (h : s.jobs = [b]) (hr : r.id = b.id) : (setJob s r).jobs = [r] := by
  simp [setJob, h, hr]

/-! ### The scheduler with one job -/

/-- What the job's engine makes of it. -/
def startOn (s : State) (b : Job) : State :=
  match b.engine with
  | .thresher => startThresher s b
  | .flail => startFlail s b
  | .mill => startMill s b
  | .hand => startHand s b

theorem startCheck_of_noCheck {s : State} {b : Job} {n : Nat} (hj : jobOf s n = some b) (hs : b.stage ≠ .checking) :
    startCheck s n = s := by
  simp [startCheck, hj, hs]

/-- A host job that waits for nothing and passes its checks goes to its engine, and its message is read. -/
theorem tryStart_of_passing {s : State} {b : Job} {n : Nat} (hj : jobOf s n = some b) (hs : b.stage = .queued)
    (hw : mustWait s b = false) (ho : b.own = none) (hc : firstFail (jobChecks s b) = none) :
    tryStart s n = readSource (startOn s b) n := by
  simp [tryStart, hj, hs, hw, ho, hc, ownKeyFault, startOn] <;> rfl

/-- A running job takes a core up again only where a core runs slices of it. -/
theorem resumeSlice_of_running {s : State} {b : Job} {n : Nat} (hj : jobOf s n = some b)
    (h : b.onCore = true ∨ b.engine = .mill ∨ b.engine = .hand) : resumeSlice s n = s := by
  unfold resumeSlice
  simp only [hj]
  rcases h with h | h | h
  · simp [h]
  · simp [h]
  · simp [h]

theorem wakeGroups_of_noneWanting {s : State} (h : ∀ b ∈ s.jobs, wantsStone s b = false) : wakeGroups s = s := by
  simp [wakeGroups]
  intro b hb hw
  simp [h b hb] at hw

/-- Nothing gives way: no lattice job waits for a stone. -/
theorem displace_of_noneWanting {s : State} (h : ∀ b ∈ s.jobs, wantsStone s b = false) : displace s = s := by
  have hwanting : latticeWanting s = 0 := by
    simp only [latticeWanting, List.length_eq_zero_iff, List.filter_eq_nil_iff]
    intro b hb
    simp [h b hb]
  refine foldl_of_fixed fun _ _ => ?_
  unfold displaceOne
  split
  · simp [hwanting]
  · rfl

/-- The queues' entries, served in turn, are the one job's and the fallback's. -/
theorem serveEntries_single {s t : State} {b : Job} (hj : s.jobs = [b]) (hq : b.stage = .queued)
    (ht : serveEntry s (some b.id) = t) (hs : startFallback s = s) (hf : startFallback t = t) :
    (entries s).foldl serveEntry s = t := by
  have hqueue : ∀ k, queueOf s k = if min 3 b.queue = k then [b] else [] := by
    intro k
    by_cases hk : min 3 b.queue = k <;> simp [queueOf, hj, hq, hk, insertTurn]
  have hnone : ∀ x, serveEntry x none = startFallback x := fun _ => rfl
  have hcases : min 3 b.queue = 0 ∨ min 3 b.queue = 1 ∨ min 3 b.queue = 2 ∨ min 3 b.queue = 3 := by omega
  rcases hcases with hc | hc | hc | hc
  · simp [entries, hqueue, hc, hnone, hs, ht]
  · simp [entries, hqueue, hc, hnone, hs, ht]
  · simp [entries, hqueue, hc, hnone, hs, ht]
  · by_cases hturn : b.turn < s.flail.turn
    · simp [entries, hqueue, hc, hnone, hturn, hturn.not_ge, ht, hf]
    · simp [entries, hqueue, hc, hnone, hturn, Nat.le_of_not_lt hturn, hs, ht]

/-- The one job that a start leaves, on the engine that took it. -/
structure Running (r b : Job) : Prop where
  id : r.id = b.id
  opcode : r.opcode = b.opcode
  engine : r.engine = b.engine
  req : r.req = b.req
  stage : r.stage = .running
  own : r.own = none
  asks : r.asks = none
  sheaf : r.sheaf = none
  served : r.onCore = true ∨ r.engine = .mill ∨ r.engine = .hand

/-- The DMA reads of a job's message. -/
def withReads (s : State) (q : JobReq) : State :=
  { s with hostReads := s.hostReads ++ q.src.map (fun f =>
      { addr := f.addr, len := f.len, noSnoop := bit f.flags 0, relaxed := bit f.flags 1 }) }

theorem readSource_of_running {s : State} {r : Job} {n : Nat} (hj : jobOf s n = some r) (hs : r.stage = .running)
    (hh : r.sheaf = none) (hd : r.req.dmaFail = none) : readSource s n = withReads s r.req := by
  simp [readSource, hj, hs, hh, hd, withReads]

theorem peaceful_withReads {s : State} (h : Peaceful s) (q : JobReq) : Peaceful (withReads s q) := { h with }

/-- A device at rest takes the job up at once. -/
theorem startJobs_starts {u x : State} {b r : Job} (hp : Peaceful u) (hj : u.jobs = [b]) (hq : b.stage = .queued)
    (hw : mustWait u b = false) (ho : b.own = none) (hc : firstFail (jobChecks u b) = none) (hd : b.req.dmaFail = none)
    (hstart : startOn u b = setJob x r) (hx : Peaceful x) (hxr : (setJob x r).jobs = [r]) (hr : Running r b) :
    startJobs u = withReads (setJob x r) b.req := by
  have hread : readSource (setJob x r) b.id = withReads (setJob x r) b.req := by
    have hjr : jobOf (setJob x r) r.id = some r := jobOf_single hxr
    rw [hr.id] at hjr
    rw [readSource_of_running hjr hr.stage hr.sheaf (by rw [hr.req]; exact hd), hr.req]
  have htaken : jobOf (withReads (setJob x r) b.req) b.id = some r := by
    have hjr : jobOf (withReads (setJob x r) b.req) r.id = some r := jobOf_single hxr
    rwa [hr.id] at hjr
  have hserve : serveEntry u (some b.id) = withReads (setJob x r) b.req := by
    change resumeSlice (tryStart u b.id) b.id = _
    rw [tryStart_of_passing (jobOf_single hj) hq hw ho hc, hstart, hread, resumeSlice_of_running htaken hr.served]
  have hserved := serveEntries_single hj hq hserve (startFallback_of_peaceful hp)
    (startFallback_of_peaceful (peaceful_withReads (peaceful_setJob hx r) b.req))
  have hwants : ∀ c ∈ (withReads (setJob x r) b.req).jobs, wantsStone (withReads (setJob x r) b.req) c = false := by
    intro c hcm
    have hcr : c = r := by
      change c ∈ (setJob x r).jobs at hcm
      rw [hxr] at hcm
      exact List.mem_singleton.mp hcm
    simp [hcr, wantsStone, millQueued, hr.stage]
  have hcheck : (u.jobs.map (·.id)).foldl startCheck u = u := by
    simp [hj, startCheck_of_noCheck (jobOf_single hj) (by simp [hq])]
  unfold startJobs
  simp only [hcheck, hserved, displace_of_noneWanting hwants, wakeGroups_of_noneWanting hwants]

/-! ### The Thresher takes a job -/

theorem takeInvocation_rest (s : State) (i : Nat) :
    ∃ k w p, (takeInvocation s i).2 = { s with keys := k, wear := w, pair := p } ∧ p.leaving = s.pair.leaving := by
  unfold takeInvocation share rememberAcked
  cases tblFind s.keys i with
  | none => exact ⟨_, _, _, rfl, rfl⟩
  | some k =>
    dsimp only
    split_ifs <;> exact ⟨_, _, _, rfl, rfl⟩

theorem ivFor_rest (s : State) (b : Job) :
    ∃ k w p, (ivFor s b).2 = { s with keys := k, wear := w, pair := p } ∧ p.leaving = s.pair.leaving := by
  unfold ivFor
  dsimp only
  split_ifs
  · exact takeInvocation_rest s _
  · exact ⟨_, _, _, rfl, rfl⟩
  · exact ⟨_, _, _, rfl, rfl⟩

theorem openFor_rest (s : State) (b : Job) (iv : Bytes) : ∃ c, openFor s b iv = { s with contexts := c } := by
  unfold openFor setContext
  cases b.context with
  | none => exact ⟨_, rfl⟩
  | some c =>
    dsimp only
    cases tblFind s.contexts c with
    | none => exact ⟨_, rfl⟩
    | some x =>
      dsimp only
      split_ifs <;> exact ⟨_, rfl⟩

theorem peaceful_openFor {s : State} (h : Peaceful s) (b : Job) (iv : Bytes) : Peaceful (openFor s b iv) := by
  obtain ⟨c, hc⟩ := openFor_rest s b iv
  rw [hc]
  exact { h with }

/-- The state in which a job's cores are taken: its invocation is taken and its message open. -/
def opened (s : State) (b : Job) : State := openFor (ivFor s b).2 b (ivFor s b).1

theorem opened_rest (s : State) (b : Job) :
    ∃ k w p c, opened s b = { s with keys := k, wear := w, pair := p, contexts := c } ∧ p.leaving = s.pair.leaving := by
  obtain ⟨k, w, p, hiv, hp⟩ := ivFor_rest s b
  obtain ⟨c, hc⟩ := openFor_rest (ivFor s b).2 b (ivFor s b).1
  exact ⟨k, w, p, c, by rw [opened, hc, hiv], hp⟩

theorem peaceful_opened {s : State} (h : Peaceful s) (b : Job) : Peaceful (opened s b) := by
  obtain ⟨k, w, p, c, ho, hp⟩ := opened_rest s b
  rw [ho]
  exact { h with leaving := hp.trans h.leaving }

theorem opened_jobs (s : State) (b : Job) : (opened s b).jobs = s.jobs := by
  obtain ⟨k, w, p, c, ho, -⟩ := opened_rest s b
  rw [ho]

theorem opened_twin (s : State) (b : Job) : (opened s b).twin = s.twin := by
  obtain ⟨k, w, p, c, ho, -⟩ := opened_rest s b
  rw [ho]

theorem jobCores_opened (s : State) (b c : Job) : jobCores (opened s b) c = jobCores s c := by
  simp [jobCores, opened_twin]

theorem idleCores_opened (s : State) (b : Job) (f : Nat) : idleCores (opened s b) f = idleCores s f := by
  obtain ⟨k, w, p, c, ho, -⟩ := opened_rest s b
  rw [ho]
  rfl

theorem jobCores_eq (s : State) (b : Job) : jobCores s b = 1 ∨ jobCores s b = 2 := by
  unfold jobCores
  split_ifs <;> simp

section
variable {s : State} {f n : Nat} {idle : List Nat} {key : Bytes × Bool} (hn : n ≤ idle.length)
include hn

theorem takeCores_length (h : n = 1 ∨ n = 2) : (takeCores s f idle n key).1.length = n := by
  rcases h with rfl | rfl
  · simp [takeCores, hn.not_gt, hn]
  · have hrest : ofLe (randomBytes s 1) % (idle.length - 1) < idle.length - 1 := Nat.mod_lt _ (by omega)
    have hlt : ofLe (randomBytes s 1) % (idle.length - 1) + 1 < idle.length := by omega
    have hone : 1 ≤ idle.length := by omega
    simp [takeCores, hn.not_gt, hone, List.getElem?_eq_getElem hlt]

theorem takeCores_rest : ∃ g t, (takeCores s f idle n key).2 =
    setFloor { s with rng := g } f { floorOf s f with keyRegs := t } := by
  simp only [takeCores, hn.not_gt, if_false]
  split_ifs
  · exact ⟨_, _, rfl⟩
  · exact ⟨_, _, rfl⟩

end

theorem withKey_rest (s : State) (b : Job) :
    ∃ i c k l, withKey s b = { b with keyIndex := i, custody := c, key := k, loadedAt := l } := by
  unfold withKey
  cases keyAt s b.req.desc.key with
  | ok k =>
    dsimp only
    split_ifs
    · exact ⟨_, _, _, _, rfl⟩
    · exact ⟨_, _, _, _, rfl⟩
  | error e => exact ⟨_, _, _, _, rfl⟩

/-- What a message is depends on the contexts and on these parts of its job. -/
theorem messageOf_congr {s t : State} {b r : Job} (hs : t.contexts = s.contexts) (hc : r.carried = b.carried)
    (hx : r.context = b.context) (ho : r.opcode = b.opcode) (hq : r.req = b.req) (hi : r.iv = b.iv) :
    messageOf t r = messageOf s b := by
  simp [messageOf, hs, hc, hx, ho, hq, hi]

/-- A Thresher job starts on cores of its awake floor, with its key and IV. -/
theorem startThresher_starts {s : State} {b : Job} (hp : Peaceful s) (hj : s.jobs = [b]) (ho : b.own = none) (ha : b.asks = none)
    (hh : b.sheaf = none) (hf : (floorOf s b.floor).fenced = false) (hw : (floorOf s b.floor).awake = true)
    (hs : starved s b.floor = false) (hc : coresInService s b.floor ≠ 0) (hn : jobCores s b ≤ freeCores s b.floor) :
    ∃ x r, startThresher s b = setJob x r ∧ Peaceful x ∧ x.jobs = [b] ∧ Running r b ∧ x.contexts = (opened s b).contexts ∧
      r.onCore = true ∧ r.iv = (ivFor s b).1 ∧ r.key = (withKey s b).key ∧ r.twinned = (s.twin || (withKey s b).custody) ∧
      r.cores.length = jobCores s b ∧ r.context = b.context ∧ r.carried = b.carried := by
  obtain ⟨i, c, k, l, hk⟩ := withKey_rest s b
  have hidle : jobCores s b ≤ (idleCores s b.floor).length := hn
  obtain ⟨g, t, hrest⟩ := takeCores_rest (s := opened s b) (f := b.floor) (key := (k, c)) hidle
  have hlength := takeCores_length (s := opened s b) (f := b.floor) (key := (k, c)) hidle (jobCores_eq s b)
  have hstart : startThresher s b = setJob (takeCores (opened s b) b.floor (idleCores s b.floor) (jobCores s b) (k, c)).2
      { withKey s b with
        stage := .running, iv := (ivFor s b).1, twinned := s.twin || c, since := (takeCores (opened s b) b.floor
          (idleCores s b.floor) (jobCores s b) (k, c)).2.now, onCore := true
        cores := (takeCores (opened s b) b.floor (idleCores s b.floor) (jobCores s b) (k, c)).1
        rest := dataLen (takeCores (opened s b) b.floor (idleCores s b.floor) (jobCores s b) (k, c)).2 b.opcode b.req.desc } := by
    have htwin : (takeCores (opened s b) b.floor (idleCores s b.floor) (jobCores s b) (k, c)).2.twin = s.twin := by
      rw [hrest]
      exact opened_twin s b
    rw [← htwin, ← idleCores_opened s b, ← jobCores_opened s b]
    simp [startThresher, hf, hs, hc, hw, hn.not_gt, hk]
    rfl
  refine ⟨_, _, hstart, ?_, ?_, ?_, ?_, rfl, rfl, rfl, by rw [hk], hlength, by rw [hk], by rw [hk]⟩
  · rw [hrest]
    exact peaceful_setFloor (s := { opened s b with rng := g }) { peaceful_opened hp b with } b.floor t
  · rw [hrest]
    exact (opened_jobs s b).trans hj
  · constructor <;> simp [hk, ho, ha, hh]
  · rw [hrest]
    rfl

/-! ### The Flail takes a job -/

/-- A Flail job starts on the first free core of its kind. -/
theorem startFlail_starts {s : State} {b : Job} {c : Nat} {rest : List Nat} (hp : Peaceful s) (hj : s.jobs = [b])
    (ho : b.own = none) (ha : b.asks = none) (hh : b.sheaf = none)
    (hc : freeFlail s (onSha2 (flailAlg s b) && b.opcode == 0x0301) = c :: rest) :
    ∃ x r, startFlail s b = setJob x r ∧ Peaceful x ∧ x.jobs = [b] ∧ Running r b ∧ r.onCore = true ∧ r.core = some c ∧
      r.restarted = restarts s b ∧ r.carried = some (messageOf (openFor s b []) b) := by
  refine ⟨openFor s b [], { b with stage := .running, since := (openFor s b []).now, restarted := restarts s b
                                   rest := b.req.desc.totalLen, onCore := true, core := some c
                                   carried := some (messageOf (openFor s b []) b) },
    by simp [startFlail, hc], peaceful_openFor hp b [], ?_, ?_, rfl, rfl, rfl, rfl⟩
  · obtain ⟨x, hx⟩ := openFor_rest s b []
    rw [hx]
    exact hj
  · constructor <;> simp [ho, ha, hh]

/-! ### The Mill takes a job, and a check stone its result -/

theorem firstFail_none_iff {l : List (Bool × Fail)} : firstFail l = none ↔ ∀ c ∈ l, c.1 = false := by
  simp [firstFail]

theorem jobRows_engineOf : ∀ r ∈ jobRows, engineOf r.1 = some r.2.1 := by
  unfold jobRows
  repeat refine List.forall_mem_cons.mpr ⟨rfl, ?_⟩
  exact List.forall_mem_nil _

/-- An Option N unit takes no lattice job. -/
theorem latticeOp_of_checks {s : State} {b : Job} (he : engineOf b.opcode = some .mill) (hm : b.engine = .mill)
    (hc : firstFail (jobChecks s b) = none) (hl : latticeOp b.opcode = true) : s.ident.optionN = false := by
  have hfails : ∀ c ∈ millChecks s b.opcode b.req, c.1 = false := by
    have hnone := firstFail_none_iff.mp hc
    simpa [jobChecks, he, hm] using hnone
  have hlattice := hfails (ends (s.ident.optionN && latticeOp b.opcode) eState (deviceStatus s)) (by simp [millChecks])
  simpa [ends, hl] using hlattice

/-- The stones outside `taken` are idle and hold no job. -/
def StonesRest (s : State) (taken : List Nat) : Prop :=
  ∀ k < 64, k ∉ taken → (stoneOf s k).state = .idle ∧ (stoneOf s k).job = none

theorem stoneFree_of_rest {s : State} {taken : List Nat} {k : Nat} (h : StonesRest s taken) (hk : k < 64) (ht : k ∉ taken)
    (b : Job) : stoneFree s b k = true := by
  obtain ⟨hstate, hjob⟩ := h k hk ht
  simp [stoneFree, hstate, hjob]

/-- A stone at rest can run a job of its kind where no group is fenced. -/
theorem canRun_of_rest {s : State} {taken : List Nat} {k : Nat} {b : Job} (h : StonesRest s taken) (hk : k < 64) (ht : k ∉ taken)
    (hg : s.groupFences = []) (hl : latticeStone s k = latticeOp b.opcode) : canRun s b k = true := by
  obtain ⟨hstate, -⟩ := h k hk ht
  cases hop : latticeOp b.opcode <;> simp [canRun, hg, hstate, hop, hl]

theorem latticeStone_of_low {s : State} {k : Nat} (hk : k < 56) : latticeStone s k = false := by
  simp [latticeStone, hk]

theorem latticeStone_of_high {s : State} {k : Nat} (hn : s.ident.optionN = false) (hk : 56 ≤ k) : latticeStone s k = true := by
  simp [latticeStone, hn, hk]

/-- Of the stones that a job can run on, one apart from `k` is at rest, in another group unless the job is lattice work. -/
theorem exists_stone {s : State} {b : Job} {k : Nat} (hn : latticeOp b.opcode = true → s.ident.optionN = false) :
    ∃ m < 64, m ≠ k ∧ latticeStone s m = latticeOp b.opcode ∧ (latticeOp b.opcode = true ∨ groupOf m ≠ groupOf k) := by
  cases hop : latticeOp b.opcode with
  | true =>
    have hlattice := hn hop
    by_cases hk : k = 56
    · exact ⟨57, by omega, by omega, latticeStone_of_high hlattice (by omega), .inl rfl⟩
    · exact ⟨56, by omega, Ne.symm hk, latticeStone_of_high hlattice (by omega), .inl rfl⟩
  | false =>
    by_cases hk : groupOf k = 0
    · exact ⟨8, by omega, by rintro rfl; simp [groupOf] at hk, latticeStone_of_low (by omega), .inr (by rw [hk]; simp [groupOf])⟩
    · exact ⟨0, by omega, by rintro rfl; simp [groupOf] at hk, latticeStone_of_low (by omega),
        .inr (by simpa [groupOf] using Ne.symm hk)⟩

/-- A Mill job starts on a stone at rest. -/
theorem startMill_starts {s : State} {b : Job} (hp : Peaceful s) (hj : s.jobs = [b]) (hst : b.stone = none) (hm : b.engine = .mill)
    (ho : b.own = none) (ha : b.asks = none) (hh : b.sheaf = none) (hr : StonesRest s []) (hg : s.groupFences = [])
    (hn : latticeOp b.opcode = true → s.ident.optionN = false) :
    ∃ x r k, startMill s b = setJob x r ∧ Peaceful x ∧ (setJob x r).jobs = [r] ∧ Running r b ∧ k < 64 ∧ r.stone = some k ∧
      r.check = b.check ∧ r.key = (withKey s b).key ∧ (stoneOf x k).state = .busy ∧ (stoneOf x k).job = some b.id ∧
      StonesRest x [k] ∧ x.groupFences = s.groupFences ∧ x.ident = s.ident := by
  obtain ⟨m, hm64, -, hlm, -⟩ := exists_stone (k := 64) hn
  have hfound : (stoneNumbers.find? (fun n => canRun s b n && stoneFree s b n)).isSome := by
    refine List.find?_isSome.mpr ⟨m, List.mem_range.mpr hm64, ?_⟩
    simp [canRun_of_rest hr hm64 List.not_mem_nil hg hlm, stoneFree_of_rest hr hm64 List.not_mem_nil b]
  obtain ⟨k, hk⟩ := Option.isSome_iff_exists.mp hfound
  have hk64 : k < 64 := List.mem_range.mp (List.mem_of_find?_eq_some hk)
  obtain ⟨i, c, key, l, hkey⟩ := withKey_rest s b
  let y := setJob (assignStone s b k) { b with stone := some k }
  let w := withKey s b
  have hpick : pickStone s b = (some k, y) := by simp [pickStone, hst, hk, y]
  have hwy : withKey y b = w := rfl
  have hstart : startMill s b = setJob (takeStone y w k w.key (srcData w.req))
      { w with stone := some k, stage := .running, since := s.now } := by
    simp only [startMill, hpick, hwy]
    rfl
  have hjobs : (takeStone y w k w.key (srcData w.req)).jobs = [{ b with stone := some k }] := by
    have hassigned : (assignStone s b k).jobs = [b] := hj
    exact setJob_single hassigned rfl
  refine ⟨_, _, k, hstart, ?_, setJob_single hjobs (by simp [w, hkey]), ?_, hk64, rfl, by simp [w, hkey], rfl, ?_, ?_, ?_, rfl, rfl⟩
  · exact { hp with }
  · constructor <;> simp [w, hkey, ho, ha, hh, hm]
  · simp [takeStone]
  · simp [takeStone, w, hkey]
  · intro j hj64 hjk
    have hne : j ≠ k := by simpa using hjk
    have hsame : stoneOf (takeStone y w k w.key (srcData w.req)) j = stoneOf s j := by
      rw [takeStone, stoneOf_setStone_other _ _ hne]
      exact stoneOf_setStone_other s _ hne
    rw [hsame]
    exact hr j hj64 List.not_mem_nil

/-- Steps that each write at most the stone they are for leave every other stone, and all else, as it was. -/
theorem foldl_setStone {f : State → Nat → State} (hf : ∀ s n, (∃ v, f s n = setStone s n v) ∨ f s n = s) (l : List Nat)
    (s : State) :
    (∃ t, l.foldl f s = { s with stones := t }) ∧ ∀ m, m ∉ l → stoneOf (l.foldl f s) m = stoneOf s m := by
  induction l generalizing s with
  | nil => exact ⟨⟨s.stones, rfl⟩, fun m _ => rfl⟩
  | cons n l ih =>
    rw [List.foldl_cons]
    rcases hf s n with ⟨v, hv⟩ | hv
    · obtain ⟨⟨t, ht⟩, hother⟩ := ih (setStone s n v)
      rw [hv]
      refine ⟨⟨t, ht⟩, fun m hm => ?_⟩
      rw [List.mem_cons, not_or] at hm
      rw [hother m hm.2, stoneOf_setStone_other s v hm.1]
    · rw [hv]
      exact ⟨(ih s).1, fun m hm => (ih s).2 m fun hml => hm (List.mem_cons_of_mem n hml)⟩

theorem freeStones_setStone (s : State) (b : Job) :
    (∃ t, freeStones s b = { s with stones := t }) ∧ ∀ m, m ∉ stonesOf b → stoneOf (freeStones s b) m = stoneOf s m := by
  refine foldl_setStone (fun s n => ?_) (stonesOf b) s
  dsimp only [freeStone, wipeStone, unassign]
  split_ifs
  · exact .inl ⟨_, rfl⟩
  · exact .inl ⟨_, rfl⟩
  · exact .inl ⟨_, rfl⟩
  · exact .inr rfl

theorem abortStones_setStone (s : State) (b : Job) :
    (∃ t, abortStones s b = { s with stones := t }) ∧ ∀ m, m ∉ stonesOf b → stoneOf (abortStones s b) m = stoneOf s m := by
  refine foldl_setStone (fun s n => ?_) (stonesOf b) s
  dsimp only [wipeStone, unassign]
  split_ifs
  · exact .inl ⟨_, rfl⟩
  · exact .inl ⟨_, rfl⟩
  · exact .inr rfl

/-- With no job in the queues the fallback's entry is the only one. -/
theorem serveEntries_noneQueued {s : State} (h : ∀ k, queueOf s k = []) (hf : startFallback s = s) :
    (entries s).foldl serveEntry s = s := by
  simp [entries, h, serveEntry, hf]

theorem queueOf_checking {s : State} {c : Job} (hj : s.jobs = [c]) (hs : c.stage = .checking) (k : Nat) : queueOf s k = [] := by
  simp [queueOf, hj, hs]

theorem wantsStone_of_checkRuns {s : State} {c : Job} (h : checkRuns s c = true) : wantsStone s c = false := by
  have hs : c.stage = .checking := by
    simp only [checkRuns, Bool.and_eq_true, beq_iff_eq] at h
    exact h.1
  simp [wantsStone, millQueued, hs, h]

/-- Of the stones that may check the job's result, all at rest, one is taken. -/
theorem pickCheck_picks {s : State} {c : Job} {k : Nat} (hck : c.check = none) (hr : StonesRest s [k]) (hg : s.groupFences = [])
    (hn : latticeOp c.opcode = true → s.ident.optionN = false) :
    ∃ j, pickCheck s c k = (some j, draw s) ∧ mayCheck s c k j = true := by
  let free := stoneNumbers.filter (fun m => mayCheck s c k m && stoneFree s c m)
  obtain ⟨m, hm64, hmk, hlm, hgm⟩ := exists_stone (k := k) hn
  have hmt : m ∉ [k] := by simpa using hmk
  have hmem : m ∈ free := by
    refine List.mem_filter.mpr ⟨List.mem_range.mpr hm64, ?_⟩
    simp [mayCheck, canRun_of_rest hr hm64 hmt hg hlm, stoneFree_of_rest hr hm64 hmt c, hmk, hgm]
  have hlt : ofLe (randomBytes s 1) % free.length < free.length := Nat.mod_lt _ (List.length_pos_of_mem hmem)
  have hne : free.isEmpty = false := List.isEmpty_eq_false_iff_exists_mem.mpr ⟨m, hmem⟩
  have hpick : pickCheck s c k = (free[ofLe (randomBytes s 1) % free.length]?, draw s) := by
    unfold pickCheck
    simp only [hck, Option.filter_none, Option.toList_none, List.foldl_nil]
    exact if_pos (by rw [hne]; rfl)
  refine ⟨free[ofLe (randomBytes s 1) % free.length], by rw [hpick, List.getElem?_eq_getElem hlt], ?_⟩
  have hmay := (List.mem_filter.mp (List.getElem_mem hlt)).2
  exact (Bool.and_eq_true_iff.mp hmay).1

theorem mayCheck_group {s : State} {c : Job} {k j : Nat} (h : mayCheck s c k j = true) :
    latticeOp c.opcode = true ∨ groupOf j ≠ groupOf k := by
  simp only [mayCheck, Bool.and_eq_true, Bool.or_eq_true, bne_iff_ne] at h
  exact h.2

theorem checkRuns_of_busy {s : State} {c : Job} {j : Nat} (hs : c.stage = .checking) (hc : c.check = some j)
    (hjob : (stoneOf s j).job = some c.id) (hstate : (stoneOf s j).state = .busy) : checkRuns s c = true := by
  simp [checkRuns, hs, hc, hjob, hstate]

theorem startCheck_picks {s : State} {c : Job} {j k : Nat} (hj : jobOf s c.id = some c) (hm : c.engine = .mill)
    (hs : c.stage = .checking) (hst : c.stone = some k) (hck : c.check = none) (hpick : pickCheck s c k = (some j, draw s)) :
    startCheck s c.id = setJob (takeStone (draw s) c j (checkKey (draw s) c) (c.out ++ srcData c.req))
      { c with check := some j, since := s.now } := by
  have hnone : checkRuns s c = false := by simp [checkRuns, hck]
  have hgo : ¬ (c.engine != .mill || c.stage != .checking || checkRuns s c) = true := by simp [hm, hs, hnone]
  have hstone : c.stone.getD 64 = k := by rw [hst]; rfl
  simp only [startCheck, hj]
  rw [if_neg hgo, hstone, hpick]
  rfl

/-- A result to be checked goes to a check stone at rest. -/
theorem startJobs_checks {s : State} {c : Job} {k : Nat} (hp : Peaceful s) (hj : s.jobs = [c]) (hm : c.engine = .mill)
    (hs : c.stage = .checking) (hst : c.stone = some k) (hck : c.check = none) (hr : StonesRest s [k]) (hg : s.groupFences = [])
    (hn : latticeOp c.opcode = true → s.ident.optionN = false) :
    ∃ j t, Peaceful (startJobs s) ∧ (startJobs s).jobs = [{ c with check := some j, since := t }] ∧
      checkRuns (startJobs s) { c with check := some j, since := t } = true ∧
      (latticeOp c.opcode = true ∨ groupOf j ≠ groupOf k) := by
  obtain ⟨j, hpick, hmay⟩ := pickCheck_picks hck hr hg hn
  let x := takeStone (draw s) c j (checkKey (draw s) c) (c.out ++ srcData c.req)
  let d := { c with check := some j, since := (draw s).now }
  have hx : Peaceful x := { hp with }
  have hxd : (setJob x d).jobs = [d] := setJob_single (show x.jobs = [c] from hj) rfl
  have hstone : stoneOf (setJob x d) j = { stoneOf (draw s) j with
      state := .busy, job := some c.id, custody := c.custody, since := s.now, ram := c.out ++ srcData c.req
      keyReg := checkKey (draw s) c, mult := Config.multiplier c.opcode (checkKey (draw s) c) (c.out ++ srcData c.req) } :=
    stoneOf_setStone_same (draw s) j _
  have hruns : checkRuns (setJob x d) d = true := checkRuns_of_busy (j := j) hs rfl (by rw [hstone]) (by rw [hstone])
  have hcheck : (s.jobs.map (·.id)).foldl startCheck s = setJob x d := by
    rw [hj]
    exact startCheck_picks (jobOf_single hj) hm hs hst hck hpick
  have hserved := serveEntries_noneQueued (queueOf_checking hxd hs) (startFallback_of_peaceful (peaceful_setJob hx d))
  have hwants : ∀ b ∈ (setJob x d).jobs, wantsStone (setJob x d) b = false := by
    intro b hb
    rw [hxd] at hb
    rw [List.mem_singleton.mp hb]
    exact wantsStone_of_checkRuns hruns
  have hstarted : startJobs s = setJob x d := by
    unfold startJobs
    simp only [hcheck, hserved, displace_of_noneWanting hwants, wakeGroups_of_noneWanting hwants]
  rw [hstarted]
  exact ⟨j, _, peaceful_setJob hx d, hxd, hruns, mayCheck_group hmay⟩

/-! ### A Hand's document stands while the engines work for it -/

/-- Work of the device for a Hand: a job of an engine that no descriptor brought. -/
structure DeviceWork (b : Job) : Prop where
  own : b.own.isSome = true
  engine : b.engine = .flail ∨ b.engine = .mill
  context : b.context = none
  sheaf : b.sheaf = none
  dma : b.req.dmaFail = none

/-- Job `n` is a Hand's, running; every other job is work of the device, and later ones have later numbers. Power and the debug
port's halts are as given. -/
structure HandStands (n : Nat) (r : Job) (p : Power) (l : Lanyard) (s : State) : Prop where
  job : jobOf s n = some r
  others : ∀ b ∈ s.jobs, b = r ∨ b.id ≠ n ∧ DeviceWork b
  running : r.stage = .running
  hand : r.engine = .hand
  later : n < s.jobNo
  power : s.power = p
  lanyard : s.lanyard = l

theorem jobOf_id {s : State} {n : Nat} {b : Job} (h : jobOf s n = some b) : b.id = n := by
  simpa using List.find?_some h

theorem jobOf_mem {s : State} {n : Nat} {b : Job} (h : jobOf s n = some b) : b ∈ s.jobs := List.mem_of_find?_eq_some h

theorem jobOf_setJob_other {s : State} {n : Nat} {c : Job} (h : c.id ≠ n) : jobOf (setJob s c) n = jobOf s n := by
  have hid : ∀ b : Job, ((if b.id == c.id then c else b).id == n) = (b.id == n) := by
    intro b
    by_cases hb : b.id = c.id
    · simp [hb]
    · simp [hb]
  unfold jobOf setJob
  induction s.jobs with
  | nil => rfl
  | cons b bs ih =>
    rw [List.map_cons, List.find?_cons, List.find?_cons, hid b]
    by_cases hb : b.id = n
    · simp [hb, Ne.symm h]
    · simp only [beq_eq_false_iff_ne.mpr hb]
      exact ih

section
variable {n : Nat} {r : Job} {p : Power} {l : Lanyard} {s : State}

theorem HandStands.setJob (h : HandStands n r p l s) {c : Job} (hid : c.id ≠ n) (hc : DeviceWork c) :
    HandStands n r p l (setJob s c) :=
  { h with
    job := (jobOf_setJob_other hid).trans h.job
    others := by
      intro b hb
      obtain ⟨a, ha, rfl⟩ := List.mem_map.mp hb
      split
      · exact .inr ⟨hid, hc⟩
      · exact h.others a ha }

theorem HandStands.setStones (h : HandStands n r p l s) (t : Tbl Stone) : HandStands n r p l { s with stones := t } := { h with }

theorem HandStands.setStone (h : HandStands n r p l s) (k : Nat) (v : Stone) : HandStands n r p l (setStone s k v) := { h with }

theorem HandStands.draw (h : HandStands n r p l s) : HandStands n r p l (draw s) := { h with }

/-- A job with another number is work of the device. -/
theorem HandStands.other (h : HandStands n r p l s) {b : Job} (hb : b ∈ s.jobs) (hne : b ≠ r) : b.id ≠ n ∧ DeviceWork b :=
  (h.others b hb).resolve_left hne

theorem HandStands.ne_of_stage (h : HandStands n r p l s) {b : Job} (hs : b.stage ≠ .running) : b ≠ r :=
  fun hbr => hs (hbr ▸ h.running)

theorem HandStands.ne_of_engine (h : HandStands n r p l s) {b : Job} (hs : b.engine ≠ .hand) : b ≠ r :=
  fun hbr => hs (hbr ▸ h.hand)

theorem HandStands.freeStones (h : HandStands n r p l s) (b : Job) : HandStands n r p l (freeStones s b) := by
  obtain ⟨⟨t, ht⟩, -⟩ := freeStones_setStone s b
  exact ht ▸ h.setStones t

theorem HandStands.abortStones (h : HandStands n r p l s) (b : Job) : HandStands n r p l (abortStones s b) := by
  obtain ⟨⟨t, ht⟩, -⟩ := abortStones_setStone s b
  exact ht ▸ h.setStones t

theorem HandStands.unassigned (h : HandStands n r p l s) (ks : List Nat) : HandStands n r p l (ks.foldl unassign s) :=
  List.foldlRecOn ks unassign h fun _ hs _ _ => { hs with }

theorem HandStands.pickStone (h : HandStands n r p l s) {b : Job} (hid : b.id ≠ n) (hb : DeviceWork b) :
    HandStands n r p l (pickStone s b).2 := by
  have hassign : ∀ t k m, HandStands n r p l t → HandStands n r p l (Machine.setJob (assignStone t b k) { b with stone := m }) :=
    fun t k m ht => (ht.setStone k _).setJob hid { hb with }
  have hnone : ∀ t, HandStands n r p l t → HandStands n r p l (Machine.setJob t { b with stone := none }) :=
    fun t ht => ht.setJob hid { hb with }
  have hu := h.unassigned b.stone.toList
  unfold Machine.pickStone
  split
  · exact h
  dsimp only
  split
  · exact hassign _ _ _ hu
  split
  · exact hassign _ _ _ hu
  · exact hnone _ hu

theorem HandStands.pickCheck (h : HandStands n r p l s) {b : Job} (k : Nat) (hid : b.id ≠ n) (hb : DeviceWork b) :
    HandStands n r p l (pickCheck s b k).2 := by
  have hu := h.unassigned b.check.toList
  unfold Machine.pickCheck
  split
  · exact h
  dsimp only
  split
  · exact hu.draw
  split
  · exact (hu.setStone _ _).setJob hid { hb with }
  · exact hu.setJob hid { hb with }

theorem HandStands.startCheck (h : HandStands n r p l s) (k : Nat) : HandStands n r p l (startCheck s k) := by
  unfold Machine.startCheck
  split
  · exact h
  next b hj =>
  split_ifs with hgo
  · exact h
  have hstage : b.stage = .checking := by
    by_contra hs
    simp [hs] at hgo
  obtain ⟨hid, hb⟩ := h.other (jobOf_mem hj) (h.ne_of_stage (by simp [hstage]))
  have hp := h.pickCheck (b.stone.getD 64) hid hb
  split
  next t ht => rw [ht] at hp; exact hp
  next m t ht =>
    rw [ht] at hp
    exact (hp.setStone m _).setJob hid { hb with }

theorem HandStands.startMill (h : HandStands n r p l s) {b : Job} (hid : b.id ≠ n) (hb : DeviceWork b) :
    HandStands n r p l (startMill s b) := by
  have hp := h.pickStone hid hb
  obtain ⟨i, c, k, t, hk⟩ := withKey_rest (Machine.pickStone s b).2 b
  unfold Machine.startMill
  split
  next t ht => rw [ht] at hp; exact hp
  next m t ht =>
    rw [ht] at hp hk
    dsimp only
    dsimp only at hk
    rw [hk]
    exact (hp.setStone m _).setJob hid { hb with }

theorem HandStands.startFlail (h : HandStands n r p l s) {b : Job} (hid : b.id ≠ n) (hb : DeviceWork b) :
    HandStands n r p l (startFlail s b) := by
  have hopen : openFor s b [] = s := by simp [openFor, hb.context]
  unfold Machine.startFlail
  split
  · exact h
  · dsimp only
    rw [hopen]
    exact h.setJob hid { hb with }

theorem HandStands.readSource (h : HandStands n r p l s) {k : Nat} (hk : k ≠ n) : HandStands n r p l (readSource s k) := by
  unfold Machine.readSource
  split
  · exact h
  next b hj =>
  have hid : b.id ≠ n := by rw [jobOf_id hj]; exact hk
  have hne : b ≠ r := fun hbr => hid (hbr ▸ jobOf_id h.job)
  obtain ⟨-, hb⟩ := h.other (jobOf_mem hj) hne
  split_ifs
  · exact h
  · dsimp only
    rw [hb.dma]
    exact { h with }

theorem HandStands.tryStart (h : HandStands n r p l s) (k : Nat) : HandStands n r p l (tryStart s k) := by
  unfold Machine.tryStart
  split
  · exact h
  next b hj =>
  split
  next => exact h
  next hwait =>
  have hstage : b.stage = .queued := by
    by_contra hs
    simp [hs] at hwait
  obtain ⟨hid, hb⟩ := h.other (jobOf_mem hj) (h.ne_of_stage (by simp [hstage]))
  have hk : k ≠ n := by rwa [jobOf_id hj] at hid
  split
  · exact (h.freeStones b).setJob hid { hb with }
  simp only [hb.own, if_true]
  rcases hb.engine with he | he
  · simp only [he]
    exact (h.startFlail hid hb).readSource hk
  · simp only [he]
    exact (h.startMill hid hb).readSource hk

theorem HandStands.resumeSlice (h : HandStands n r p l s) (k : Nat) : HandStands n r p l (resumeSlice s k) := by
  unfold Machine.resumeSlice
  split
  · exact h
  next b hj =>
  split
  · exact h
  by_cases hbr : b = r
  · rw [hbr, h.hand]
    exact h
  obtain ⟨hid, hb⟩ := h.other (jobOf_mem hj) hbr
  rcases hb.engine with he | he
  · simp only [he]
    split
    · exact h.setJob hid { hb with engine := .inl rfl }
    · exact h
  · simp only [he]
    exact h

theorem HandStands.serveEntry (h : HandStands n r p l s) (e : Option Nat) : HandStands n r p l (serveEntry s e) := by
  cases e with
  | none =>
    unfold Machine.serveEntry startFallback
    dsimp only
    split_ifs
    · exact { h with }
    · exact h
  | some k => exact (h.tryStart k).resumeSlice k

theorem HandStands.displaceOne (h : HandStands n r p l s) : HandStands n r p l (displaceOne s) := by
  unfold Machine.displaceOne
  split
  next b hj =>
    have hmill : b.engine = .mill := by
      have hd := List.find?_some hj
      simp only [displaceable, Bool.and_eq_true, beq_iff_eq] at hd
      tauto
    obtain ⟨hid, hb⟩ := h.other (List.mem_of_find?_eq_some hj) (h.ne_of_engine (by simp [hmill]))
    split_ifs
    · exact (h.abortStones b).setJob hid { hb with }
    · exact h
  next => exact h

theorem HandStands.wakeGroups (h : HandStands n r p l s) : HandStands n r p l (wakeGroups s) := by
  unfold Machine.wakeGroups
  split_ifs
  · exact h
  refine List.foldlRecOn _ _ h fun t ht g _ => ?_
  dsimp only
  split_ifs
  · exact ht
  split
  · exact { ht with }
  · exact ht

/-- The scheduler starts the device's work around the Hand's job. -/
theorem HandStands.startJobs (h : HandStands n r p l s) : HandStands n r p l (startJobs s) := by
  have hchecked : HandStands n r p l ((s.jobs.map (·.id)).foldl Machine.startCheck s) :=
    List.foldlRecOn _ _ h fun _ ht k _ => ht.startCheck k
  have hserved := fun es => List.foldlRecOn (motive := HandStands n r p l) es Machine.serveEntry hchecked
    fun _ ht e _ => ht.serveEntry e
  have hdisplaced := List.foldlRecOn (motive := HandStands n r p l) (List.range 8) (fun s _ => Machine.displaceOne s)
    (hserved (entries ((s.jobs.map (·.id)).foldl Machine.startCheck s))) fun _ ht _ _ => ht.displaceOne
  exact hdisplaced.wakeGroups

theorem HandStands.askWork (h : HandStands n r p l s) {w : OwnNeed} (he : w.engine = .flail ∨ w.engine = .mill) :
    HandStands n r p l (askWork s w) :=
  { h with
    job := by
      have hj : s.jobs.find? (fun b => b.id == n) = some r := h.job
      simp [jobOf, Machine.askWork, List.find?_append, hj]
    others := by
      intro b hb
      rcases List.mem_append.mp hb with hb | hb
      · exact h.others b hb
      · rw [List.mem_singleton.mp hb]
        exact .inr ⟨h.later.ne', rfl, he, rfl, rfl, rfl⟩
    later := Nat.lt_succ_of_lt h.later }

end

theorem docOps_engine (s : State) (d : Document) : ∀ o ∈ docOps s d, o.engine = .flail ∨ o.engine = .mill := by
  have hsig : ∀ a k c, ∀ o ∈ sigOps s a k c, o.engine = .mill := by
    intro a k c o ho
    unfold sigOps at ho
    split_ifs at ho <;> simp_all
  intro o ho
  unfold docOps at ho
  split at ho
  · simp at ho
  next i hi =>
  simp only [List.mem_append, or_assoc] at ho
  rcases ho with hdigest | hds | hca | haa
  · obtain ⟨g, -, rfl⟩ := List.mem_map.mp hdigest
    exact .inl rfl
  · cases hc : (chainOfDs s i).ds with
    | none => simp [hc] at hds
    | some c =>
      simp only [hc, Option.map_some, Option.getD_some] at hds
      exact .inr (hsig _ _ _ o hds)
  · split at hca
    · exact .inr (hsig _ _ _ o hca)
    · simp at hca
  · split at haa
    · split_ifs at haa <;> simp_all
    · simp at haa

theorem handNeeds_engine {w : Nat → OwnWork} {l : List HandOp} (h : ∀ o ∈ l, o.engine = .flail ∨ o.engine = .mill) :
    ∀ n ∈ handNeeds w l, n.engine = .flail ∨ n.engine = .mill := by
  intro n hn
  obtain ⟨e, he, rfl⟩ := List.mem_map.mp hn
  exact h e.1 (List.fst_mem_of_mem_zipIdx he)

/-- A Hand's job asks the engines for what its document needs, and runs on. -/
theorem serveOwn_handStands {s : State} {b : Job} (hp : Peaceful s) (hj : s.jobs = [b]) (he : b.engine = .hand)
    (hs : b.stage = .running) (ho : b.own = none) (ha : b.asks = none) (hlater : b.id < s.jobNo) :
    ∃ l, HandStands b.id { b with asks := some l } s.power s.lanyard (serveOwn s) := by
  let l := docOps s (offlineDocument s b)
  let r : Job := { b with asks := some l }
  let y : State := { s with jobs := [r] }
  have hy : Peaceful y := { hp with }
  have hask : askDocuments s = y := by
    simp [askDocuments, hj, he, hs, ha, y, r, l]
  have hneeds : ∀ w ∈ ownNeeds y, w.engine = .flail ∨ w.engine = .mill := by
    have hown : ownNeeds y = handNeeds (.document b.id) l := by
      rw [ownNeeds_of_peaceful hy]
      simp [y, r, hs]
    rw [hown]
    exact handNeeds_engine (docOps_engine s _)
  have hstands : HandStands b.id r s.power s.lanyard y :=
    ⟨jobOf_single (b := r) rfl, fun c hc => .inl (List.mem_singleton.mp hc), hs, he, hlater, rfl, rfl⟩
  have hserved : serveOwn s = if (ownNeeds y).filter (fun n => !y.jobs.any (serves n)) = [] then y
      else startJobs (((ownNeeds y).filter (fun n => !y.jobs.any (serves n))).foldl askWork y) := by
    simp [serveOwn, hp.power, hj, ho, hask, y, r]
  refine ⟨l, ?_⟩
  rw [hserved]
  split_ifs
  · exact hstands
  · exact (List.foldlRecOn _ askWork hstands fun _ ht w hw => ht.askWork (hneeds w (List.mem_of_mem_filter hw))).startJobs

/-! ### A descriptor's job on a device at rest -/

/-- The one job of a device otherwise at rest: nothing keeps it from its engine. -/
structure Waiting (u : State) (b : Job) (n op : Nat) (g : Engine) (q : JobReq) : Prop where
  peaceful : Peaceful u
  jobs : u.jobs = [b]
  fetched : Fetched b n op g q
  goes : mustWait u b = false
  passes : firstFail (jobChecks u b) = none
  dma : q.dmaFail = none

theorem waiting_of_atRest {s : State} {b : Job} {op : Nat} {g : Engine} {q : JobReq} (hs : atRest s)
    (hf : fetches s q.fn q.ring = true) (hd : q.dmaFail = none) (hb : jobOf (takeDescriptor s op g q) s.jobNo = some b)
    (hw : mustWait (takeDescriptor s op g q) b = false) (hc : firstFail (jobChecks (takeDescriptor s op g q) b) = none) :
    Waiting (takeDescriptor s op g q) b s.jobNo op g q := by
  have hpow : powered s = true := by
    simp only [fetches, fnReached, Bool.and_eq_true] at hf
    tauto
  have hjobs : s.jobs = [] := hs.2.2.1
  obtain ⟨c, hc1, hc2⟩ := takeDescriptor_jobs hjobs op g q
  have hbc : c = b := by
    have hone := jobOf_single hc1
    rw [hc2.id, hb] at hone
    exact (Option.some.inj hone).symm
  subst hbc
  exact ⟨peaceful_takeDescriptor (peaceful_of_atRest hs hpow) op g q, hc1, hc2, hw, hc, hd⟩

/-- A descriptor's row takes its descriptor and lets the scheduler serve what is there. -/
theorem exec_jobRow : ∀ r ∈ jobRows, ∀ q s, exec (r.2.2 q) s = done s (fetchJob r.1 r.2.1 q s) := by
  unfold jobRows
  repeat refine List.forall_mem_cons.mpr ⟨fun _ _ => rfl, ?_⟩
  exact List.forall_mem_nil _

section
variable {u x : State} {b r : Job} {n op : Nat} {g : Engine} {q : JobReq} (h : Waiting u b n op g q)
include h

theorem startJobs_of_waiting (hstart : startOn u b = setJob x r) (hx : Peaceful x) (hxr : (setJob x r).jobs = [r])
    (hr : Running r b) : startJobs u = withReads (setJob x r) q := by
  have hreq := h.fetched.req
  rw [startJobs_starts h.peaceful h.jobs h.fetched.stage h.goes h.fetched.own h.passes (by rw [hreq]; exact h.dma) hstart hx hxr hr,
    hreq]

/-- The state after a row whose job an engine of cores or stones takes up: the start's, but for NOTICE. -/
theorem runs_of_waiting (s : State) (hstart : startOn u b = setJob x r) (hx : Peaceful x) (hxr : (setJob x r).jobs = [r])
    (hr : Running r b) (hg : g ≠ .hand) :
    jobOf (finish s (startJobs u)) n = some r ∧ Peaceful (finish s (startJobs u)) ∧
      ∃ f, finish s (startJobs u) = { withReads (setJob x r) q with fns := f } := by
  have hp : Peaceful (withReads (setJob x r) q) := peaceful_withReads (peaceful_setJob hx r) q
  have hserve : serveOwn (withReads (setJob x r) q) = withReads (setJob x r) q := by
    refine serveOwn_of_peaceful hp fun c hc => ?_
    change c ∈ (setJob x r).jobs at hc
    rw [hxr] at hc
    rw [List.mem_singleton.mp hc]
    exact ⟨hr.own, by rw [hr.engine, h.fetched.engine]; exact hg, hr.asks⟩
  have hfinish : finish s (startJobs u) = noteStatus (deviceStatus s) (withReads (setJob x r) q) := by
    rw [startJobs_of_waiting h hstart hx hxr hr, finish_of_peaceful hp, hserve]
  have hjob : jobOf (withReads (setJob x r) q) r.id = some r := jobOf_single hxr
  rw [hfinish]
  refine ⟨?_, peaceful_noteStatus hp _, noteStatus_fns _ _⟩
  rw [← h.fetched.id, ← hr.id, jobOf, noteStatus_jobs]
  exact hjob

end

/-- A core reports the end of its job: the job ends with what was computed. -/
theorem jobComplete_of_core {t : State} {r : Job} {n : Nat} (hj : jobOf t n = some r) (hp : powered t = true)
    (he : r.engine = .thresher ∨ r.engine = .flail) (hs : r.stage = .running) (hc : r.onCore = true) (ho : r.own = none) :
    exec (.jobComplete n .good) t = .next (finish t (startJobs (endJob (if (computed t r).1 = sOk then keepMessage t r else t) r
      (computed t r).1 0 false (computed t r).2.1 (computed t r).2.2))) := by
  obtain ⟨hgood, -⟩ := engineEnds_of_ready (engineReady_of_onCore (s := t) he hs hc)
  rw [exec_jobComplete hj hp, hgood, endsWell_of_core he ho]

/-- The one job of a device otherwise at rest, at work on stone `k`. -/
structure OnStone (t : State) (r : Job) (n k : Nat) : Prop where
  peaceful : Peaceful t
  jobs : t.jobs = [r]
  job : jobOf t n = some r
  id : r.id = n
  engine : r.engine = .mill
  own : r.own = none
  asks : r.asks = none
  stage : r.stage = .running
  low : k < 64
  stone : r.stone = some k
  busy : (stoneOf t k).state = .busy
  works : (stoneOf t k).job = some n
  rest : StonesRest t [k]
  fences : t.groupFences = []
  lattice : latticeOp r.opcode = true → t.ident.optionN = false

section
variable {u : State} {b : Job} {n op : Nat} {g : Engine} {q : JobReq} (h : Waiting u b n op g q) {s t : State}
  (ht : finish s (startJobs u) = t)
include h ht

/-- What a Thresher job holds on its cores. -/
theorem thresher_of_waiting (he : g = .thresher) (hf : (floorOf u b.floor).fenced = false) (hw : (floorOf u b.floor).awake = true)
    (hs : starved u b.floor = false) (hc : coresInService u b.floor ≠ 0) (hn : jobCores u b ≤ freeCores u b.floor) :
    ∃ r, jobOf t n = some r ∧ Peaceful t ∧ Running r b ∧ r.onCore = true ∧
      r.iv = (ivFor u b).1 ∧ r.key = (withKey u b).key ∧ r.twinned = (u.twin || (withKey u b).custody) ∧
      r.cores.length = jobCores u b ∧
      messageOf t r = messageOf (openFor (ivFor u b).2 b (ivFor u b).1) { b with iv := (ivFor u b).1 } := by
  obtain ⟨x, r, hstart, hx, hxj, hr, hxc, honcore, hiv, hkey, htwin, hcores, hcontext, hcarried⟩ :=
    startThresher_starts h.peaceful h.jobs h.fetched.own h.fetched.asks h.fetched.sheaf hf hw hs hc hn
  have hon : startOn u b = setJob x r := by simp [startOn, h.fetched.engine, he, hstart]
  rw [← ht]
  obtain ⟨hjob, hp, f, hstate⟩ := runs_of_waiting h s hon hx (setJob_single hxj hr.id) hr (by simp [he])
  refine ⟨r, hjob, hp, hr, honcore, hiv, hkey, htwin, hcores, ?_⟩
  rw [hstate]
  exact messageOf_congr hxc hcarried hcontext hr.opcode hr.req hiv

/-- What a Flail job holds on its core. -/
theorem flail_of_waiting {c : Nat} {rest : List Nat} (he : g = .flail)
    (hc : freeFlail u (onSha2 (flailAlg u b) && op == 0x0301) = c :: rest) :
    ∃ r, jobOf t n = some r ∧ Peaceful t ∧ Running r b ∧ r.onCore = true ∧
      r.core = some c ∧ r.restarted = restarts u b ∧ messageOf t r = messageOf (openFor u b []) b := by
  rw [← h.fetched.opcode] at hc
  obtain ⟨x, r, hstart, hx, hxj, hr, honcore, hcore, hrestarted, hcarried⟩ :=
    startFlail_starts h.peaceful h.jobs h.fetched.own h.fetched.asks h.fetched.sheaf hc
  have hon : startOn u b = setJob x r := by simp [startOn, h.fetched.engine, he, hstart]
  rw [← ht]
  obtain ⟨hjob, hp, -⟩ := runs_of_waiting h s hon hx (setJob_single hxj hr.id) hr (by simp [he])
  exact ⟨r, hjob, hp, hr, honcore, hcore, hrestarted, by simp [messageOf, hcarried]⟩

/-- A Mill job goes to a stone, the others staying at rest. -/
theorem mill_of_waiting (he : g = .mill) (hop : engineOf op = some .mill) (hr : StonesRest u []) (hg : u.groupFences = []) :
    ∃ r k, OnStone t r n k ∧ Running r b ∧ r.key = (withKey u b).key := by
  have hengine : b.engine = .mill := h.fetched.engine.trans he
  have hlattice : latticeOp b.opcode = true → u.ident.optionN = false :=
    latticeOp_of_checks (by rw [h.fetched.opcode, hop]) hengine h.passes
  obtain ⟨x, r, k, hstart, hx, hxr, hrun, hk, hstone, -, hkey, hbusy, hjob, hrest, hfences, hident⟩ :=
    startMill_starts h.peaceful h.jobs h.fetched.stone hengine h.fetched.own h.fetched.asks h.fetched.sheaf hr hg hlattice
  have hon : startOn u b = setJob x r := by simp [startOn, hengine, hstart]
  rw [← ht]
  obtain ⟨hjobOf, hp, f, hstate⟩ := runs_of_waiting h s hon hx hxr hrun (by simp [he])
  refine ⟨r, k, ?_, hrun, hkey⟩
  have hid : r.id = n := jobOf_id hjobOf
  have hoptionN : latticeOp r.opcode = true → x.ident.optionN = false := by
    rw [hrun.opcode, hident]
    exact hlattice
  rw [hstate] at hp hjobOf ⊢
  exact ⟨hp, hxr, hjobOf, hid, hrun.engine.trans hengine, hrun.own, hrun.asks, hrun.stage, hk, hstone, hbusy,
    hjob.trans (congrArg some h.fetched.id), hrest, hfences.trans hg, hoptionN⟩

/-- What a job of VERIFY_OFFLINE holds on its Hand. -/
theorem hand_of_waiting {k : Nat} (he : g = .hand) (hlater : n < u.jobNo) (hk : chooseHand u = some k) :
    ∃ r, jobOf t n = some r ∧ powered t = true ∧ r.stage = .running ∧ r.opcode = op ∧
      r.engine = .hand ∧ r.own = none ∧ r.req = q ∧ r.hand = some k ∧ r.policy = some (tblGet u.policies (rd (srcData q) 2 2) {}) ∧
      t.lanyard = u.lanyard := by
  let r : Job := { b with stage := .running, since := u.now, hand := some k
                          policy := some (tblGet u.policies (rd (srcData b.req) 2 2) {}) }
  have hengine : b.engine = .hand := h.fetched.engine.trans he
  have hstart : startOn u b = setJob u r := by simp [startOn, hengine, startHand, hk, r]
  have hrun : Running r b := by
    constructor <;> simp [r, h.fetched.own, h.fetched.asks, h.fetched.sheaf, hengine]
  have hjobs : (setJob u r).jobs = [r] := setJob_single h.jobs rfl
  have hp : Peaceful (withReads (setJob u r) q) := peaceful_withReads (peaceful_setJob h.peaceful r) q
  have hid : b.id = n := h.fetched.id
  rw [← hid] at hlater
  obtain ⟨l, hstands⟩ := serveOwn_handStands hp (b := r) hjobs hengine rfl h.fetched.own h.fetched.asks hlater
  have hfinish : finish s (startJobs u) = noteStatus (deviceStatus s) (serveOwn (withReads (setJob u r) q)) := by
    rw [startJobs_of_waiting h hstart h.peaceful hjobs hrun, finish_of_peaceful hp]
  rw [← ht, hfinish]
  refine ⟨{ r with asks := some l }, ?_, ?_, rfl, h.fetched.opcode, hengine, h.fetched.own, h.fetched.req, rfl, ?_, ?_⟩
  · rw [jobOf, noteStatus_jobs, ← hid]
    exact hstands.job
  · rw [powered, noteStatus_power, hstands.power]
    exact h.peaceful.power
  · simp [r, h.fetched.req]
  · rw [noteStatus_lanyard, hstands.lanyard]
    rfl

end

/-- A Hand that is chosen serves. -/
theorem handServes_of_chosen {s : State} {k : Nat} (h : chooseHand s = some k) : handServes s k = true := by
  have hfold : ∀ j, chooseHand s = some j → handServes s j = true := by
    unfold chooseHand
    refine List.foldlRecOn (motive := fun best => ∀ j, best = some j → handServes s j = true) _ _ (by simp) ?_
    intro best hbest c hc
    have hserves : handServes s c = true := (Bool.and_eq_true_iff.mp (List.mem_filter.mp hc).2).2
    split
    · rintro j ⟨⟩
      exact hserves
    next g =>
      split_ifs
      · rintro j ⟨⟩
        exact hserves
      · exact hbest
  exact hfold k h

theorem handHalted_of_chosen {s : State} {k : Nat} (h : chooseHand s = some k) : handHalted s k = false := by
  have hserves := handServes_of_chosen h
  simp only [handServes, Bool.and_eq_true, Bool.not_eq_true'] at hserves
  exact hserves.1.2

/-! ### A stone's result -/

/-- A Mill job with the result that its stone computed. -/
def computedJob (s : State) (b : Job) : Job :=
  let x := millResult (reachTime s b) b.opcode (dParam b.req.desc) b.key (srcData b.req)
  { b with status := x.1, detail := 0, out := x.2.1, inline := x.2.2, since := (reachTime s b).now, check := none }

/-- A host job's stone is free once it has computed, and Table 7-6 says whether a second one checks the result. -/
def stoneFreed (s : State) (b : Job) : State :=
  setJob (freeStones (draw (reachTime s b)) (computedJob s b))
    { computedJob s b with stage := if secondStone b.opcode then .checking else .finished }

theorem stoneComputes_of_hostJob {s : State} {b : Job} (ho : b.own = none) : stoneComputes s b = stoneFreed s b := by
  simp [stoneComputes, keyPairWork, ho, stoneFreed, computedJob]

theorem reachTime_rest (s : State) (b : Job) : ∃ w a, reachTime s b = { s with now := w, almanac := a } := by
  unfold reachTime
  split_ifs
  · exact ⟨_, _, rfl⟩
  · exact ⟨_, _, rfl⟩

theorem stoneFreed_rest (s : State) (b : Job) : ∃ w a t, stoneFreed s b =
    setJob { s with rng := s.rng + 1, now := w, almanac := a, stones := t }
    { computedJob s b with stage := if secondStone b.opcode then .checking else .finished } := by
  obtain ⟨w, a, hr⟩ := reachTime_rest s b
  obtain ⟨⟨t, ht⟩, -⟩ := freeStones_setStone (draw (reachTime s b)) (computedJob s b)
  refine ⟨w, a, t, ?_⟩
  rw [stoneFreed, ht, hr]
  rfl

theorem stoneOf_stoneFreed_other {s : State} {b : Job} {k j : Nat} (hb : b.stone = some k) (hj : j ≠ k) :
    stoneOf (stoneFreed s b) j = stoneOf s j := by
  obtain ⟨w, a, hr⟩ := reachTime_rest s b
  obtain ⟨-, hother⟩ := freeStones_setStone (draw (reachTime s b)) (computedJob s b)
  have hstones : j ∉ stonesOf (computedJob s b) := by simp [stonesOf, computedJob, hb, hj]
  change stoneOf (freeStones (draw (reachTime s b)) (computedJob s b)) j = _
  rw [hother j hstones, hr]
  rfl

theorem jobOf_noteStatus (d : Nat) (s : State) (n : Nat) : jobOf (noteStatus d s) n = jobOf s n := by simp [jobOf]

theorem checkRuns_noteStatus (d : Nat) (s : State) (c : Job) : checkRuns (noteStatus d s) c = checkRuns s c := by
  simp [checkRuns, stoneOf]

/-- A result that Table 7-6 names goes from its stone to a check stone. -/
theorem finish_stoneFreed_checks {t s₀ : State} {r : Job} {n k : Nat} (h : OnStone t r n k) (hc : secondStone r.opcode = true) :
    ∃ c j, jobOf (finish s₀ (startJobs (stoneFreed t r))) n = some c ∧ c.check = some j ∧
      checkRuns (finish s₀ (startJobs (stoneFreed t r))) c = true ∧ (latticeOp r.opcode = true ∨ groupOf j ≠ groupOf k) := by
  obtain ⟨w, a, m, hfreed⟩ := stoneFreed_rest t r
  let e : Job := { computedJob t r with stage := if secondStone r.opcode then .checking else .finished }
  have hp : Peaceful (stoneFreed t r) := by
    rw [hfreed]
    exact { h.peaceful with }
  have hj : (stoneFreed t r).jobs = [e] := by
    rw [hfreed]
    exact setJob_single h.jobs rfl
  have hg : (stoneFreed t r).groupFences = [] := by
    rw [hfreed]
    exact h.fences
  have hn : latticeOp e.opcode = true → (stoneFreed t r).ident.optionN = false := by
    rw [hfreed]
    exact h.lattice
  have hr : StonesRest (stoneFreed t r) [k] := by
    intro j hj64 hjk
    rw [stoneOf_stoneFreed_other h.stone (by simpa using hjk)]
    exact h.rest j hj64 hjk
  obtain ⟨j, since, hpc, hjc, hruns, hgroup⟩ := startJobs_checks (c := e) hp hj h.engine (if_pos hc) h.stone rfl hr hg hn
  have hserve : serveOwn (startJobs (stoneFreed t r)) = startJobs (stoneFreed t r) := by
    refine serveOwn_of_peaceful hpc fun d hd => ?_
    rw [hjc] at hd
    rw [List.mem_singleton.mp hd]
    exact ⟨h.own, by simp [e, computedJob, h.engine], h.asks⟩
  have hjob : jobOf (startJobs (stoneFreed t r)) r.id = some { e with check := some j, since := since } := jobOf_single hjc
  rw [finish_of_peaceful hpc, hserve, ← h.id]
  exact ⟨_, j, (jobOf_noteStatus _ _ _).trans hjob, rfl, (checkRuns_noteStatus _ _ _).trans hruns, hgroup⟩

/-- A stone at the end of its time gives its job the result. -/
theorem exec_millStoneDone_onStone {t : State} {r : Job} {n k : Nat} (h : OnStone t r n k) :
    exec (.millStoneDone k .clean) t = .next (finish t (startJobs (stoneFreed t r))) := by
  rw [exec_millStoneDone h.low h.peaceful.power h.busy (by rw [h.works]; exact h.job), stoneDone_clean h.stone h.stage,
    stoneComputes_of_hostJob h.own]

/-- The job's stone reports, and a result to be checked is checked at once. -/
theorem millStoneDone_completes {t : State} {r : Job} {n k op : Nat} {q : JobReq} (h : OnStone t r n k) (hop : r.opcode = op)
    (hreq : r.req = q) :
    let x := millResult (reachTime t r) op (dParam q.desc) r.key (srcData q)
    let e := { r with status := x.1, detail := 0, out := x.2.1, inline := x.2.2, since := (reachTime t r).now, check := none }
    let v := finish t (startJobs (setJob (freeStones (draw (reachTime t r)) e)
      { e with stage := if secondStone op then .checking else .finished }))
    exec (.millStoneDone k .clean) t = .next v ∧
    (secondStone op = true → ∃ c j, jobOf v n = some c ∧ c.check = some j ∧ checkRuns v c = true ∧
      (latticeOp op = true ∨ groupOf j ≠ groupOf k)) := by
  subst hop hreq
  exact ⟨exec_millStoneDone_onStone h, finish_stoneFreed_checks h⟩

/-- Settles O22, engine by engine: what follows the row's effect has nothing to do but serve a Hand's asks, and the engine's end is
its own. -/
theorem jobRowsComplete : Obligations.JobRowsComplete := by
  intro op g i hrow q s hs hf hfetched hevent hd n u t b hb hw hc
  have h : Waiting u b n op g q := waiting_of_atRest hs hf hd hb hw hc
  have hcore : ∀ {r : Job}, Running r b → r.engine = g ∧ r.opcode = op ∧ r.req = q := fun hr =>
    ⟨hr.engine.trans h.fetched.engine, hr.opcode.trans h.fetched.opcode, hr.req.trans h.fetched.req⟩
  refine ⟨?row, fun he hfence hwake hstarved hserve hn => ?thresher, fun c rest he hfree => ?flail, fun he hstones hg => ?mill,
    fun k he hk => ?hand⟩
  case row =>
    rw [exec_jobRow _ hrow]
    simp [done, fetchJob, hf, hfetched, hevent]
    rfl
  case thresher =>
    obtain ⟨r, hjob, hp, hr, honcore, hiv, hkey, htwin, hcores, hmessage⟩ :=
      thresher_of_waiting h (t := t) rfl he hfence hwake hstarved hserve hn
    obtain ⟨hengine, hop, hreq⟩ := hcore hr
    refine ⟨r, hjob, hr.stage, honcore, hop, hreq, hiv, hkey, htwin, hcores, hmessage, ?_⟩
    intro m mac x
    have hx : computed t r = x := by
      rw [computed_of_core (.inl (hengine.trans he))]
      simp [hengine, he, hop, hreq, x, m, mac, extended]
    rw [jobComplete_of_core hjob hp.power (.inl (hengine.trans he)) hr.stage honcore hr.own, hx]
  case flail =>
    obtain ⟨r, hjob, hp, hr, honcore, hcored, hrestarted, hmessage⟩ := flail_of_waiting h (t := t) rfl he hfree
    obtain ⟨hengine, hop, hreq⟩ := hcore hr
    refine ⟨r, hjob, hr.stage, honcore, hop, hreq, hcored, hrestarted, hmessage, ?_⟩
    intro x
    have hx : computed t r = x := by
      rw [computed_of_core (.inr (hengine.trans he))]
      simp [hengine, he, hop, hreq, x, extended]
    rw [jobComplete_of_core hjob hp.power (.inr (hengine.trans he)) hr.stage honcore hr.own, hx]
  case mill =>
    have hengineOf : engineOf op = some .mill := he ▸ jobRows_engineOf _ hrow
    obtain ⟨r, k, hstone, hr, hkey⟩ := mill_of_waiting h (t := t) rfl he hengineOf (fun j hj _ => hstones j hj) hg
    obtain ⟨-, hop, hreq⟩ := hcore hr
    exact ⟨r, k, hstone.job, hr.stage, hstone.stone, hop, hreq, hkey, millStoneDone_completes hstone hop hreq⟩
  case hand =>
    obtain ⟨r, hjob, hp, hstage, hop, hengine, hown, hreq, hhand, hpolicy, hlanyard⟩ :=
      hand_of_waiting h (t := t) rfl he (Nat.lt_succ_self _) hk
    refine ⟨r, hjob, hstage, hop, hreq, hhand, hpolicy, fun hasked => ?_⟩
    have hhalted : r.hand.any (handHalted t) = false := by
      have hsame : handHalted t k = handHalted u k := by simp [handHalted, t, hlanyard]
      rw [hhand, Option.any_some, hsame, handHalted_of_chosen hk]
    obtain ⟨hgood, -⟩ := engineEnds_of_ready (engineReady_of_handRunning (s := t) hengine hstage hhalted)
    rw [exec_jobComplete hjob hp, hgood, endsWell_of_hand hengine hown hasked]

end Sys2Proof.Machine
end

section
/-! The commands and the events of capture ports (O10, O30): what the commands' bodies give where their checks pass, and each row of an
event under its guard. -/

namespace Sys2Proof.Machine

/-! ### What the bodies of the port commands give -/

section
variable {q : MbxReq} {s : State} {p : Nat}

theorem bodyPortConfig_stores (hf : wellFormed q 24 [(22, 2)]) (hp : slotOf (fld q 0 1) = some p)
    (hc : badPortCfg p (payloadCfg q (portOf s p).cfg.mac) = none) :
    bodyPortConfig q s =
      let c := payloadCfg q (portOf s p).cfg.mac
      accept (recheckHolds (settleFloor (takeLanes (storePort s p c) p c) (portFloor p)) p) [] := by
  rw [bodyPortConfig, withFormat_ok hf]
  simp [hp, hc]

theorem bodyPortStatus_reads (hf : wellFormed q 4 [(1, 3)]) (hp : slotOf (fld q 0 1) = some p) :
    bodyPortStatus q s = accept s (portStatusBytes s p) := by
  rw [bodyPortStatus, withFormat_ok hf]
  simp [hp]

/-- The response is made before CLEAR takes effect, and CLEAR is the PF's alone. -/
theorem bodyPortCounters_reads (hf : wellFormed q 4 [(2, 2)]) (hp : slotOf (fld q 0 1) = some p) (hc : fld q 1 1 ≤ 1)
    (hpf : fld q 1 1 = 0 ∨ q.fn = 0) :
    bodyPortCounters q s =
      accept (if fld q 1 1 == 1 then setPort s p { portOf s p with counters := [] } else s)
        ((List.range 24).flatMap (fun k => le 8 (counterOfPort s p k))) := by
  have hallowed : (fld q 1 1 == 1 && q.fn != 0) = false := by
    rcases hpf with h | h <;> simp [h]
  rw [bodyPortCounters, withFormat_ok hf]
  simp only [hp, Nat.not_lt.mpr hc, hallowed, Bool.false_eq_true, if_false]

end

theorem exec_portCounterLatchRead {p k : Nat} (s : State) (hp : p < 128) (hk : k < 24) :
    exec (.portCounterLatchRead p k) s = .next (finish s (setPort s p { portOf s p with
      latched := tblSet (portOf s p).latched k (tblGet (portOf s p).counters k 0 / 2 ^ 32) })) := by
  change execPortCounterLatchRead p k s = _
  simp [execPortCounterLatchRead, done, hp, hk]

/-- Settles O10. -/
theorem portCommandsComplete : Obligations.PortCommandsComplete := by
  refine ⟨fun q s s₀ p h hf hp hc => ?config, fun q s s₀ p h hf hp => ?status, fun q s s₀ p h hf hp hc hpf => ?counters,
    fun p k s hp hk => exec_portCounterLatchRead s hp hk⟩
  case config =>
    change runMbx specPortConfig bodyPortConfig q s = _
    rw [runMbx_admitted h, bodyPortConfig_stores hf hp hc, settleReply_accept rfl]
  case status =>
    change runMbx specPortStatus bodyPortStatus q s = _
    rw [runMbx_admitted h, bodyPortStatus_reads hf hp, settleReply_accept rfl]
  case counters =>
    change runMbx specPortCounters bodyPortCounters q s = _
    rw [runMbx_admitted h, bodyPortCounters_reads hf hp hc hpf, settleReply_accept rfl]

/-! ### Links and arriving frames -/

section
variable {s : State} {p : Nat}

theorem exec_portLinkUp {x : Partner} (hl : canLink (captureStarts s) p = true) :
    exec (.portLinkUp p x) s = .next (finish s (linkUp (captureStarts s) p x)) := by
  change execPortLinkUp p x s = _
  simp [execPortLinkUp, done, hl]

theorem exec_portLinkDown {l : LinkLoss} (hu : (portOf s l.slot).up = true) :
    exec (.portLinkDown l) s =
      let t := takeDown (countFec s l.slot l.corrected l.uncorrected) l.slot
      .next (finish s (settleFloor (setPort t l.slot { portOf t l.slot with hiBer := l.hiBer }) (portFloor l.slot))) := by
  change execPortLinkDown l s = _
  simp [execPortLinkDown, done, hu]

theorem exec_rxFrame {x : WireFrame} (hw : powered s = true) (hp : p < 128) (hu : (portOf s p).up = true) :
    exec (.rxFrame p x) s = .next (finish s (rxFrame s p x)) := by
  change execRxFrame p x s = _
  simp [execRxFrame, done, hw, hp, hu]

/-- The state in which an arriving frame meets its checks: its floor is awake (R25), and its FEC codewords have counted (R100). -/
def frameMet (s : State) (p : Nat) (x : WireFrame) : State :=
  countFec (setFloor s (portFloor p) { floorOf s (portFloor p) with awake := true }) p (x.gapCorrected + x.corrected)
    (x.gapUncorrected + x.uncorrected)

theorem rxFrame_of_fault {x : WireFrame} {c : Nat} (h : ingressFault (frameMet s p x) p x = some c) :
    rxFrame s p x = countPort (frameMet s p x) p c 1 := by
  rw [frameMet] at h
  simp [rxFrame, frameMet, h]

theorem rxFrame_of_passes {x : WireFrame} (h : ingressFault (frameMet s p x) p x = none) :
    rxFrame s p x =
      if x.etherType = 0x8808 then rxPause (frameMet s p x) p (ofBe (slice x.body 2 2)) else rxStrand (frameMet s p x) p x := by
  rw [frameMet] at h
  simp [rxFrame, frameMet, h]

/-! ### The transmit direction and flow control -/

theorem exec_frameTransmitted {x : TxFrame} (hx : (portOf s p).sending = some x) (hu : (portOf s p).up = true) :
    exec (.frameTransmitted p) s = .next (finish s (frameSent s p x)) := by
  change execFrameTransmitted p s = _
  simp [execFrameTransmitted, done, hx, hu]

theorem exec_pauseQuantaExpiry (hr : (portOf s p).rxPaused = true) :
    exec (.pauseQuantaExpiry p) s =
      let t := advanceTo s (portOf s p).rxPausedUntil
      .next (finish s (startTx (setPort t p { portOf t p with rxPaused := false }) p)) := by
  change execPauseQuantaExpiry p s = _
  simp [execPauseQuantaExpiry, done, hr]

end

section
variable {s : State} {f : Nat}

theorem exec_linkPauseRefresh (hf : f < 6) (hp : (floorOf s f).pausing = true) :
    exec (.linkPauseRefresh f) s =
      .next (finish s (linkPause (advanceTo s ((floorOf s f).lastPause + 100)) f 0xFFFF)) := by
  change execLinkPauseRefresh f s = _
  simp [execLinkPauseRefresh, done, hf, hp]

theorem exec_floorWakeDone (hw : powered s = true) (hf : f < 6) (hn : floorNeeded s f = true) :
    exec (.floorWakeDone f) s = .next (finish s (startJobs (setFloor s f { floorOf s f with awake := true }))) := by
  change execFloorWakeDone f s = _
  simp [execFloorWakeDone, done, hw, hf, hn]

end

/-- Settles O30: each row under its guard; the row of a new second has none. -/
theorem portEventsAct : Obligations.PortEventsAct := by
  refine ⟨fun p x s hl => exec_portLinkUp hl, fun p hiBer corrected uncorrected s hu => exec_portLinkDown hu,
    fun p x s hw hp hu => ?frame, fun s => rfl, fun p x s hx hu => exec_frameTransmitted hx hu,
    fun f s hf hp => exec_linkPauseRefresh hf hp, fun p s hr => exec_pauseQuantaExpiry hr,
    fun f s hw hf hn => exec_floorWakeDone hw hf hn⟩
  case frame =>
    intro t u
    have hmet : u = frameMet s p x := rfl
    rw [exec_rxFrame hw hp hu, hmet]
    cases hc : ingressFault (frameMet s p x) p x with
    | some c => rw [rxFrame_of_fault hc]
    | none => rw [rxFrame_of_passes hc]

end Sys2Proof.Machine
end

section
/-! The strand and seal commands (O8, O9): what each command's body gives where its checks pass. -/

namespace Sys2Proof.Machine

/-- An admitted command that is not deferred, and whose own checks pass, answers. -/
theorem runMbx_accepts {c : CmdSpec} {body : MbxReq → State → Reply} {q : MbxReq} {s s₀ t : State} {b : Bytes}
    (h : admitted c q s = some s₀) (hd : c.deferred = false) (hb : body q s₀ = accept t b) :
    runMbx c body q s = .next (finish s (answer c q t b)) := by
  rw [runMbx_admitted h, hb, settleReply_accept hd]

section
variable {q : MbxReq} {s : State}

/-! ### What the bodies of the strand commands give -/

theorem bodyStrandConfig_stores (hf : wellFormed q 64 [(6, 2)]) (hc : badStrandCfg q = none) (hop : fld q 2 1 = 1)
    (ha : archiveFault s q.fn (payloadStrand q).archiveKey = none)
    (hd : (wantsDigest (payloadStrand q) && overDigest s (payloadStrand q :: otherCfgs s (qStrand q))) = false)
    (ho : overSeals (payloadStrand q :: otherCfgs s (qStrand q)) = false) (hb : strandBarred q s = false) :
    bodyStrandConfig q s = accept (configure s (qStrand q) (payloadStrand q)) [] := by
  rw [bodyStrandConfig, withFormat_ok hf]
  simp [hc, hop, ha, hd, ho, hb]

theorem bodyStrandConfig_removes (hf : wellFormed q 64 [(6, 2)]) (hc : badStrandCfg q = none) (hop : fld q 2 1 = 2)
    (ha : (strandOf s (qStrand q)).state = .armed) : bodyStrandConfig q s = accept (unconfigure s (qStrand q)) [] := by
  rw [bodyStrandConfig, withFormat_ok hf]
  simp [hc, hop, ha]

theorem bodyStrandList_reads (hf : wellFormed q 4 []) (hi : fld q 0 2 < 4096) :
    bodyStrandList q s =
      let l := listedStrands s (fld q 0 2) (fld q 2 2)
      accept s (le 2 (l.take 1000).length ++ le 2 (ofBool (1000 < l.length)) ++
        (l.take 1000).flatMap (fun i => le 2 i ++ le 1 (strandNo (strandOf s i).state) ++ le 1 (strandOf s i).cfg.ingress)) := by
  rw [bodyStrandList, withFormat_ok hf, if_neg (Nat.not_le.mpr hi)]

theorem bodyStrandStatus_reads (hf : wellFormed q 4 [(2, 2)]) (hi : qStrand q < 4096) :
    bodyStrandStatus q s = accept s (strandStatusBytes s (qStrand q)) := by
  rw [bodyStrandStatus, withFormat_ok hf, if_neg (Nat.not_le.mpr hi)]

/-- MODE 0 on an OPEN strand asks the scanner, and gives it 100 ms. -/
theorem bodyStrandClose_asks (hf : wellFormed q 4 [(3, 1)]) (hi : qStrand q < 4096) (hm : fld q 2 1 = 0)
    (ho : (strandOf s (qStrand q)).state = .opened) :
    bodyStrandClose q s =
      let t := sendMsg s (qStrand q) 0x000A []
      accept (setStrand t (qStrand q) { strandOf t (qStrand q) with closeEnd := some (t.now + 100000) }) [] := by
  rw [bodyStrandClose, withFormat_ok hf]
  simp [Nat.not_le.mpr hi, hm, isOpen, ho]

theorem bodyStrandClose_closes (hf : wellFormed q 4 [(3, 1)]) (hi : qStrand q < 4096) (ho : isOpen (strandOf s (qStrand q)) = true)
    (hm : fld q 2 1 = 1 ∨ (fld q 2 1 = 0 ∧ (strandOf s (qStrand q)).state ≠ .opened)) :
    bodyStrandClose q s = accept (closeNow s (qStrand q) 5) [] := by
  rw [bodyStrandClose, withFormat_ok hf]
  rcases hm with hm | ⟨hm, hs⟩
  · simp [Nat.not_le.mpr hi, hm, ho]
  · simp [Nat.not_le.mpr hi, hm, ho, hs]

/-- No field of a subscription is out of range. -/
theorem subscribe_inRange (hr : fld q 0 2 ≤ fld q 2 2) (hl : fld q 2 2 < 4096) (hring : fld q 4 1 ≤ 3) (hk : fld q 5 1 ≤ 7) :
    firstField [(4096 ≤ fld q 0 2, 32), (4096 ≤ fld q 2 2 || fld q 2 2 < fld q 0 2, 34), (3 < fld q 4 1, 36), (7 < fld q 5 1, 37)]
      = none := by
  simp [firstField, Nat.not_le.mpr hl, Nat.not_lt.mpr hr, Nat.not_le.mpr (hr.trans_lt hl), Nat.not_lt.mpr hring, Nat.not_lt.mpr hk]

theorem bodyStrandSubscribe_adds (hf : wellFormed q 8 [(6, 2)]) (hr : fld q 0 2 ≤ fld q 2 2) (hl : fld q 2 2 < 4096)
    (hring : fld q 4 1 ≤ 3) (hk₁ : 1 ≤ fld q 5 1) (hk₇ : fld q 5 1 ≤ 7)
    (hroom : (s.subs.filter (fun u => !sameRange q.fn (fld q 0 2) (fld q 2 2) u && u.client == q.fn)).length < 16) :
    bodyStrandSubscribe q s =
      accept { s with subs := s.subs.filter (fun u => !sameRange q.fn (fld q 0 2) (fld q 2 2) u) ++
        [{ client := q.fn, first := fld q 0 2, last := fld q 2 2, ring := fld q 4 1, kinds := fld q 5 1 }] } [] := by
  have hothers : ((s.subs.filter (fun u => !sameRange q.fn (fld q 0 2) (fld q 2 2) u)).filter (fun u => u.client == q.fn)).length
      < 16 := by
    rw [List.filter_filter]
    simpa only [Bool.and_comm] using hroom
  rw [bodyStrandSubscribe, withFormat_ok hf]
  simp only [subscribe_inRange hr hl hring hk₇]
  rw [if_neg (by simpa using Nat.one_le_iff_ne_zero.mp hk₁), if_neg (Nat.not_le.mpr hothers)]

theorem bodyStrandSubscribe_removes (hf : wellFormed q 8 [(6, 2)]) (hr : fld q 0 2 ≤ fld q 2 2) (hl : fld q 2 2 < 4096)
    (hring : fld q 4 1 ≤ 3) (hk : fld q 5 1 = 0) :
    bodyStrandSubscribe q s =
      accept { s with subs := s.subs.filter (fun u => !sameRange q.fn (fld q 0 2) (fld q 2 2) u) } [] := by
  rw [bodyStrandSubscribe, withFormat_ok hf]
  simp only [subscribe_inRange hr hl hring (hk.trans_le (Nat.zero_le 7))]
  rw [if_pos (by simp [hk])]

/-! ### What the bodies of the seal commands give -/

theorem length_of_wellFormed {n : Nat} {rs : List (Nat × Nat)} (h : wellFormed q n rs) : q.payload.length = n := by
  by_contra hn
  simp [wellFormed, badFormat, hn] at h

/-- OP 2 to 4 names a CA or a scanner by its 32-byte ID. -/
theorem bodyScannerTrustImport_id (h2 : 2 ≤ fld q 0 1) (h4 : fld q 0 1 ≤ 4) (hf : wellFormed q 36 [(1, 3)]) :
    bodyScannerTrustImport q s = accept s [] := by
  have hop0 : (fld q 0 1 == 0) = false := beq_false_of_ne (by omega)
  have hop1 : (fld q 0 1 == 1) = false := beq_false_of_ne (by omega)
  have hlen : scannerTrustLen q = 36 := by simp [scannerTrustLen, hop1]
  simp [bodyScannerTrustImport, length_of_wellFormed hf, hop0, hop1, hlen, Nat.not_lt.mpr h4, withFormat_ok hf]

/-- OP 1 brings a CA's certificate. -/
theorem bodyScannerTrustImport_cert (h1 : fld q 0 1 = 1) (hl : fld q 4 2 ≤ 4056) (hf : wellFormed q (8 + fld q 4 2) [(1, 3), (6, 2)]) :
    bodyScannerTrustImport q s = if (readCert (q.payload.drop 8)).isSome then accept s [] else reject s eFormat 40 := by
  have hlen : scannerTrustLen q = 8 + fld q 4 2 := by simp [scannerTrustLen, h1]
  have hshort : ¬ 8 + fld q 4 2 < 4 := by omega
  cases hc : readCert (q.payload.drop 8) <;>
    simp [bodyScannerTrustImport, length_of_wellFormed hf, h1, hlen, hshort, Nat.not_lt.mpr hl, withFormat_ok hf, hc]

theorem bodySealConfig_stores (hf : wellFormed q 8 [(1, 1), (4, 4)]) (ha : fld q 0 1 = 1 ∨ fld q 0 1 = 2) (hi : fld q 2 2 ≤ 3600) :
    bodySealConfig q s =
      let k : SignKeys := { s.sealKeys with alg := fld q 0 1 }
      accept (releaseAllWaiting (share { s with sealKeys := k, sealIdle := fld q 2 2 } (.sealKeys k (fld q 2 2)))) [] := by
  rw [bodySealConfig, withFormat_ok hf]
  rcases ha with ha | ha <;> simp [ha, Nat.not_lt.mpr hi]

/-- The shared checks of the signing keys come down to the certificate once the handles and the keys pass. -/
theorem withSignKeys_judgesCert {o e m : Nat} {hybrid : Bool} {cert : Bytes} {k : Reply} (he : wrongIndex false e = false)
    (hm : wrongIndex false m = false) (hke : signKeyFault s e 0x10 0x0002 = none)
    (hkm : hybrid = true → signKeyFault s m 0x14 65 = none) :
    withSignKeys s o e m false hybrid cert k =
      (readCert cert).elim (reject s eFormat (o + 12)) (fun c => if certFor s e c then k else reject s eDenied 0) := by
  have hmldsa : (if hybrid then signKeyFault s m 0x14 65 else none) = none := by
    cases hybrid with
    | false => rfl
    | true => exact hkm rfl
  cases hc : readCert cert <;> simp [withSignKeys, he, hm, hke, hmldsa, hc]

/-- The seal keys that SEAL_KEY_SET names. -/
def namedSealKeys (q : MbxReq) (s : State) : SignKeys :=
  { s.sealKeys with ecdsa := fld q 0 4, mldsa := fld q 4 4, cert := q.payload.drop 12, named := true }

theorem bodySealKeySet_judgesCert (hf : wellFormed q (12 + fld q 8 2) [(10, 2)]) (hcl : (fld q 4 4 == 0) = classicalSeals s)
    (he : wrongIndex false (fld q 0 4) = false) (hm : wrongIndex false (fld q 4 4) = false)
    (hke : signKeyFault s (fld q 0 4) 0x10 0x0002 = none) (hkm : fld q 4 4 ≠ 0 → signKeyFault s (fld q 4 4) 0x14 65 = none) :
    bodySealKeySet q s =
      let k := namedSealKeys q s
      (readCert (q.payload.drop 12)).elim (reject s eFormat 44) (fun c =>
        if certFor s (fld q 0 4) c
        then accept (releaseAllWaiting (share { s with sealKeys := k } (.sealKeys k s.sealIdle))) []
        else reject s eDenied 0) := by
  have hmatch : ((fld q 4 4 == 0) != classicalSeals s) = false := by rw [hcl, bne_self_eq_false]
  rw [bodySealKeySet, withFormat_ok hf]
  simp only [hmatch]
  rw [withSignKeys_judgesCert he hm hke fun h => hkm (bne_iff_ne.mp h)]
  rfl

end

/-! ### The end of a scanner trust import -/

section
variable {s : State} {f n : Nat} {o : DefOp}

theorem endsWith_scannerTrust (h : mayEnd s f n o 0x0506) : EndsWith s f n (endScannerTrust s f o) := by
  obtain ⟨ho, hcode, hw, hgone, hp⟩ := h
  change execDeferredOpEnd f n s = _
  simp [execDeferredOpEnd, done, ho, hw, finishOp, hgone, hcode, hp]

theorem endScannerTrust_addsCa (hop : rd o.payload 0 1 = 1)
    (hnew : s.scannerCas.any (fun c => c.1 == sha3 (slice o.payload 8 (rd o.payload 4 2))) = false)
    (hroom : s.scannerCas.length < 64) :
    endScannerTrust s f o =
      let der := slice o.payload 8 (rd o.payload 4 2)
      endOp (share { s with scannerCas := s.scannerCas ++ [(sha3 der, der)] } (.scanner true (sha3 der) true der)) f o sOk 0 [] := by
  simp only [endScannerTrust, hop, hnew]
  rw [if_neg (by decide), if_neg (Nat.not_le.mpr hroom)]

theorem endScannerTrust_removesCa (hop : rd o.payload 0 1 = 2) :
    endScannerTrust s f o =
      let id := slice o.payload 4 32
      endOp (share { s with scannerCas := s.scannerCas.filter (fun c => c.1 != id) } (.scanner true id false [])) f o sOk 0 [] := by
  simp only [endScannerTrust, hop]

theorem endScannerTrust_denies (hop : rd o.payload 0 1 = 3) (hnew : slice o.payload 4 32 ∉ s.scannerDenied)
    (hroom : s.scannerDenied.length < 4096) :
    endScannerTrust s f o =
      let id := slice o.payload 4 32
      endOp (share { s with scannerDenied := s.scannerDenied ++ [id] } (.scanner false id true [])) f o sOk 0 [] := by
  simp only [endScannerTrust, hop]
  rw [if_neg (by simpa using hnew), if_neg (Nat.not_le.mpr hroom)]

theorem endScannerTrust_allows (hop : rd o.payload 0 1 = 4) :
    endScannerTrust s f o =
      let id := slice o.payload 4 32
      endOp (share { s with scannerDenied := s.scannerDenied.filter (· != id) } (.scanner false id false [])) f o sOk 0 [] := by
  simp only [endScannerTrust, hop]

end

/-- Settles O8. -/
theorem strandCommandsComplete : Obligations.StrandCommandsComplete :=
  ⟨fun _ _ _ h ⟨hf, hc, hop, ha, hd, ho, hb⟩ => runMbx_accepts h rfl (bodyStrandConfig_stores hf hc hop ha hd ho hb),
   fun _ _ _ h ⟨hf, hc, hop, ha⟩ => runMbx_accepts h rfl (bodyStrandConfig_removes hf hc hop ha),
   fun _ _ _ h ⟨hf, hi⟩ => runMbx_accepts h rfl (bodyStrandList_reads hf hi),
   fun _ _ _ h ⟨hf, hi⟩ => runMbx_accepts h rfl (bodyStrandStatus_reads hf hi),
   fun _ _ _ h ⟨hf, hi, hm, ho⟩ => runMbx_accepts h rfl (bodyStrandClose_asks hf hi hm ho),
   fun _ _ _ h ⟨hf, hi, ho, hm⟩ => runMbx_accepts h rfl (bodyStrandClose_closes hf hi ho hm),
   fun _ _ _ h ⟨hf, hr, hl, hring, hk₁, hk₇, hroom⟩ =>
     runMbx_accepts h rfl (bodyStrandSubscribe_adds hf hr hl hring hk₁ hk₇ hroom),
   fun _ _ _ h ⟨hf, hr, hl, hring, hk⟩ => runMbx_accepts h rfl (bodyStrandSubscribe_removes hf hr hl hring hk)⟩

/-- Settles O9. -/
theorem sealCommandsComplete : Obligations.SealCommandsComplete := by
  refine ⟨fun q s s₀ h ⟨h2, h4, hf⟩ => ?id, fun q s s₀ h h1 hl hf => ?cert, fun f n o s h => ⟨?addCa, ?removeCa, ?deny, ?allow⟩,
    fun q s s₀ h ⟨hf, ha, hi⟩ => runMbx_accepts h rfl (bodySealConfig_stores hf ha hi),
    fun q s s₀ h hf hcl he hm hke hkm => ?keys⟩
  case id =>
    change runMbx specScannerTrustImport bodyScannerTrustImport q s = _
    rw [runMbx_admitted h, bodyScannerTrustImport_id h2 h4 hf, settleReply_begins rfl]
  case cert =>
    change runMbx specScannerTrustImport bodyScannerTrustImport q s = _
    rw [runMbx_admitted h, bodyScannerTrustImport_cert h1 hl hf]
    cases (readCert (q.payload.drop 8)).isSome with
    | true => rw [if_pos rfl, if_pos rfl, settleReply_begins rfl]
    | false => simp only [Bool.false_eq_true, if_false, settleReply_reject (show eFormat ≠ sOk by decide)]
  case addCa => exact fun hop hnew hroom => endScannerTrust_addsCa (f := f) hop hnew hroom ▸ endsWith_scannerTrust h
  case removeCa => exact fun hop => endScannerTrust_removesCa (f := f) hop ▸ endsWith_scannerTrust h
  case deny => exact fun hop hnew hroom => endScannerTrust_denies (f := f) hop hnew hroom ▸ endsWith_scannerTrust h
  case allow => exact fun hop => endScannerTrust_allows (f := f) hop ▸ endsWith_scannerTrust h
  case keys =>
    intro cert k
    change runMbx specSealKeySet bodySealKeySet q s = _
    rw [runMbx_admitted h, bodySealKeySet_judgesCert hf hcl he hm hke hkm]
    cases readCert cert with
    | none => exact congrArg (fun t => Host.Outcome.next (finish s t)) (settleReply_reject (by decide))
    | some c =>
      simp only [Option.elim_some]
      cases certFor s₀ (fld q 0 4) c with
      | true => exact congrArg (fun t => Host.Outcome.next (finish s t)) (settleReply_accept rfl)
      | false => exact congrArg (fun t => Host.Outcome.next (finish s t)) (settleReply_reject (by decide))

end Sys2Proof.Machine
end

section
/-! The frames of a strand and its CTRL messages (O31, O32): each row under its guard. -/

namespace Sys2Proof.Machine

/-- A row of a strand that this unit runs is its effect, and what follows every effect. -/
theorem onStrand_acting {s : State} {i : Nat} (hp : powered s = true) (ha : acting s = true) (hi : i < 4096) (k : State → State) :
    onStrand s i k = .next (finish s (k s)) := by
  simp [onStrand, done, hp, ha, hi]

section
variable {s : State} {i : Nat} (hp : powered s = true) (ha : acting s = true) (hi : i < 4096)
include hp ha hi

/-! ### Tags and digests (R115, R126, R131, R194) -/

theorem exec_tagVerifyDone {q : Nat} {w : WSlot} (twinOk : Bool)
    (hw : (strandOf s i).window.find? (fun w => w.seq == q && w.state == .verifying) = some w) :
    exec (.tagVerifyDone i q twinOk) s = .next (finish s (
      if !twinOk && w.twinned then twinFails s i w else if tagOk s i w then verified s i w else tagFails s i w)) := by
  change execTagVerifyDone i q twinOk s = _
  rw [execTagVerifyDone, onStrand_acting hp ha hi]
  simp only [hw]

theorem exec_contentDigestDone {d : DigestEnd}
    (hw : (strandOf s i).window.any (fun w => w.seq == d.seq && w.state == .digesting) = true) (hc : idleFlail s false ≠ []) :
    exec (.contentDigestDone i d) s = .next (finish s (
      if d.datapathOk then advance (setStrand s i { strandOf s i with
        window := (strandOf s i).window.map (fun w =>
          if w.seq == d.seq && w.state == .digesting then
            { w with state := .ready, digest := sha3 (rebuiltHeader w.header ++ w.payload) }
          else w) }) i
      else digestAgain s)) := by
  change execContentDigestDone i d s = _
  rw [execContentDigestDone, onStrand_acting hp ha hi]
  cases hd : d.datapathOk <;> simp [hw, hc]

theorem exec_knotDigestDone {r : Release} (datapathOk : Bool) (hb : (strandOf s i).building = some r) (hr : r.digested = false)
    (hc : idleFlail s false ≠ []) :
    exec (.knotDigestDone i datapathOk) s = .next (finish s (
      if datapathOk then tryChain (setStrand s i { strandOf s i with building := some { r with digested := true } }) i
      else digestAgain s)) := by
  change execKnotDigestDone i datapathOk s = _
  rw [execKnotDigestDone, onStrand_acting hp ha hi]
  simp [hb, hr, hc]

theorem exec_archiveEncryptDone {r : Release} (ok : Bool) (hb : (strandOf s i).building = some r)
    (hr : r.enc = .pending ∨ r.enc = .retry) :
    exec (.archiveEncryptDone i ok) s = .next (finish s (archiveDone s i r ok)) := by
  change execArchiveEncryptDone i ok s = _
  rw [execArchiveEncryptDone, onStrand_acting hp ha hi]
  rcases hr with hr | hr <;> simp [hb, hr]

/-! ### Missing frames and PAUSE (R90, R119, R120) -/

theorem exec_slotMissing {q : Nat} {e : Nat × Nat} (ht : timersRun s i = true) (hn : (strandOf s i).next ≤ q)
    (hm : (strandOf s i).missing.any (fun m => m.1 == q) = false) (he : (strandOf s i).empty.find? (fun x => x.1 == q) = some e) :
    exec (.slotMissing i q) s = .next (finish s (sendNak (advanceTo s (e.2 + 20)) i)) := by
  have hsince : emptySince (strandOf s i) q = some e.2 := by simp [emptySince, hn, hm, he]
  change execSlotMissing i q s = _
  rw [execSlotMissing, onStrand_acting hp ha hi]
  simp [hsince, ht, slotMissing]

theorem exec_nakRepeat (ht : timersRun s i = true) (hm : (strandOf s i).missing.any (fun m => (strandOf s i).next ≤ m.1) = true) :
    exec (.nakRepeat i) s = .next (finish s (sendNak (advanceTo s ((strandOf s i).lastNak + 1000)) i)) := by
  change execNakRepeat i s = _
  rw [execNakRepeat, onStrand_acting hp ha hi]
  simp only [ht, hm, Bool.and_self, if_true]

theorem exec_gapTimeout {m : Nat × Nat} (ht : timersRun s i = true)
    (hm : (strandOf s i).missing.find? (fun m => m.1 == (strandOf s i).next) = some m) :
    exec (.gapTimeout i) s = .next (finish s (buildGap (advanceTo s (m.2 + 5000)) i)) := by
  change execGapTimeout i s = _
  rw [execGapTimeout, onStrand_acting hp ha hi]
  simp only [hm, ht, if_true]

theorem exec_strandPauseRepeat (hk : isKeyed (strandOf s i) = true) (hq : (strandOf s i).pausing = true)
    (hl : overLimit s i = true ∨ frozen s = true) :
    exec (.strandPauseRepeat i) s = .next (finish s (sendPause (advanceTo s ((strandOf s i).lastPause + 500)) i 1000)) := by
  change execStrandPauseRepeat i s = _
  rw [execStrandPauseRepeat, onStrand_acting hp ha hi]
  simp [hk, hq, hl]

end

/-- The tick has come to the time it was advanced to. -/
theorem le_advanceTo_now (s : State) (t : Nat) : t ≤ (advanceTo s t).now := by
  simp only [advanceTo, pass]
  omega

/-- A slot that has been empty for 20 µs is missing (R119). -/
theorem markMissing_lists {st : Strand} {now q : Nat} {e : Nat × Nat} (hn : st.next ≤ q) (hnow : e.2 + 20 ≤ now)
    (hm : st.missing.any (fun m => m.1 == q) = false) (he : st.empty.find? (fun x => x.1 == q) = some e) :
    (markMissing now st).missing.any (fun m => m.1 == q) = true := by
  have hq : e.1 = q := by simpa using List.find?_some he
  have hlate : e ∈ st.empty.filter
      (fun e => st.next ≤ e.1 && e.2 + 20 ≤ now && !st.missing.any (fun m => m.1 == e.1)) :=
    List.mem_filter.mpr ⟨List.mem_of_find?_eq_some he, by simp [hq, hn, hnow, hm]⟩
  exact List.any_eq_true.mpr ⟨(e.1, now), List.mem_append_right _ (List.mem_map_of_mem hlate), by simp [hq]⟩

/-- Settles O31. -/
theorem strandFrameEventsAct : Obligations.StrandFrameEventsAct := fun i s hp ha hi =>
  ⟨fun q w hw => ⟨fun ht => (exec_tagVerifyDone hp ha hi false hw).trans (by simp [ht]), exec_tagVerifyDone hp ha hi true hw⟩,
   fun q hw hc => ⟨exec_contentDigestDone hp ha hi (d := { seq := q }) hw hc,
     exec_contentDigestDone hp ha hi (d := { seq := q, datapathOk := false }) hw hc⟩,
   fun r hb hr hc => ⟨exec_knotDigestDone hp ha hi true hb hr hc, exec_knotDigestDone hp ha hi false hb hr hc⟩,
   fun r ok hb hr => exec_archiveEncryptDone hp ha hi ok hb hr,
   fun q e ht hn hm he => ⟨exec_slotMissing hp ha hi ht hn hm he, markMissing_lists hn (le_advanceTo_now ..) hm he⟩,
   fun ht hm => exec_nakRepeat hp ha hi ht hm,
   fun m ht hm => exec_gapTimeout hp ha hi ht hm,
   fun hk hq hl => exec_strandPauseRepeat hp ha hi hk hq hl⟩

/-! ### CTRL messages (R106) -/

section
variable {s : State} {i : Nat} {w : WSlot} (hw : ctrlAtNext s i = some w)
include hw

/-- A CTRL frame is taken up on an open strand for which a Hand is free, of a unit that acts. -/
theorem opened_of_ctrlAtNext : powered s = true ∧ acting s = true ∧ (strandOf s i).state = .opened := by
  rw [ctrlAtNext] at hw
  split at hw
  case isFalse => cases hw
  case isTrue h =>
    simp only [handFor, handActs, Bool.and_eq_true, beq_iff_eq] at h
    obtain ⟨hopen, ⟨⟨⟨⟨⟨hp, ha⟩, -⟩, -⟩, -⟩, -⟩, -⟩ := h
    exact ⟨hp, ha, hopen⟩

theorem onStrand_ofCtrl (hi : i < 4096) (k : State → State) : onStrand s i k = .next (finish s (k s)) := by
  obtain ⟨hp, ha, -⟩ := opened_of_ctrlAtNext hw
  exact onStrand_acting hp ha hi k

/-- The frame that the row is for: its message has its effect, or it is knotted. -/
theorem onCtrl_taken {msg : Nat} (hm : msgOf w.payload = msg) (valid : State → WSlot → Bool) (eff : State → WSlot → State) :
    onCtrl s i msg valid eff = advance (if (plainMsg w).isSome && valid s w then eff s w else knotCtrl s i w) i := by
  rw [onCtrl, hw]
  simp only [hm, bne_self_eq_false, Bool.false_eq_true, if_false]
  split <;> rfl

theorem exec_openConfirm_onOpen (hi : i < 4096) :
    exec (.openConfirm i) s = .next (finish s (onCtrl s i 3 (fun _ _ => false) (fun s _ => s))) := by
  obtain ⟨-, -, hopen⟩ := opened_of_ctrlAtNext hw
  change execOpenConfirm i s = _
  rw [execOpenConfirm, onStrand_ofCtrl hw hi]
  simp [hopen]

theorem exec_rekeyReq (hi : i < 4096) (hm : msgOf w.payload = 4) :
    exec (.rekeyReq i) s = .next (finish s (if rekeyWaits s i then s
      else advance (if (plainMsg w).isSome && rekeyValid i s w then rekey i s w else knotCtrl s i w) i)) := by
  change execRekeyReq i s = _
  rw [execRekeyReq, onStrand_ofCtrl hw hi, onCtrl_taken hw hm]

theorem exec_unknownCtrl (hi : i < 4096) (hk : knownMsg s i (msgOf w.payload) = false) :
    exec (.unknownCtrl i) s = .next (finish s (advance
      (countStrand (knotCtrl s i w) i (fun c => { c with unknownCtrl := sat32 (c.unknownCtrl + 1) })) i)) := by
  change execUnknownCtrl i s = _
  rw [execUnknownCtrl, onStrand_ofCtrl hw hi]
  simp [hw, hk]

theorem exec_sheafMsgEvent (hi : i < 4096) {b : Binding} (hb : bindingFor s i (msgOf w.payload) = some b) :
    exec (.sheafMsgEvent i) s = .next (finish s (advance (deliver (knotCtrl s i w) i b.sheaf b.table
      { kind := 1, payload := ctrlBody w, msg := msgOf w.payload, seq := w.seq }) i)) := by
  change execSheafMsgEvent i s = _
  rw [execSheafMsgEvent, onStrand_ofCtrl hw hi, msgEvent, hw]
  simp only [hb]

end

/-- A row that only takes up the CTRL frame at NEXT. -/
theorem takesCtrl_of_onCtrl {i msg : Nat} {row : Instr} {valid : State → WSlot → Bool} {eff : State → WSlot → State}
    (h : ∀ s w, ctrlAtNext s i = some w → i < 4096 → exec row s = .next (finish s (onCtrl s i msg valid eff))) :
    TakesCtrl i msg row valid eff := by
  intro w s hw hi hm
  rw [h s w hw hi, onCtrl_taken hw hm]

/-- Settles O32. -/
theorem ctrlMessagesTakeEffect : Obligations.CtrlMessagesTakeEffect := by
  refine fun i => ⟨takesCtrl_of_onCtrl fun s w hw hi => exec_openConfirm_onOpen hw hi, fun w s hw hi hm => exec_rekeyReq hw hi hm,
    takesCtrl_of_onCtrl fun s w hw hi => ?rekeyConfirm, takesCtrl_of_onCtrl fun s w hw hi => ?closeReq,
    takesCtrl_of_onCtrl fun s w hw hi => rfl, takesCtrl_of_onCtrl fun s w hw hi => rfl, takesCtrl_of_onCtrl fun s w hw hi => rfl,
    fun w s hw hi => ⟨fun hk => exec_unknownCtrl hw hi hk, fun b hb => exec_sheafMsgEvent hw hi hb⟩⟩
  case rekeyConfirm =>
    change execRekeyConfirm i s = _
    rw [execRekeyConfirm, onStrand_ofCtrl hw hi]
  case closeReq =>
    change execCloseReq i s = _
    rw [execCloseReq, onStrand_ofCtrl hw hi]

end Sys2Proof.Machine
end

section
/-! The keys of a strand, seals, and the timers and completions of Hands and sheaves (O33, O34): each row under its guard. -/

namespace Sys2Proof.Machine

/-! ### Opening, rekeying and closing (R107–R114) -/

section
variable {s : State} {i : Nat} (hp : powered s = true) (ha : acting s = true) (hi : i < 4096)
include hp ha hi

theorem exec_openReq {p : Nat} {src b : Bytes} (ht : handsTake s = true) (hh : strandHeld s i = false)
    (hn : nextRequest (strandOf s i) = some (p, src, b)) :
    exec (.openReq i) s =
      let t := setStrand s i { strandOf s i with ctrl := (strandOf s i).ctrl.erase (.unkeyed p src b) }
      .next (finish s (
        if reqFormed i 64 b = false then t
        else if openAsked s i p src b = false then s
        else (refusal s i p src b).elim
          (if ownReady s (.opening i) then acceptOpen (ownStops t (.agree i)) i p src b else s)
          (fun r => sendUnkeyed (ownStops t (.agree i)) p src i (strandOf s i).epoch 0x000C (le 2 r ++ zeros 2)))) := by
  change execOpenReq i s = _
  rw [execOpenReq, onStrand_acting hp ha hi]
  cases hr : refusal s i p src b <;> simp [ht, hh, openNext, hn, hr]

theorem exec_openConfirm_onKeying {w : WSlot} (hs : (strandOf s i).state = .keying) (hn : nextReady (strandOf s i) = some w)
    (hh : handFor s i = true) (ht : hType w.header = 2) (hm : msgOf w.payload = 3) :
    exec (.openConfirm i) s = .next (finish s (if confirms (strandOf s i) w then openStrand s i w else s)) := by
  change execOpenConfirm i s = _
  rw [execOpenConfirm, onStrand_acting hp ha hi]
  simp [hs, hn, hh, ht, hm]

theorem exec_keyingTimeout (hs : (strandOf s i).state = .keying) :
    exec (.keyingTimeout i) s =
      let t := discardWindow (advanceTo s (strandOf s i).keyingEnd) i
      .next (finish s (changeState (eraseBank t i (strandOf s i).epoch) i .armed 3)) := by
  change execKeyingTimeout i s = _
  rw [execKeyingTimeout, onStrand_acting hp ha hi]
  simp [hs]

theorem exec_rekeyConfirmTimeout (hs : (strandOf s i).state = .opened) (hr : (strandOf s i).rekeySeq.isSome = true)
    (hh : handFor s i = true) :
    exec (.rekeyConfirmTimeout i) s = .next (finish s (closeNow (advanceTo s (strandOf s i).rekeyEnd) i 3)) := by
  change execRekeyConfirmTimeout i s = _
  rw [execRekeyConfirmTimeout, onStrand_acting hp ha hi]
  simp [hs, hr, hh]

theorem exec_rekeyInterval (hs : (strandOf s i).state = .opened) (hk : (strandOf s i).cfg.rekeyS ≠ 0)
    (hq : (strandOf s i).asked = false) (hr : (strandOf s i).rekeySeq = none) (hh : handFor s i = true) :
    exec (.rekeyInterval i) s =
      let t := advanceTo s ((strandOf s i).epochStart + 1000000 * (strandOf s i).cfg.rekeyS)
      .next (finish s (sendMsg (setStrand t i { strandOf t i with asked := true }) i 7 [])) := by
  change execRekeyInterval i s = _
  rw [execRekeyInterval, onStrand_acting hp ha hi]
  simp [hs, hk, hq, hr, hh]

theorem exec_closeGraceTimeout {t : Nat} (hc : (strandOf s i).closeEnd = some t) (hs : (strandOf s i).state = .opened)
    (hh : handFor s i = true) :
    exec (.closeGraceTimeout i) s = .next (finish s (closeNow (advanceTo s t) i 5)) := by
  change execCloseGraceTimeout i s = _
  rw [execCloseGraceTimeout, onStrand_acting hp ha hi]
  simp [hc, hs, hh]

end

/-- Settles O33. -/
theorem strandKeyEventsAct : Obligations.StrandKeyEventsAct := by
  refine fun i s hp ha hi => ⟨fun p src b ht hh hn => ?openReq,
    fun w hs hn hh ht hm => exec_openConfirm_onKeying hp ha hi hs hn hh ht hm, fun hs => exec_keyingTimeout hp ha hi hs,
    fun hs hr hh => exec_rekeyConfirmTimeout hp ha hi hs hr hh,
    fun hs hk hq hr hh => exec_rekeyInterval hp ha hi hs hk hq hr hh,
    fun at_ hc hs hh => exec_closeGraceTimeout hp ha hi hc hs hh⟩
  case openReq =>
    rw [exec_openReq hp ha hi ht hh hn]
    cases refusal s i p src b <;> rfl

/-! ### Seals (R132–R140, R220) -/

section
variable {s : State} {i : Nat} (hp : powered s = true) (ha : acting s = true) (hi : i < 4096)
include hp ha hi

theorem exec_segmentBoundary (hb : braids (strandOf s i) = true) (hs : stewardServes s = true) :
    exec (.segmentBoundary i) s =
      let st := strandOf s i
      let t := advanceTo s st.nextBoundary
      let u := if st.sinceSeal ≠ 0 then makeSeal t i 1 st.nextBoundary else t
      .next (finish s (setStrand u i { strandOf u i with
        boundary := st.nextBoundary, nextBoundary := st.nextBoundary + st.cfg.segPeriod, segTagFails := 0 })) := by
  change execSegmentBoundary i s = _
  rw [execSegmentBoundary, onStrand_acting hp ha hi]
  simp [hb, hs]

theorem exec_idleSealDue (hb : braids (strandOf s i) = true) (hs : stewardServes s = true) (hd : s.sealIdle ≠ 0) :
    exec (.idleSealDue i) s =
      let t := advanceTo s ((strandOf s i).sealAt + 1000000 * s.sealIdle)
      .next (finish s (makeSeal t i 5 t.now)) := by
  change execIdleSealDue i s = _
  rw [execIdleSealDue, onStrand_acting hp ha hi]
  simp [hb, hs, hd]

theorem exec_sealSignDone {x : Seal} {rest : List Seal} (checkOk : Bool) (hq : (strandOf s i).sealQ = x :: rest)
    (hpause : sheafPaused s = false) (hs : stewardServes s = true) (hr : ownRuns s (.seal i) = true) :
    exec (.sealSignDone i checkOk) s = .next (finish s (
      if checkOk then startJobs (sealSigned (ownTime s (.seal i)) i x rest) else ownFails s (.seal i))) := by
  change execSealSignDone i checkOk s = _
  rw [execSealSignDone, onStrand_acting hp ha hi]
  simp [hq, hpause, hs, hr]

/-! ### Sheaf timers and actions (R265, R273) -/

section
variable {k key : Nat} {b : Binding} {x : Instance} (hpause : sheafPaused s = false) (hx : boundInstance s i k = some (b, key, x))
include hpause hx

theorem exec_sheafTimerExpiry {n t : Nat} (ht : tblFind x.timers n = some t) :
    exec (.sheafTimerExpiry i k n) s = .next (finish s (deliver
      (setInstance (advanceTo s t) i key { x with timers := tblDel x.timers n }) i b.sheaf b.table { kind := 2, timer := n })) := by
  change execSheafTimerExpiry i k n s = _
  rw [execSheafTimerExpiry, onStrand_acting hp ha hi]
  simp [timerEvent, hpause, hx, ht]

theorem exec_sheafActionDone_result {tag st : Nat} {out : Bytes} {a : Async}
    (hfound : x.asyncs.find? (fun a => a.tag == tag) = some a) (hd : a.done = some (st, out)) :
    exec (.sheafActionDone i k tag) s = .next (finish s (raiseDone s i b tag st out (fun y => y == a))) := by
  change execSheafActionDone i k tag s = _
  rw [execSheafActionDone, onStrand_acting hp ha hi]
  simp [actionDone, hpause, hx, hfound, hd]

theorem exec_sheafActionDone_verdict {tag : Nat} {a : Async} {z : ToSign}
    (hfound : x.asyncs.find? (fun a => a.tag == tag) = some a) (hd : a.done = none) (hv : a.verdict = some z)
    (hr : ownReady s (.action key tag) = true) (hc : countersHeld s = false) :
    exec (.sheafActionDone i k tag) s =
      let v := deliverVerdict s b (.action key tag) z
      .next (finish s (raiseDone v.2 i b tag sOk v.1 (fun y => y == a))) := by
  change execSheafActionDone i k tag s = _
  rw [execSheafActionDone, onStrand_acting hp ha hi]
  simp [actionDone, hpause, hx, hfound, hd, hv, hr, hc]

/-- The action's job is at its end, which leaves its result in the sheaf's table. -/
theorem exec_sheafActionDone_job {tag id : Nat} {a y : Async} {j : Job}
    (hfound : x.asyncs.find? (fun a => a.tag == tag) = some a) (hd : a.done = none) (hv : a.verdict = none) (hid : a.job = some id)
    (hj : jobOf s id = some j) (hr : actionReady j = true)
    (hy : (tblFind (startJobs (endAction s j)).instances key).bind (fun x => x.asyncs.find? (fun y => y.tag == tag && y.done.isSome))
      = some y) :
    exec (.sheafActionDone i k tag) s = .next (finish s (raiseDone (startJobs (endAction s j)) i b tag
      ((y.done.map (·.1)).getD 0) ((y.done.map (·.2)).getD []) (fun z => z == y))) := by
  change execSheafActionDone i k tag s = _
  rw [execSheafActionDone, onStrand_acting hp ha hi]
  simp [actionDone, hpause, hx, hfound, hd, hv, hid, hj, hr, hy]

end
end

theorem exec_strandRecordPersist {s : State} (hp : powered s = true) (hm : s.update.mbxReady = true)
    (hr : acting s = true ∨ s.pair.role = .standby) : exec .strandRecordPersist s = .next (finish s (persistStrands s)) := by
  change execStrandRecordPersist s = _
  simp [execStrandRecordPersist, done, hp, hm, hr]

/-! ### Chip sessions and verdicts (R220, R248, R252) -/

section
variable {s : State} {i : Nat} {c : ChipSession} (hc : (strandOf s i).chip = some c) (hh : handFor s i = true)
include hc hh

theorem exec_chipApduTimeout (ho : c.outstanding = true) :
    exec (.chipApduTimeout i) s = .next (finish s (stopChip (advanceTo s (c.cmdTick + 1000 * c.policy.apduMs)) i 4)) := by
  change execChipApduTimeout i s = _
  simp [execChipApduTimeout, done, hc, ho, hh]

theorem exec_chipSessionTimeout :
    exec (.chipSessionTimeout i) s = .next (finish s (stopChip (advanceTo s (c.begun + 1000000 * c.policy.sessionS)) i 4)) := by
  change execChipSessionTimeout i s = _
  simp [execChipSessionTimeout, done, hc, hh]

end

theorem exec_verdictSignDone {s : State} {n : Nat} {v : Verdict} (checkOk : Bool) (hv : s.verdicts.find? (fun v => v.no == n) = some v)
    (hp : powered s = true) (hpause : sheafPaused s = false) (hs : stewardServes s = true) (hb : beyondAcked s 0x7FF00 v.no = false)
    (hr : ownRuns s (.verdict v.no) = true) :
    exec (.verdictSignDone n checkOk) s = .next (finish s (
      if checkOk then startJobs (deliverDoc (ownTime s (.verdict v.no)) v) else ownFails s (.verdict v.no))) := by
  change execVerdictSignDone n checkOk s = _
  simp [execVerdictSignDone, done, hv, hp, hpause, hs, hb, verdictSigned, hr]

/-- Settles O34. -/
theorem sealAndHandEventsAct : Obligations.SealAndHandEventsAct := by
  refine ⟨⟨fun i s hp ha hi hb hs => exec_segmentBoundary hp ha hi hb hs,
      fun i s hp ha hi hb hs hd => exec_idleSealDue hp ha hi hb hs hd,
      fun i x rest s hp ha hi hq hpause hs hr => ⟨?signed, ?checkFailed⟩,
      fun s hp hm hr => exec_strandRecordPersist hp hm hr⟩,
    fun i c s hc hh => ⟨fun ho => exec_chipApduTimeout hc hh ho, exec_chipSessionTimeout hc hh⟩,
    fun n v s hv hp hpause hs hb hr => ⟨?verdictSigned, ?verdictCheckFailed⟩,
    fun i k n t b key x s hp ha hi hpause hx ht => exec_sheafTimerExpiry hp ha hi hpause hx ht,
    fun i k tag b key x a s hp ha hi hpause hx hfound =>
      ⟨fun st out hd => exec_sheafActionDone_result hp ha hi hpause hx hfound hd,
       fun z hd hv hr hc => exec_sheafActionDone_verdict hp ha hi hpause hx hfound hd hv hr hc,
       fun id j y hd hv hid hj hr hy => exec_sheafActionDone_job hp ha hi hpause hx hfound hd hv hid hj hr hy⟩⟩
  case signed => rw [exec_sealSignDone hp ha hi true hq hpause hs hr, if_pos rfl]
  case checkFailed => rw [exec_sealSignDone hp ha hi false hq hpause hs hr, if_neg (by decide)]
  case verdictSigned => rw [exec_verdictSignDone true hv hp hpause hs hb hr, if_pos rfl]
  case verdictCheckFailed => rw [exec_verdictSignDone false hv hp hpause hs hb hr, if_neg (by decide)]

end Sys2Proof.Machine
end

section
/-! The Hatch window and the fall-back digest (O28, O29): a write that counts meets its register's effect, and each effect has one
equation per case. -/

namespace Sys2Proof.Machine

/-! ### Who may write -/

section
variable {s : State} (hp : powered s = true)
include hp

/-- A write without a holder (R179). -/
theorem hatchWrite_unheld (hh : s.hatch.held = false) (k : State → State) :
    hatchWrite k s = { s with hatch := { s.hatch with lastUse := s.now, notHeld := true } } := by
  simp [hatchWrite, hp, hatchTouched, hh]

/-- A write under the Steward's hold (R13, R181). -/
theorem hatchWrite_internal (hh : s.hatch.held = true) (hi : s.hatch.internal = true) (k : State → State) :
    hatchWrite k s = hatchTouched s := by
  simp [hatchWrite, hp, hatchTouched, hh, hi]

/-- A write under a hold of the host's has its register's effect. -/
theorem hatchWrite_held (hh : s.hatch.held = true) (hi : s.hatch.internal = false) (k : State → State) :
    hatchWrite k s = k (hatchTouched s) := by
  simp [hatchWrite, hp, hatchTouched, hh, hi]

/-- A row under a hold of the host's leaves what its register's effect gives. -/
theorem exec_ofHatchWrite (hh : s.hatch.held = true) (hi : s.hatch.internal = false) {i : Instr} {t : State} (k : State → State)
    (hrow : exec i s = done s (hatchWrite k s)) (hk : k (hatchTouched s) = t) : exec i s = .next (finish s t) := by
  rw [hrow, hatchWrite_held hp hh hi, hk, done]

end

/-- Each row that writes a register but the lock's is a guarded write. -/
theorem exec_hatchWrites (word : Nat) : ∀ i ∈ hatchWrites word, ∃ k, ∀ s, exec i s = done s (hatchWrite k s) := by
  unfold hatchWrites
  repeat refine List.forall_mem_cons.mpr ⟨⟨_, fun _ => rfl⟩, ?_⟩
  exact List.forall_mem_nil _

/-- Settles O29. -/
theorem hatchWritesNeedTheLock : Obligations.HatchWritesNeedTheLock := by
  intro word i s hi hp
  obtain ⟨k, hk⟩ := exec_hatchWrites word i hi
  refine ⟨fun hh => ?unheld, fun hh hint => ?internal⟩
  case unheld => rw [hk, hatchWrite_unheld hp hh, done]
  case internal => rw [hk, hatchWrite_internal hp hh hint, done]

/-! ### The lock -/

section
variable {s : State} {v : Nat} (hp : powered s = true) (hv : v % 65536 ≠ 0xFFFF)
include hp hv

theorem hatchLock_acquires (hb : bit v 16 = false) (h0 : v % 65536 ≠ 0) (hh : s.hatch.held = false) :
    hatchLock v s = { s with hatch := { s.hatch with
      lastUse := s.now, held := true, internal := false, tag := v % 65536, client := 0 } } := by
  simp [hatchLock, hp, hv, hatchTouched, hb, h0, hh]

theorem hatchLock_releases (hb : bit v 16 = true) (hh : s.hatch.held = true) (ht : s.hatch.tag = v % 65536) :
    hatchLock v s = releaseLock (hatchTouched s) := by
  simp [hatchLock, hp, hv, hatchTouched, hb, hh, ht]

end

theorem exec_hatchIdleRelease {s : State} (hp : powered s = true) (hh : s.hatch.held = true) (hi : s.hatch.internal = false) :
    exec .hatchIdleRelease s = .next (finish s (releaseLock (advanceTo s (s.hatch.lastUse + 10000)))) := by
  change execHatchIdleRelease s = _
  simp [execHatchIdleRelease, done, hp, hh, hi]

/-! ### An operation's START and end (R178) -/

section
variable {s : State} {r : Nat}

theorem tryHatch_refused (h : hatchRefused s = some r ∨
    (hatchRefused s = none ∧ fenced s (hIndex s.hatch.key) = false ∧ hatchKeyRefused s = some r)) :
    tryHatch s = { s with hatch := hatchEnds s.hatch r } := by
  rcases h with h | ⟨h, hf, hk⟩
  · simp [tryHatch, h]
  · simp [tryHatch, h, hf, hk]

theorem tryHatch_begins (h : hatchRefused s = none) (hf : fenced s (hIndex s.hatch.key) = false) (hk : hatchKeyRefused s = none)
    (hw : hatchWaits s = false) : tryHatch s = hatchBegins s := by
  simp [tryHatch, h, hf, hk, hw]

theorem hatchStart_notBusy (hb : s.hatch.busy = false) : hatchStart s = tryHatch s := by simp [hatchStart, hb]

theorem hatchFinal_busy (hb : s.hatch.busy = true) (hs : s.hatch.starting = false) :
    hatchFinal s = { s with hatch := { s.hatch with finishing := true, ready := false } } := by
  simp [hatchFinal, hb, hs]

theorem hatchSubmit_ready (hr : s.hatch.ready = true) (w : Nat) :
    hatchSubmit w s = { s with hatch := hatchAbsorbs s.hatch (inputWord s.hatch.din w) } := if_pos hr

theorem exec_hatchOperationDone (hp : powered s = true) (hf : s.hatch.finishing = true) (hb : s.hatch.inBlock = false) :
    exec .hatchOperationDone s = .next (finish s { s with hatch := hatchFinishes s.hatch }) := by
  change execHatchOperationDone s = _
  simp [execHatchOperationDone, done, hp, hf, hb]

end

/-! ### The fall-back digest (R197, R198) -/

section
variable {s : State}

theorem flailStart_notBusy (hb : s.flail.busy = false) : flailStart s = flailBegins s := by simp [flailStart, hb]

theorem flailFinal_busy (hb : s.flail.busy = true) :
    flailFinal s = flailJoins s { s.flail with finishing := true, ready := false } := if_pos hb

theorem flailSubmit_ready (hr : s.flail.ready = true) (w : Nat) :
    flailSubmit w s = flailJoins s (flailAbsorbs s.flail (inputWord s.flail.din w)) := if_pos hr

theorem flailWorks_onCore {c : Nat} (hc : s.flail.core = some c) (k : FlailPath → FlailPath) :
    flailWorks k s =
      startJobs (if Config.flailFails s.rng then flailSpoiled (draw s) c else { draw s with flail := k s.flail }) := by
  simp [flailWorks, hc]

end

/-- Settles O28: the lock and the operation's registers, then the fall-back path. -/
theorem hatchAndFallbackCommandsComplete : Obligations.HatchAndFallbackCommandsComplete := by
  refine ⟨⟨fun v s hp hb h0 hv hh => ?acquire, fun v s hp hb hv hh ht => ?release, fun s => exec_hatchIdleRelease,
      fun s hp hh hi hb => ⟨fun hr hf hk hw => ?begins, fun r hr => ?refused⟩,
      fun s hp hh hi hb hs => exec_ofHatchWrite hp hh hi hatchFinal rfl (hatchFinal_busy (s := hatchTouched s) hb hs),
      fun s hp hh hi => exec_ofHatchWrite hp hh hi hatchAbort rfl rfl,
      fun w s hp hh hi hr => exec_ofHatchWrite hp hh hi (hatchSubmit w) rfl (hatchSubmit_ready (s := hatchTouched s) hr w),
      fun s hp => congrArg (done s) (if_pos hp), fun s hp => congrArg (done s) (if_pos hp), fun s => exec_hatchOperationDone⟩,
    ⟨fun s hp hh hi hb => exec_ofHatchWrite hp hh hi flailStart rfl (flailStart_notBusy (s := hatchTouched s) hb),
      fun s hp hh hi hb => exec_ofHatchWrite hp hh hi flailFinal rfl (flailFinal_busy (s := hatchTouched s) hb),
      fun s hp hh hi => exec_ofHatchWrite hp hh hi flailAbort rfl rfl,
      fun w s hp hh hi hr => exec_ofHatchWrite hp hh hi (flailSubmit w) rfl (flailSubmit_ready (s := hatchTouched s) hr w),
      fun c s hp hw hc => ?wordDone, fun k s hp hb => ?early, fun c s hp hf hw hc => ?digestDone⟩⟩
  case acquire =>
    change execHatchLockAcquire v s = _
    rw [execHatchLockAcquire, if_neg (by simp [hb]), hatchLock_acquires hp hv hb h0 hh, done]
  case release =>
    change execHatchLockRelease v s = _
    rw [execHatchLockRelease, if_pos hb, hatchLock_releases hp hv hb hh ht, done]
  case begins =>
    exact exec_ofHatchWrite hp hh hi hatchStart rfl
      ((hatchStart_notBusy (s := hatchTouched s) hb).trans (tryHatch_begins hr hf hk hw))
  case refused =>
    exact exec_ofHatchWrite hp hh hi hatchStart rfl ((hatchStart_notBusy (s := hatchTouched s) hb).trans (tryHatch_refused hr))
  case wordDone =>
    change execFlailWordDone s = _
    rw [execFlailWordDone, if_pos (by simp [hp, hw]), flailWorks_onCore hc, done]
  case early => exact congrArg (done s) (if_pos (by simp [hp, hb]))
  case digestDone =>
    change execFlailFallbackDone s = _
    rw [execFlailFallbackDone, if_pos (by simp [hp, hf, hw]), flailWorks_onCore hc, done]

end Sys2Proof.Machine
end

section
/-! The context commands, TWIN_SET and CURVE_LIST (O7), and the alarm commands (O19): what each command's body gives where its checks
pass, and how a SELF_TEST ends. -/

namespace Sys2Proof.Machine

/-! ### How the mailbox goes on with what a body gives -/

section
variable {c : CmdSpec} {body : MbxReq → State → Reply} {q : MbxReq} {s s₀ t : State} (h : admitted c q s = some s₀)
include h

/-- An admitted deferred command whose own checks pass starts. -/
theorem runMbx_begins (hd : c.deferred = true) (hb : body q s₀ = accept t []) :
    runMbx c body q s = .next (finish s (begins c q t none [])) := by
  rw [runMbx_admitted h, hb, settleReply_begins hd]

/-- An admitted command that its own checks turn away answers why. -/
theorem runMbx_rejects {st d : Nat} (hst : st ≠ sOk) (hb : body q s₀ = reject t st d) :
    runMbx c body q s = .next (finish s (decline c q t st d)) := by
  rw [runMbx_admitted h, hb, settleReply_reject hst]

/-- An admitted command whose body waits holds its mailbox. -/
theorem runMbx_waits {w : HeldFor} (hb : body q s₀ = { st := t, hold := some w }) :
    runMbx c body q s = .next (finish s (waitsFor c q t w)) := by
  rw [runMbx_admitted h, hb, settleReply_waits]

end

/-- An operation that may end ends with its code's work. -/
theorem endsWith_finishOp {s : State} {f n code : Nat} {o : DefOp} (h : mayEnd s f n o code) : EndsWith s f n (finishOp s f o) := by
  obtain ⟨ho, -, hw, -⟩ := h
  change execDeferredOpEnd f n s = _
  simp [execDeferredOpEnd, done, ho, hw]

/-! ### What the bodies of the context commands give -/

section
variable {q : MbxReq} {s : State}

theorem bodyContextClaim_claims (hf : wellFormed q 4 []) (hc : fld q 0 4 < 16384) (hfree : tblFind s.contexts (fld q 0 4) = none)
    (hroom : (s.contexts.filter (fun e => e.2.holder == q.fn)).length < 2048) :
    bodyContextClaim q s = accept (setContext s (fld q 0 4) { holder := q.fn, floor := chooseFloor s })
      (le 4 (fld q 0 4) ++ le 1 (chooseFloor s) ++ zeros 3) := by
  have hany : (fld q 0 4 == 0xFFFFFFFF) = false := beq_false_of_ne (by omega)
  rw [bodyContextClaim, withFormat_ok hf]
  simp only [hany, Bool.false_eq_true, if_false, Nat.not_le.mpr hc, hfree, claimContext, Nat.not_le.mpr hroom, claimReply]

theorem withOwnContext_held {x : Context} (hf : wellFormed q 4 []) (hc : fld q 0 4 < 16384)
    (hx : tblFind s.contexts (fld q 0 4) = some x) (hh : x.holder = q.fn) (k : Nat → Context → Reply) :
    withOwnContext q s k = k (fld q 0 4) x := by
  rw [withOwnContext, withFormat_ok hf]
  simp [Nat.not_le.mpr hc, hx, hh]

theorem bodyContextInfo_reads (hf : wellFormed q 4 []) (hc : fld q 0 4 < 16384) :
    bodyContextInfo q s = accept s (contextBytes s q.fn (fld q 0 4)) := by
  rw [bodyContextInfo, withFormat_ok hf, if_neg (Nat.not_le.mpr hc)]

/-- Discarding the digest messages keeps an open cipher message. -/
theorem msg_filter_notDigest (m : Option Message) :
    m.filter (fun m => !digestMessage m) = if m.any (fun m => !digestMessage m) then m else none := by
  cases m <;> rfl

theorem bodyTwinSet_sets (hf : wellFormed q 4 [(1, 3)]) (hv : fld q 0 1 ≤ 1) :
    bodyTwinSet q s = accept (startJobs ((List.range 6).foldl linkPauseCheck
      (share { s with twin := fld q 0 1 == 1 } (.twin (fld q 0 1 == 1))))) [] := by
  rw [bodyTwinSet, withFormat_ok hf, if_neg (Nat.not_lt.mpr hv)]

end

/-- Settles O7. -/
theorem contextCommandsComplete : Obligations.ContextCommandsComplete := by
  refine ⟨fun q s s₀ h ⟨hf, hc, hfree, hroom⟩ => runMbx_accepts h rfl (bodyContextClaim_claims hf hc hfree hroom),
    fun q s s₀ x h hf hc hx hh hb => runMbx_accepts h rfl ?release,
    fun q s s₀ h ⟨hf, hc⟩ => runMbx_accepts h rfl (bodyContextInfo_reads hf hc),
    fun q s s₀ x h hf hc hx hh hb => runMbx_accepts h rfl ?reset,
    fun q s s₀ h ⟨hf, hv⟩ => runMbx_accepts h rfl (bodyTwinSet_sets hf hv),
    fun q s s₀ h hf => runMbx_accepts h rfl (withFormat_ok hf)⟩
  case release =>
    rw [bodyContextRelease, withOwnContext_held hf hc hx hh, if_neg (by simpa [or_iff_not_imp_left] using hb)]
  case reset =>
    rw [bodyDigestContextReset, withOwnContext_held hf hc hx hh, if_neg (by simp [hb]), msg_filter_notDigest]

/-! ### What the bodies of the alarm commands give -/

section
variable {q : MbxReq} {s : State}

theorem bodyMonitorConfig_stores (hf : wellFormed q 12 [(2, 2), (8, 4)]) (hm : fld q 0 1 < 32) (hl : fld q 1 1 ≤ 5)
    (ht : thresholdOk s (fld q 0 1) (fld q 4 4) = true) (hfloor : monitorFloor (fld q 0 1) ≤ fld q 1 1) :
    bodyMonitorConfig q s =
      let w := monitorOf s (fld q 0 1)
      let t := if fld q 4 4 == 0x80000000 then w.threshold else toSigned 4 (fld q 4 4)
      accept (share (setMonitor s (fld q 0 1) { w with level := fld q 1 1, threshold := t })
        (.monitor (fld q 0 1) (fld q 1 1) t)) [] := by
  rw [bodyMonitorConfig, withFormat_ok hf, if_neg (Nat.not_le.mpr hm), if_neg (Nat.not_lt.mpr hl), if_neg (by simp [ht]),
    if_neg (Nat.not_lt.mpr hfloor)]

theorem bodySelfTest_starts (hf : wellFormed q 8 []) (hv : fld q 4 4 ≤ 1) :
    bodySelfTest q s =
      let t := setScarecrow s { s.scarecrow with testing := true }
      accept (if fld q 4 4 == 1 then holdInternal t else t) [] := by
  rw [bodySelfTest, withFormat_ok hf, if_neg (by omega)]

/-- A THAW that nothing bars turns on its two evaluations. -/
theorem bodyThaw_evaluates (hf : wellFormed q 0 []) (hl : s.scarecrow.latched ≠ 5) (hb : thawBlocker s = none) :
    bodyThaw q s =
      if s.scarecrow.compat != 1 && Config.thawDisagrees s.rng then thawRefused s else accept (thawAll s) [] := by
  rw [bodyThaw, withFormat_ok hf, if_neg (by simpa using hl)]
  simp only [hb]

end

theorem finishOp_selfTest {s : State} {f n : Nat} {o : DefOp} (h : mayEnd s f n o 0x0C03) : finishOp s f o = endSelfTest s f o := by
  obtain ⟨-, hcode, -, hgone, hp⟩ := h
  simp [finishOp, hgone, hcode, hp]

/-- Settles O19. -/
theorem alarmCommandsComplete : Obligations.AlarmCommandsComplete := by
  refine ⟨fun q s s₀ h hf => runMbx_accepts h rfl (withFormat_ok hf),
    fun q s s₀ h ⟨hf, hm, hl, ht, hfloor⟩ => runMbx_accepts h rfl (bodyMonitorConfig_stores hf hm hl ht hfloor),
    fun q s s₀ h ⟨hf, hv⟩ => runMbx_begins h rfl (bodySelfTest_starts hf hv),
    fun f n o s h hw => ?tells, fun q s s₀ h hf hl hb => ?thaw,
    fun q s s₀ h hf => runMbx_accepts h rfl (withFormat_ok hf)⟩
  case tells =>
    have hend := finishOp_selfTest h ▸ endsWith_finishOp h
    rwa [endSelfTest, if_neg (by simp [hw])] at hend
  case thaw =>
    have hbody := bodyThaw_evaluates hf hl hb
    split_ifs at hbody ⊢
    · exact runMbx_rejects h (by decide) hbody
    · exact runMbx_accepts h rfl hbody

end Sys2Proof.Machine
end

section
/-! The commands that bring keys into slots and out of them (O3). The conditions on a wrapped key's command are grouped by what they
speak of: its payload, its slots, its keys. -/

namespace Sys2Proof.Machine

/-! ### Checks that the key commands share -/

/-- No field is out of range where no condition holds. -/
theorem firstField_eq_none {l : List (Bool × Nat)} : firstField l = none ↔ ∀ e ∈ l, e.1 = false := by
  simp [firstField]

/-- A command that names a slot without a write under way goes on. -/
theorem awaitSlot_unfenced {s : State} {i : Nat} (h : fenced s i = false) (k : Reply) : awaitSlot s i k = k := by
  simp [awaitSlot, h]

/-! ### KEY_GENERATE and KEY_IMPORT -/

section
variable {q : MbxReq} {s : State} {i : Nat}

theorem bodyKeyGenerate_starts (hf : wellFormed q 16 [(5, 1), (12, 4)]) (hfields : firstField (badKeyFields q s) = none)
    (hfence : fenced s (hIndex (qHandle q)) = false) (hpub : publicType (fld q 4 1) = false)
    (hcls : hClass (qHandle q) ∈ typeClasses (fld q 4 1)) (ht : writeTarget s q.fn (qHandle q) (fld q 4 1) (fld q 8 4) = .ok i) :
    bodyKeyGenerate q s = accept s [] := by
  rw [bodyKeyGenerate, withFormat_ok hf]
  simp [hfields, awaitSlot_unfenced hfence, hpub, hcls, ht]

theorem bodyKeyImport_writes (hf : wellFormed q (16 + fld q 12 2) [(5, 1), (14, 2)])
    (hfields : firstField (badKeyFields q s) = none) (hlen : keyLen s (fld q 4 1) (fld q 6 2) = some (q.payload.drop 16).length)
    (hfence : fenced s (hIndex (qHandle q)) = false) (hgen : hClass (qHandle q) = clsGeneral ∨ hClass (qHandle q) = clsPublic)
    (hcls : hClass (qHandle q) ∈ typeClasses (fld q 4 1)) (ht : writeTarget s q.fn (qHandle q) (fld q 4 1) (fld q 8 4) = .ok i)
    (hm : materialOk s (fld q 4 1) (fld q 6 2) (q.payload.drop 16) = true) :
    bodyKeyImport q s = beginWrite s q 0x0102 i (hClass (qHandle q))
      (some { cls := hClass (qHandle q), type := fld q 4 1, set := fld q 6 2, attr := fld q 8 4, material := q.payload.drop 16 }) true
      (le 4 (handle (hClass (qHandle q)) (nextGen (genOf s i)) i)) := by
  have hall : firstField (badKeyFields q s ++ [(keyLen s (fld q 4 1) (fld q 6 2) != some (q.payload.drop 16).length, 44)]) = none :=
    firstField_eq_none.mpr (List.forall_mem_append.mpr ⟨firstField_eq_none.mp hfields, by simp [hlen]⟩)
  rw [bodyKeyImport, withFormat_ok hf]
  simp only [hall]
  rw [awaitSlot_unfenced hfence, if_neg (by simpa [hcls, or_iff_not_imp_left] using hgen)]
  simp only [ht]
  rw [if_neg (by simp [hm])]

end

/-! ### The end of KEY_GENERATE -/

theorem finishOp_keyGenerate {s : State} {f n : Nat} {o : DefOp} (h : mayEnd s f n o 0x0101) :
    finishOp s f o = endKeyGenerate s f o := by
  obtain ⟨-, hcode, -, hgone, hp⟩ := h
  simp [finishOp, hgone, hcode, hp]

/-- The write that takes a generated key to its slot. -/
def generatedWrite (s : State) (f : Nat) (o : DefOp) (i : Nat) : SlotWrite :=
  let cls := hClass (rd o.payload 0 4)
  let t := rd o.payload 4 1
  let set := rd o.payload 6 2
  { index := i, newGen := true, fn := f, code := 0x0101, tag := o.tag, payload := o.payload, purgeClass := cls, op := some o.no
    content := some { cls, type := t, set, attr := rd o.payload 8 4
                      material := fit ((keyLen s t set).getD 0) (Config.keyGen t set s.rng) }
    reply := le 4 (handle cls (nextGen (genOf s i)) i) ++ zeros 12 }

theorem endKeyGenerate_writes {s : State} {f i : Nat} {o : DefOp}
    (hw : s.writes.any (fun w => w.fn == f && w.op == some o.no) = false) (hfence : fenced s (hIndex (rd o.payload 0 4)) = false)
    (hpub : publicType (rd o.payload 4 1) = false) (hcls : hClass (rd o.payload 0 4) ∈ typeClasses (rd o.payload 4 1))
    (ht : writeTarget s f (rd o.payload 0 4) (rd o.payload 4 1) (rd o.payload 8 4) = .ok i) (hmade : pairMade s f o = true) :
    endKeyGenerate s f o =
      let u := ownEnds (draw s) (.keyPair f o.no)
      { u with writes := u.writes ++ [generatedWrite s f o i] } := by
  rw [endKeyGenerate, if_neg (by simp only [hw, hfence]; decide), if_neg (by simp [hpub, hcls])]
  simp only [ht]
  rw [if_neg (by simp [hmade])]
  rfl

/-! ### KEY_EXPORT_WRAPPED -/

/-- KEY_EXPORT_WRAPPED for key `k` under wrapper `w` passes its own checks (R290, R296). -/
structure ExportPasses (q : MbxReq) (s : State) (k w : KeySlot) : Prop where
  format : wellFormed q 12 [(9, 3)]
  handle : badIndex (hIndex (qHandle q)) = false
  wrapper : wrongIndex (fld q 8 1 == 1) (fld q 4 4) = false
  method : fld q 8 1 ≠ 0 ∧ fld q 8 1 ≤ 3
  ownSlots : strandIndex (hIndex (qHandle q)) = false ∧ strandIndex (hIndex (fld q 4 4)) = false
  unfenced : fenced s (hIndex (qHandle q)) = false ∧ fenced s (hIndex (fld q 4 4)) = false
  key : keyAt s (qHandle q) = .ok k
  wrapKey : keyAt s (fld q 4 4) = .ok w
  allowed : mayManage k q.fn = true ∧ mayUse w q.fn = true
  keyExports : (k.cls = clsGeneral ∨ k.cls = clsEvidence) ∧ bit k.attr aExportable = true
  wrapperWraps : bit w.attr aWrap = true ∧ fitsExport (fld q 8 1) w = true
  undamaged : k.damaged = false ∧ w.damaged = false

theorem bodyKeyExportWrapped_wraps {q : MbxReq} {s : State} {k w : KeySlot} (h : ExportPasses q s k w) :
    bodyKeyExportWrapped q s = onCustodyCore q s fun s => accept (draw s) (blobOf s (fld q 8 1) k w) := by
  obtain ⟨hf, hh, hw, ⟨hm0, hm3⟩, ⟨hks, hws⟩, ⟨hkf, hwf⟩, hk, hwk, ⟨hmk, hmw⟩, ⟨hcls, hex⟩, ⟨hwrap, hfit⟩, hkd, hwd⟩ := h
  rw [bodyKeyExportWrapped, withFormat_ok hf]
  dsimp only
  rw [firstField_eq_none.mpr (by simp [hh, hw, hm0, hm3])]
  dsimp only
  rw [if_neg (by simp [hks, hws]), awaitSlot_unfenced hkf, awaitSlot_unfenced hwf, hk, hwk]
  dsimp only
  rw [if_neg (by simp [hmk, hmw]), if_neg (by simpa [hex, or_iff_not_imp_left] using hcls),
    if_neg (by simp [hwrap, hfit]), if_neg (by simp [hkd, hwd])]

/-! ### KEY_IMPORT_WRAPPED -/

/-- The blob of KEY_IMPORT_WRAPPED (Table 10-6). -/
def importBlob (q : MbxReq) : Bytes := q.payload.drop 12

/-- The blob's fields, and the handles beside it, are in range (Table 10-6, R287, R295). -/
structure ImportInRange (q : MbxReq) (s : State) (b : Bytes) : Prop where
  format : wellFormed q (12 + fld q 8 2) [(10, 2), (24, 4), (40, 4)]
  length : b.length = 32 + rd b 24 2 + rd b 26 2
  version : rd b 0 1 = 1
  method : rd b 1 1 ≠ 0 ∧ rd b 1 1 ≤ 3
  type : keyType (rd b 2 1) = true ∧ publicType (rd b 2 1) = false
  cls : rd b 3 1 ≤ 2
  set : keyLen s (rd b 2 1) (rd b 4 2) = some (rd b 6 2)
  attr : attrReserved (rd b 8 4) = false ∧ (rd b 3 1 == clsCustody && bit (rd b 8 4) aExportable) = false
  wrappedLen : rd b 26 2 = wrappedLen (rd b 6 2)
  encLen : encLens (rd b 1 1) (rd b 24 2) = true
  handle : badWriteHandle (qHandle q) (rd b 2 1) = false
  wrapper : wrongIndex (rd b 1 1 == 1) (fld q 4 4) = false

/-- ATTR of an imported key: the importing client owns it (R295). -/
def importAttr (q : MbxReq) : Nat := rd (importBlob q) 8 4 % 2 ^ 16 + q.fn * 2 ^ 16

/-- The wrapper may unwrap the blob, whose key may go to slot `i` (R293, R296). -/
structure ImportAllowed (q : MbxReq) (s : State) (b : Bytes) (wk : KeySlot) (i : Nat) : Prop where
  wrapperSlot : strandIndex (hIndex (fld q 4 4)) = false
  unfenced : fenced s (hIndex (qHandle q)) = false ∧ fenced s (hIndex (fld q 4 4)) = false
  wrapKey : keyAt s (fld q 4 4) = .ok wk
  unwraps : mayUse wk q.fn = true ∧ bit wk.attr aUnwrap = true ∧ fitsImport (rd b 1 1) wk = true
  cls : rd b 3 1 = hClass (qHandle q) ∧ rd b 3 1 ∈ typeClasses (rd b 2 1)
  undamaged : wk.damaged = false
  encLen : rd b 24 2 = encLen (rd b 1 1) wk.set
  target : writeTarget s q.fn (qHandle q) (rd b 2 1) (importAttr q) = .ok i

/-- What the blob unwraps to under the wrapper: the blob's header and the key, where the one agrees and the other has its length. -/
def unwrappedBlob (b : Bytes) (wk : KeySlot) : Option Bytes :=
  ((importKek (rd b 1 1) wk (slice b 32 (rd b 24 2))).bind
    (fun kek => Config.kwpUnwrap kek (slice b (32 + rd b 24 2) (rd b 26 2)))).filter
    (fun p => p.take 16 == b.take 16 && p.length == 16 + rd b 6 2)

/-- The imported key's write begins. -/
def importWrites (q : MbxReq) (i : Nat) (s : State) (p : Bytes) : Reply :=
  let b := importBlob q
  beginWrite s q 0x0103 i (rd b 3 1)
    (some { cls := rd b 3 1, type := rd b 2 1, set := rd b 4 2, attr := importAttr q, material := p.drop 16 }) true
    (le 4 (handle (rd b 3 1) (nextGen (genOf s i)) i))

theorem bodyKeyImportWrapped_unwraps {q : MbxReq} {s : State} {wk : KeySlot} {i : Nat} (hr : ImportInRange q s (importBlob q))
    (ha : ImportAllowed q s (importBlob q) wk i) :
    bodyKeyImportWrapped q s =
      if slice (importBlob q) 16 8 ≠ fit 8 (wrapperKid s (rd (importBlob q) 1 1) wk) then reject s eAuth 0
      else onCustodyCore q s fun s =>
        (unwrappedBlob (importBlob q) wk).elim (reject s eAuth 0) (importWrites q i s) := by
  obtain ⟨hf, hlen, hver, ⟨hm0, hm3⟩, ⟨hty, hpub⟩, hc, hset, ⟨hres, hexp⟩, hwl, henc, hh, hw⟩ := hr
  obtain ⟨hws, ⟨hhf, hwf⟩, hwk, ⟨huse, hun, hfit⟩, ⟨hcls, hmem⟩, hd, hel, ht⟩ := ha
  rw [bodyKeyImportWrapped, withFormat_ok hf]
  dsimp only
  rw [← importBlob,
    firstField_eq_none.mpr (by simp [hlen, hver, hm0, hm3, hty, hpub, hc, hset, hres, hexp, hwl, henc, hh, hw])]
  dsimp only
  rw [if_neg (by simp [hws]), awaitSlot_unfenced hhf, awaitSlot_unfenced hwf, hwk]
  dsimp only
  rw [if_neg (by simp [huse, hun, hfit, hcls]), if_neg (by simp [hmem]), if_neg (by simp [hd]), if_neg (by simp [hel]),
    ← importAttr, ht]
  dsimp only
  refine if_congr (by simp) rfl (congrArg (onCustodyCore q s) (funext fun t => ?_))
  rw [unwrappedBlob, Option.elim_filter]
  cases (importKek (rd (importBlob q) 1 1) wk (slice (importBlob q) 32 (rd (importBlob q) 24 2))).bind _ with
  | none => rfl
  | some p =>
    by_cases hp : p.take 16 = (importBlob q).take 16 ∧ p.length = 16 + rd (importBlob q) 6 2
    · simp [hp, importWrites]
    · have hbad : (p.take 16 != (importBlob q).take 16 || p.length != 16 + rd (importBlob q) 6 2) = true := by
        simpa [or_iff_not_imp_left] using hp
      simp [hbad, hp]

/-- Settles O3. -/
theorem keyMaterialCommandsComplete : Obligations.KeyMaterialCommandsComplete := by
  refine ⟨⟨fun q s s₀ h ⟨hf, hfields, hfence, hpub, hcls, i, ht⟩ =>
        runMbx_begins h rfl (bodyKeyGenerate_starts hf hfields hfence hpub hcls ht),
      fun f n o s i h hw hfence hpub hcls ht hmade => ?generated⟩,
    fun q s s₀ i h hf hfields hlen hfence hgen hcls ht hm =>
      runMbx_waits h (bodyKeyImport_writes hf hfields hlen hfence hgen hcls ht hm),
    fun q s s₀ k w h hf hh hw hm0 hm3 hks hws hkf hwf hk hwk hmk hmw hcls hex hwrap hfit hkd hwd => ?exported,
    fun q s s₀ wk i h hf hlen hver hm0 hm3 hty hpub hc hset hres hexp hwl henc hh hw hws hhf hwf hwk huse hun hfit hcls
      hmem hd hel ht => ?imported⟩
  case generated =>
    have hend := endsWith_finishOp h
    rwa [finishOp_keyGenerate h, endKeyGenerate_writes hw hfence hpub hcls ht hmade] at hend
  case exported =>
    have hbody := bodyKeyExportWrapped_wraps
      ⟨hf, hh, hw, ⟨hm0, hm3⟩, ⟨hks, hws⟩, ⟨hkf, hwf⟩, hk, hwk, ⟨hmk, hmw⟩, ⟨hcls, hex⟩, ⟨hwrap, hfit⟩, hkd, hwd⟩
    rw [onCustodyCore] at hbody
    split_ifs at hbody ⊢
    · exact runMbx_rejects h (by decide) hbody
    · exact runMbx_accepts h rfl hbody
  case imported =>
    have hbody := bodyKeyImportWrapped_unwraps
      ⟨hf, hlen, hver, ⟨hm0, hm3⟩, ⟨hty, hpub⟩, hc, hset, ⟨hres, hexp⟩, hwl, henc, hh, hw⟩
      ⟨hws, ⟨hhf, hwf⟩, hwk, ⟨huse, hun, hfit⟩, ⟨hcls, hmem⟩, hd, hel, ht⟩
    rw [importBlob, onCustodyCore] at hbody
    split_ifs at hbody ⊢
    · exact runMbx_rejects h (by decide) hbody
    · exact runMbx_rejects h (by decide) hbody
    · dsimp only
      rw [← unwrappedBlob]
      generalize unwrappedBlob (q.payload.drop 12) wk = o at hbody ⊢
      cases o with
      | none => exact runMbx_rejects h (by decide) hbody
      | some p => exact runMbx_waits h hbody

end Sys2Proof.Machine
end

section
/-! The trust store's commands (O11), and the verdict keys, the DS-certificate cache and the policies (O12): what each command's body
gives where its checks pass, and how the two imports end. -/

namespace Sys2Proof.Machine

section
variable {q : MbxReq} {s : State}

/-! ### What the bodies of the verdict key and policy commands give -/

/-- The verdict keys that VERDICT_KEY_SET names. -/
def namedVerdictKeys (q : MbxReq) : SignKeys :=
  { alg := fld q 0 1, ecdsa := fld q 4 4, mldsa := fld q 8 4, cert := q.payload.drop 16, named := true }

theorem bodyVerdictKeySet_judgesCert (hf : wellFormed q (16 + fld q 12 2) [(1, 3), (14, 2)])
    (halg : fld q 0 1 = 2 ∨ (fld q 0 1 = 1 ∧ fld q 8 4 = 0)) (he : wrongIndex false (fld q 4 4) = false)
    (hm : wrongIndex false (fld q 8 4) = false) (hke : signKeyFault s (fld q 4 4) 0x10 0x0002 = none)
    (hkm : fld q 0 1 = 2 → signKeyFault s (fld q 8 4) 0x14 65 = none) :
    bodyVerdictKeySet q s =
      (readCert (q.payload.drop 16)).elim (reject s eFormat 48) (fun c =>
        if certFor s (fld q 4 4) c
        then accept (share { s with verdictKeys := namedVerdictKeys q } (.verdictKeys (namedVerdictKeys q))) []
        else reject s eDenied 0) := by
  have hknown : (fld q 0 1 != 1 && fld q 0 1 != 2) = false := by rcases halg with h | ⟨h, -⟩ <;> simp [h]
  have hmldsa : (fld q 0 1 == 1 && fld q 8 4 != 0) = false := by rcases halg with h | ⟨-, h⟩ <;> simp [h]
  rw [bodyVerdictKeySet, withFormat_ok hf]
  simp only [hknown, hmldsa]
  exact withSignKeys_judgesCert he hm hke fun h => hkm (beq_iff_eq.mp h)

theorem bodyVerifyPolicySet_stores (hf : wellFormed q 32 [(22, 10)]) (hp : badPolicy (fld q 0 2) (payloadPolicy q) = none) :
    bodyVerifyPolicySet q s =
      accept (share { s with policies := tblSet s.policies (fld q 0 2) (payloadPolicy q) }
        (.policy (fld q 0 2) (payloadPolicy q))) [] := by
  rw [bodyVerifyPolicySet, withFormat_ok hf]
  simp only [hp]

end

/-- Settles O12. -/
theorem verdictPolicyCommandsComplete : Obligations.VerdictPolicyCommandsComplete := by
  refine ⟨fun q s s₀ h hf halg he hm hke hkm => ?keys, fun q s s₀ h hf => runMbx_accepts h rfl (withFormat_ok hf),
    fun q s s₀ h ⟨hf, hp⟩ => runMbx_accepts h rfl (bodyVerifyPolicySet_stores hf hp)⟩
  case keys =>
    have hbody := bodyVerdictKeySet_judgesCert hf halg he hm hke hkm
    dsimp only
    cases hc : readCert (q.payload.drop 16) with
    | none =>
      rw [hc] at hbody
      exact runMbx_rejects h (by decide) hbody
    | some c =>
      rw [hc, Option.elim_some] at hbody
      dsimp only
      split_ifs at hbody ⊢
      · exact runMbx_accepts h rfl hbody
      · exact runMbx_rejects h (by decide) hbody

section
variable {q : MbxReq} {s : State}

/-! ### The two imports (R231–R233) -/

/-- An import starts with what its DMA brings. -/
theorem runMbx_import {c : CmdSpec} {s₀ : State} {file : Option Bytes} (h : admitted c q s = some s₀) (hd : c.deferred = true)
    (hf : wellFormed q 16 [(12, 4)]) : runMbx c (bodyImport file) q s = .next (finish s (begins c q s₀ file [])) := by
  rw [runMbx_admitted h, bodyImport, withFormat_ok hf]
  exact congrArg (fun t => Host.Outcome.next (finish s t)) (settleReply_begins hd)

variable {f n : Nat} {o : DefOp} {b : Bytes}

theorem finishOp_masterList (h : mayEnd s f n o 0x0602) : finishOp s f o = endMasterList s f o := by
  obtain ⟨-, hcode, -, hgone, hp⟩ := h
  simp [finishOp, hgone, hcode, hp]

theorem finishOp_crl (h : mayEnd s f n o 0x0603) : finishOp s f o = endCrl s f o := by
  obtain ⟨-, hcode, -, hgone, hp⟩ := h
  simp [finishOp, hgone, hcode, hp]

/-- A file that is no master list adds nothing. -/
theorem endMasterList_unparsed (hfile : importFile o 4194304 = .ok b) (hp : Config.parseMasterList b = none) :
    endMasterList s f o = endOp s f o eAuth 0 (importRecord 0 0 1) := by
  simp only [endMasterList, hfile, hp]

/-- The certificates of a master list that are not stored yet, each once. -/
def freshCscas (s : State) (m : MasterList) : List Bytes := m.certs.eraseDups.filter (fun d => !storedCsca s d)

/-- A master list counts once its signature holds, and its accepted certificates commit together or not at all. -/
theorem endMasterList_parsed {m : MasterList} (hfile : importFile o 4194304 = .ok b) (hp : Config.parseMasterList b = some m) :
    endMasterList s f o =
      let good := (freshCscas s m).filter (fun d => (cscaFault s (parsedCerts m.certs) d).isNone)
      let bad := (freshCscas s m).filterMap (cscaFault s (parsedCerts m.certs))
      if masterListSigned s m then
        (cscaLimit s good).elim (endOp (addCscas s good) f o sOk 0 (importRecord good.length bad.length (bad.headD 0)))
          (fun limit => endOp s f o eLimit limit (importRecord 0 0 0))
      else endOp s f o eAuth 0 (importRecord 0 0 3) := by
  simp only [endMasterList, hfile, hp, ← freshCscas.eq_def]
  cases masterListSigned s m with
  | false => rfl
  | true =>
    simp only [Bool.not_true, Bool.false_eq_true, if_false, if_true]
    cases cscaLimit s _ <;> rfl

theorem endCrl_unreadable (hfile : importFile o 1048576 = .ok b) (hc : readCrl b = none) :
    endCrl s f o = endOp s f o eAuth 0 (importRecord 0 1 1) := by
  simp only [endCrl, hfile, hc]

/-- The stored CSCA that a CRL names as its issuer (R233). -/
def crlIssuer (s : State) (c : CrlInfo) : Option (Nat × Bytes × CertInfo × Bool) :=
  (cscas s).find? (fun e => e.2.2.1.subject == c.issuer && e.2.2.1.ski == c.aki)

theorem endCrl_withoutIssuer {c : CrlInfo} (hfile : importFile o 1048576 = .ok b) (hc : readCrl b = some c)
    (hi : crlIssuer s c = none) : endCrl s f o = endOp s f o eAuth 0 (importRecord 0 1 4) := by
  rw [crlIssuer] at hi
  simp only [endCrl, hfile, hc, hi]

/-- A CRL of a stored CSCA goes through the checks of its signature, then of its age, then of the store's limits. -/
theorem endCrl_issued {c : CrlInfo} {id : Nat} {der : Bytes} {i : CertInfo} {link : Bool}
    (hfile : importFile o 1048576 = .ok b) (hc : readCrl b = some c) (hi : crlIssuer s c = some (id, der, i, link)) :
    endCrl s f o =
      if sigListed s c.sigAlg c.sigHash i = false then endOp s f o eAuth 0 (importRecord 0 1 2)
      else if certVerifies c.sigAlg c.sigHash i.pub c.tbs c.sig = false then endOp s f o eAuth 0 (importRecord 0 1 3)
      else if (crlOf s id).any (fun e => c.thisUpdate ≤ e.2.2.1) then endOp s f o eTooLate 0 (importRecord 0 1 8)
      else (crlLimit s id b c).elim (endOp (storeCrl s id b i.country c) f o sOk 0 (importRecord 1 0 0))
        (fun limit => endOp s f o eLimit limit (importRecord 0 0 0)) := by
  rw [crlIssuer] at hi
  simp only [endCrl, hfile, hc, hi, Bool.not_eq_true']
  cases crlOf s id <;> cases crlLimit s id b c <;> rfl


/-! ### TRUST_IMPORT_IS_KEY (R234) -/

theorem withCustodyKey_present {h : Nat} {k : KeySlot} (hk : keyAt s h = .ok k) (hs : k.session = false) (hc : k.cls = clsCustody)
    (ha : asymIndex (hIndex h) = true) (hd : k.damaged = false) (g : KeySlot → Reply) : withCustodyKey s h g = g k := by
  simp [withCustodyKey, hk, hs, hc, ha, hd]

/-- The store with the chain from `top` to `last` in the place of those with the same ends. -/
def withChain (s : State) (key : Nat) (top last : CvCert) (certs : List Bytes) : State :=
  let w := (cvWindow last).getD (0, 0)
  addTrust ((sameChains s top.car last.chr).foldl (fun s i => setTrust s i none) s)
    (.chain key top.car last.chr (top.car.take 2) w.1 w.2 certs)

theorem storeChain_stores {key : Nat} {top last : CvCert} {certs : List Bytes} (hroom : chainCount s < 256) :
    storeChain s key top last certs = accept (withChain s key top last certs) (le 4 s.trustNo) := by
  rw [storeChain]
  exact if_neg (by omega)

/-- The `n` certificates `cs`, the last of them `last`, are a chain to key `k`. -/
def chainHolds (s : State) (k : KeySlot) (n : Nat) (cs : List CvCert) (last : CvCert) : Bool :=
  cs.length == n && cs.all (fun c => (cvWindow c).isSome) && chainOk cs && publicOf s k == some last.pub

/-- The command's own test, that one of the conditions fails, is the opposite. -/
theorem chainFault_eq (s : State) (k : KeySlot) (n : Nat) (cs : List CvCert) (last : CvCert) :
    (cs.length != n || cs.any (fun c => (cvWindow c).isNone) || !chainOk cs || publicOf s k != some last.pub) =
      !chainHolds s k n cs last := by
  simp only [chainHolds, Bool.not_and, bne, List.not_all_eq_any_not, Option.not_isSome]

/-- What TRUST_IMPORT_IS_KEY gives for the certificates it could read. -/
def chainReply (q : MbxReq) (s : State) (k : KeySlot) : List CvCert → Reply
  | [] => reject s eAuth 0
  | top :: rest =>
    let last := rest.getLast?.getD top
    if chainHolds s k (fld q 4 1) (top :: rest) last
    then accept (withChain s (fld q 0 4) top last (splitCerts q.payload (fld q 4 1) 8).1) (le 4 s.trustNo)
    else reject s eAuth 0

theorem bodyTrustImportIsKey_judgesChain {k : KeySlot} (hlen : 8 ≤ q.payload.length) (h1 : 1 ≤ fld q 4 1) (h4 : fld q 4 1 ≤ 4)
    (hf : wellFormed q (splitCerts q.payload (fld q 4 1) 8).2 [(5, 3)]) (hw : wrongIndex false (fld q 0 4) = false)
    (hcerts : ∀ c ∈ (splitCerts q.payload (fld q 4 1) 8).1, c.length ≤ 1024)
    (hkey : ∀ g, withCustodyKey s (fld q 0 4) g = g k) (hroom : chainCount s < 256) :
    bodyTrustImportIsKey q s = chainReply q s k ((splitCerts q.payload (fld q 4 1) 8).1.filterMap Config.parseCvCert) := by
  have hcount : (fld q 4 1 == 0 || 4 < fld q 4 1) = false := by simp; omega
  have hshort : ((splitCerts q.payload (fld q 4 1) 8).1.any fun c => 1024 < c.length) = false := by simpa using hcerts
  simp only [bodyTrustImportIsKey, if_neg (Nat.not_lt.mpr hlen), hw, hcount, withFormat_ok hf, hshort, hkey, Bool.false_eq_true,
    if_false]
  cases (splitCerts q.payload (fld q 4 1) 8).1.filterMap Config.parseCvCert with
  | nil => rfl
  | cons top rest =>
    simp only [List.head?_cons, List.getLast?_cons, chainReply, storeChain_stores hroom]
    rw [chainFault_eq]
    cases chainHolds s k (fld q 4 1) (top :: rest) (rest.getLast?.getD top) <;> rfl

/-! ### TRUST_LIST (R235) -/

theorem bodyTrustList_reads (hf : wellFormed q 8 [(1, 3)]) (h1 : 1 ≤ fld q 0 1) (h3 : fld q 0 1 ≤ 3) :
    bodyTrustList q s =
      let l := s.trust.filter (fun e => trustKind e.2 == fld q 0 1 && fld q 4 4 ≤ e.1)
      accept s (le 2 (l.take 62).length ++ le 2 (ofBool (62 < l.length)) ++ (l.take 62).flatMap (fun e => trustBytes s e.1 e.2)) := by
  rw [bodyTrustList, withFormat_ok hf, if_neg (by simp; omega)]

end

/-- Settles O11. -/
theorem trustCommandsComplete : Obligations.TrustCommandsComplete := by
  refine ⟨fun q file s s₀ h hf => runMbx_import h rfl hf, fun q file s s₀ h hf => runMbx_import h rfl hf,
    fun f n o b s h hfile => ?masterList, fun f n o b s h hfile => ?crl,
    fun q s s₀ k h hlen h1 h4 => ?isKey,
    fun q s s₀ h ⟨hf, h1, h3⟩ => runMbx_accepts h rfl (bodyTrustList_reads hf h1 h3),
    fun q s s₀ h hf => runMbx_accepts h rfl (withFormat_ok hf)⟩
  case masterList =>
    have hend := finishOp_masterList h ▸ endsWith_finishOp h
    cases hp : Config.parseMasterList b with
    | none => rwa [endMasterList_unparsed hfile hp] at hend
    | some m =>
      rw [endMasterList_parsed hfile hp] at hend
      dsimp only [freshCscas] at hend ⊢
      cases hlim : cscaLimit s _ <;> rwa [hlim] at hend
  case crl =>
    have hend := finishOp_crl h ▸ endsWith_finishOp h
    intro fails
    cases hc : readCrl b with
    | none => rwa [endCrl_unreadable hfile hc] at hend
    | some c =>
      cases hi : crlIssuer s c with
      | none =>
        rw [endCrl_withoutIssuer hfile hc hi] at hend
        rw [crlIssuer] at hi
        simpa only [hi] using hend
      | some e =>
        obtain ⟨id, der, i, link⟩ := e
        rw [endCrl_issued hfile hc hi] at hend
        rw [crlIssuer] at hi
        simp only [hi]
        cases hl : crlLimit s id b c <;> rwa [hl] at hend
  case isKey =>
    intro certs hf hw hcerts hk hs hcls ha hd hroom cs
    have hbody := bodyTrustImportIsKey_judgesChain hlen h1 h4 hf hw hcerts (withCustodyKey_present hk hs hcls ha hd) hroom
    change _ = chainReply q s₀ k cs at hbody
    generalize cs = l at hbody ⊢
    cases l with
    | nil => exact runMbx_rejects h (by decide) hbody
    | cons top rest =>
      simp only [List.head?_cons, List.getLast?_cons, ← chainHolds.eq_def]
      rw [chainReply] at hbody
      split_ifs at hbody ⊢
      · exact runMbx_accepts h rfl hbody
      · exact runMbx_rejects h (by decide) hbody

end Sys2Proof.Machine
end

section
/-! The sheaf commands (O13): what each command's body gives where its checks pass, and how a SHEAF_LOAD ends. -/

namespace Sys2Proof.Machine

/-! ### The end of SHEAF_LOAD (R262) -/

section
variable {s : State} {f n : Nat} {o : DefOp}

theorem finishOp_sheafLoad (h : mayEnd s f n o 0x0701) : finishOp s f o = endSheafLoad s f o := by
  obtain ⟨-, hcode, -, hgone, hp⟩ := h
  simp [finishOp, hgone, hcode, hp]

section
variable {b : Bytes} (hl : loadLimits s (rd o.payload 8 4) = none) (hb : o.file = some b)
include hl hb

/-- A file that fails a check is told as `loadFails` tells it. -/
theorem endSheafLoad_fails {e : LoadFault} (he : checkSheaf s (fit (rd o.payload 8 4) b) (rd o.payload 8 4) = .error e) :
    endSheafLoad s f o = loadFails s f o e (faultWorst (fit (rd o.payload 8 4) b) (rd o.payload 8 4) e) := by
  simp only [endSheafLoad, hl, hb, he]

/-- A file that passes every check is committed. -/
theorem endSheafLoad_commits {head : SheafFile} {t : Sections} {curves : List Curve}
    (he : checkSheaf s (fit (rd o.payload 8 4) b) (rd o.payload 8 4) = .ok (head, t, curves)) :
    endSheafLoad s f o =
      let r := commitSheaf s (fit (rd o.payload 8 4) b) head t curves
      endOp r.2 f o sOk 0 (loadRecord r.1 0 0xFFFF t.worst 0) := by
  simp only [endSheafLoad, hl, hb, he]

end

end

/-! ### What the bodies of the other sheaf commands give -/

section
variable {q : MbxReq} {s : State}

theorem bodySheafRemove_removes (hf : wellFormed q 4 [(1, 3)]) (hs : tblHas s.sheaves (fld q 0 1) = true) :
    bodySheafRemove q s = accept (removeSheaf s (fld q 0 1)) [] := by
  rw [bodySheafRemove, withFormat_ok hf, if_neg (by simp [hs])]

/-- The strands that SHEAF_BIND names, from FIRST to LAST. -/
def namedStrands (q : MbxReq) : List Nat := (List.range (fld q 2 2 + 1 - fld q 0 2)).map (· + fld q 0 2)

/-- The binding that SHEAF_BIND names. -/
def namedBinding (q : MbxReq) : Binding := { sheaf := fld q 4 1, table := fld q 5 1, client := fld q 7 1, ring := fld q 8 1 }

section
variable (hf : wellFormed q 12 [(9, 3)]) (hr : fld q 0 2 ≤ fld q 2 2) (hl : fld q 2 2 < 4096)
  (hm : (msgRange s (fld q 4 1) (fld q 5 1)).isSome) (hc : fld q 7 1 < 64) (hring : fld q 8 1 < 4)

include hr hl hm hc hring in
/-- No field of a binding is out of range where the sheaf's check, which depends on OP, passes. -/
theorem sheafBind_inRange {absent : Bool} (hop : fld q 6 1 = 1 ∨ fld q 6 1 = 2) (hs : absent = false) :
    firstField [(4096 ≤ fld q 0 2 || fld q 2 2 < fld q 0 2, 32), (4096 ≤ fld q 2 2, 34), (absent, 36),
      ((msgRange s (fld q 4 1) (fld q 5 1)).isNone, 37), (fld q 6 1 != 1 && fld q 6 1 != 2, 38), (64 ≤ fld q 7 1, 39),
      (4 ≤ fld q 8 1, 40)] = none := by
  have hfirst : fld q 0 2 < 4096 := hr.trans_lt hl
  have hrange : (msgRange s (fld q 4 1) (fld q 5 1)).isNone = false := by simpa using hm
  have hknown : (fld q 6 1 != 1 && fld q 6 1 != 2) = false := by rcases hop with h | h <;> simp [h]
  rw [hs, hrange, hknown]
  simpa [firstField_eq_none] using ⟨⟨hfirst, hr⟩, hl, hc, hring⟩

include hf hr hl hm hc hring

/-- OP 1 adds the binding on every strand named, where none refuses it. -/
theorem bodySheafBind_binds (hop : fld q 6 1 = 1) (hs : (sheafOf s (fld q 4 1)).isSome)
    (hb : (namedStrands q).any (bindRefused s (namedBinding q)) = false) :
    bodySheafBind q s =
      accept ((namedStrands q).foldl (fun s i => setBindings s i (bindingsOf s i ++ [namedBinding q])) s) [] := by
  have hsheaf : (if fld q 6 1 == 2 then !tblHas s.sheaves (fld q 4 1) else (sheafOf s (fld q 4 1)).isNone) = false := by
    simpa [hop] using hs
  rw [bodySheafBind, withFormat_ok hf]
  simp only [sheafBind_inRange hr hl hm hc hring (.inl hop) hsheaf]
  rw [if_neg (by simp [hop])]
  exact if_neg (Bool.eq_false_iff.mp hb)

/-- OP 2 ends the table's bindings on every strand named. -/
theorem bodySheafBind_unbinds (hop : fld q 6 1 = 2) (hs : tblHas s.sheaves (fld q 4 1) = true) :
    bodySheafBind q s =
      accept ((namedStrands q).foldl
        (fun s i => unbindOn s i (fun c => c.sheaf == fld q 4 1 && c.table == fld q 5 1)) s) [] := by
  have hsheaf : (if fld q 6 1 == 2 then !tblHas s.sheaves (fld q 4 1) else (sheafOf s (fld q 4 1)).isNone) = false := by
    simp [hop, hs]
  rw [bodySheafBind, withFormat_ok hf]
  simp only [sheafBind_inRange hr hl hm hc hring (.inr hop) hsheaf]
  exact if_pos (by simp [hop])

end

section
variable (hf : wellFormed q 12 [(2, 2)]) (hn : fld q 0 1 ≤ 3) (he : wrongIndex false (fld q 4 4) = false)
  (hm : wrongIndex false (fld q 8 4) = false)

include hn he hm in
/-- No field of a signer is out of range. -/
theorem sheafSignerSet_inRange (hop : fld q 1 1 = 1 ∨ fld q 1 1 = 2) :
    firstField [(3 < fld q 0 1, 32), (fld q 1 1 != 1 && fld q 1 1 != 2, 33), (wrongIndex false (fld q 4 4), 36),
      (wrongIndex false (fld q 8 4), 40)] = none := by
  have hknown : (fld q 1 1 != 1 && fld q 1 1 != 2) = false := by rcases hop with h | h <;> simp [h]
  rw [hknown, he, hm]
  simpa [firstField_eq_none] using hn

include hf hn he hm

/-- OP 1 sets the signer once its keys pass; a second key of 0 is none, and is not checked. -/
theorem bodySheafSignerSet_sets (hop : fld q 1 1 = 1) (hke : signerKeyFault s (fld q 4 4) 0x11 0x0002 = none)
    (hkm : fld q 8 4 ≠ 0 → signerKeyFault s (fld q 8 4) 0x15 65 = none) :
    bodySheafSignerSet q s =
      accept { s with signers := tblSet s.signers (fld q 0 1) { ecdsa := fld q 4 4, mldsa := fld q 8 4 } } [] := by
  have hmldsa : (if fld q 8 4 == 0 then none else signerKeyFault s (fld q 8 4) 0x15 65) = none := by simpa using hkm
  rw [bodySheafSignerSet, withFormat_ok hf]
  simp only [sheafSignerSet_inRange hn he hm (.inl hop)]
  rw [if_neg (by simp [hop])]
  simp only [hke, Option.orElse_none, hmldsa]

theorem bodySheafSignerSet_removes (hop : fld q 1 1 = 2) :
    bodySheafSignerSet q s = accept { s with signers := tblDel s.signers (fld q 0 1) } [] := by
  rw [bodySheafSignerSet, withFormat_ok hf]
  simp only [sheafSignerSet_inRange hn he hm (.inr hop)]
  exact if_pos (by simp [hop])

end

end

/-- Settles O13. -/
theorem sheafCommandsComplete : Obligations.SheafCommandsComplete := by
  refine ⟨fun q file s s₀ h hf => runMbx_import h rfl hf, fun f n o b s h hl hb => ?load,
    fun q s s₀ h hf => runMbx_accepts h rfl (withFormat_ok hf),
    fun q s s₀ h ⟨hf, hs⟩ => runMbx_accepts h rfl (bodySheafRemove_removes hf hs),
    fun q s s₀ h hf hr hl hm hc hring =>
      ⟨fun hop hs hb => runMbx_accepts h rfl (bodySheafBind_binds hf hr hl hm hc hring hop hs hb),
       fun hop hs => runMbx_accepts h rfl (bodySheafBind_unbinds hf hr hl hm hc hring hop hs)⟩,
    fun q s s₀ h hf hn he hm =>
      ⟨fun hop hke hkm => runMbx_accepts h rfl (bodySheafSignerSet_sets hf hn he hm hop hke hkm),
       fun hop => runMbx_accepts h rfl (bodySheafSignerSet_removes hf hn he hm hop)⟩⟩
  case load =>
    have hend := finishOp_sheafLoad h ▸ endsWith_finishOp h
    intro file
    cases hc : checkSheaf s file (rd o.payload 8 4) with
    | error e => rwa [endSheafLoad_fails hl hb hc] at hend
    | ok r =>
      obtain ⟨head, t, curves⟩ := r
      rwa [endSheafLoad_commits hl hb hc] at hend

end Sys2Proof.Machine
end

section
/-! The commands that speak of one key slot (O4), and the time and Ledger commands (O6): what each command's body gives where its
checks pass. -/

namespace Sys2Proof.Machine

/-! ### What the bodies of the slot commands give -/

section
variable {q : MbxReq} {s : State} {k : KeySlot}

/-- A slot of the client's own range, without a write under way, is looked at. -/
theorem onSlot_free (hi : badIndex (hIndex (qHandle q)) = false) (hs : strandIndex (hIndex (qHandle q)) = false)
    (hfence : fenced s (hIndex (qHandle q)) = false) (r : Reply) : onSlot q s r = r := by
  simp [onSlot, hi, hs, awaitSlot_unfenced hfence]

/-- A handle that stands for a key names a slot that holds it. -/
theorem tblFind_of_keyAt {h : Nat} (hk : keyAt s h = .ok k) : tblFind s.keys (hIndex h) = some k := by
  unfold keyAt at hk
  split at hk
  · cases hk
  · split_ifs at hk
    cases hk
    assumption

theorem namedKey_allowed {may : KeySlot → Bool} (hk : keyAt s (qHandle q) = .ok k) (hmay : may k = true) (r : KeySlot → Reply) :
    namedKey q s may r = r k := by
  simp [namedKey, tblFind_of_keyAt hk, hmay, hk]

theorem bodyKeyDestroy_erases (hf : wellFormed q 4 []) (hi : badIndex (hIndex (qHandle q)) = false)
    (hs : strandIndex (hIndex (qHandle q)) = false) (hfence : fenced s (hIndex (qHandle q)) = false)
    (hk : keyAt s (qHandle q) = .ok k) (hm : mayManage k q.fn = true) :
    bodyKeyDestroy q s = beginWrite s q 0x0105 (hIndex (qHandle q)) k.cls none false [] := by
  rw [bodyKeyDestroy, withFormat_ok hf, onSlot_free hi hs hfence, namedKey_allowed hk hm]

theorem bodyKeySetAttr_writes (hf : wellFormed q 8 []) (ha : attrReserved (fld q 4 4) = false)
    (hi : badIndex (hIndex (qHandle q)) = false) (hs : strandIndex (hIndex (qHandle q)) = false)
    (hfence : fenced s (hIndex (qHandle q)) = false) (hk : keyAt s (qHandle q) = .ok k) (hm : mayManage k q.fn = true)
    (hallowed : attrForbidden k.attr (fld q 4 4) q.fn = false) :
    bodyKeySetAttr q s = beginWrite s q 0x0107 (hIndex (qHandle q)) k.cls (some { k with attr := fld q 4 4 }) false [] := by
  rw [bodyKeySetAttr, withFormat_ok hf, if_neg (by simp [hi]), if_neg (by simp [ha]), onSlot_free hi hs hfence,
    namedKey_allowed hk hm, if_neg (by simp [hallowed])]

/-- KEY_INFO answers for an empty slot as well, and for a key to those who may manage it or share it. -/
theorem bodyKeyInfo_reads (hf : wellFormed q 4 []) (hi : badIndex (hIndex (qHandle q)) = false)
    (hs : strandIndex (hIndex (qHandle q)) = false) (hfence : fenced s (hIndex (qHandle q)) = false)
    (hm : ∀ k, tblFind s.keys (hIndex (qHandle q)) = some k → (mayManage k q.fn || bit k.attr aShared) = true) :
    bodyKeyInfo q s = accept s (keyInfoBytes s (hIndex (qHandle q))) := by
  rw [bodyKeyInfo, withFormat_ok hf, onSlot_free hi hs hfence]
  split
  · rw [if_neg (by simp [hm _ ‹_›])]
  · rfl

theorem bodyKeyPublicRead_reads {p : Bytes} (hf : wellFormed q 4 []) (hi : badIndex (hIndex (qHandle q)) = false)
    (hs : strandIndex (hIndex (qHandle q)) = false) (hfence : fenced s (hIndex (qHandle q)) = false)
    (hk : keyAt s (qHandle q) = .ok k) (hm : (mayManage k q.fn || bit k.attr aShared) = true) (hd : k.damaged = false)
    (hp : publicOf s k = some p) :
    bodyKeyPublicRead q s = accept s (le 2 p.length ++ zeros 2 ++ p) := by
  rw [bodyKeyPublicRead, withFormat_ok hf, onSlot_free hi hs hfence, namedKey_allowed hk hm, if_neg (by simp [hd]), hp]

end

/-- Settles O4. -/
theorem keySlotCommandsComplete : Obligations.KeySlotCommandsComplete :=
  ⟨fun _ _ _ _ h hf hi hs hfence hk hm => runMbx_waits h (bodyKeyDestroy_erases hf hi hs hfence hk hm),
   fun _ _ _ _ h hf ha hi hs hfence hk hm hallowed =>
    runMbx_waits h (bodyKeySetAttr_writes hf ha hi hs hfence hk hm hallowed),
   fun _ _ _ h ⟨hf, hi, hs, hfence, hm⟩ => runMbx_accepts h rfl (bodyKeyInfo_reads hf hi hs hfence hm),
   fun _ _ _ _ _ h hf hi hs hfence hk hm hd hp =>
    runMbx_accepts h rfl (bodyKeyPublicRead_reads hf hi hs hfence hk hm hd hp)⟩

/-! ### What the bodies of the time commands give -/

section
variable {q : MbxReq} {s : State} {k : KeySlot}

theorem bodyTimeKeySet_names (hf : wellFormed q 4 []) (hi : wrongIndex false (fld q 0 4) = false)
    (hcls : hClass (fld q 0 4) = clsPublic) (hk : keyAt s (fld q 0 4) = .ok k) (htype : k.type = 0x11) (hset : k.set = 2)
    (hv : bit k.attr aVerify = true) :
    bodyTimeKeySet q s = accept { s with almanac := { s.almanac with timeKey := fld q 0 4 } } [] := by
  rw [bodyTimeKeySet, withFormat_ok hf, if_neg (by simp [hi]), if_neg (by simp [hcls]), hk]
  simp [htype, hset, hv]

/-- A time statement whose reference is recent and new, and whose step is at most 300 s, turns on its signature alone. -/
theorem bodyTimeSet_verifies {a : Almanac} (ha : timeStatement s (fld q 0 8) (fld q 8 8) (fld q 16 2) = a)
    (hf : wellFormed q 120 [(20, 4)]) (hk : ownKey s s.almanac.timeKey = some k) (hv : bit k.attr aVerify = true)
    (hleap : 10 ≤ fld q 16 2 ∧ fld q 16 2 ≤ 100) (hres : fld q 18 2 = 0)
    (hrecent : fld q 0 8 ≤ s.now ∧ s.now < fld q 0 8 + 10000000)
    (hnew : s.almanac.refSet = true → s.almanac.lastRef < fld q 0 8)
    (hstep : -300000000 ≤ timeStep s a ∧ timeStep s a ≤ 300000000) :
    bodyTimeSet q s =
      if verifyP384 k.material (timeMessage s q.payload) (slice q.payload 24 96)
      then accept (share { s with almanac := a } (.time (timeCopy a)))
        (leInt 8 a.offset ++ le 4 a.uncertainty ++ zeros 4 ++ leInt 8 (timeStep s a))
      else reject s eAuth 0 := by
  rw [bodyTimeSet, withFormat_ok hf, hk]
  dsimp only
  rw [ha, if_neg (by simp [hv]), if_neg (by simp [hleap]), if_neg (by simp [hres]), if_neg (by simpa [hrecent] using hnew),
    if_neg (c := (s.almanac.offsetSet && _) = true) (by simp [hstep])]
  simp only [Bool.not_eq_true', ← Bool.not_eq_true, ite_not]

/-- What LEDGER_HEAD answers before SIG_ALG (R312). -/
def ledgerHeadFields (q : MbxReq) (s : State) : Bytes :=
  let oldest := match s.ledger.entries with
    | [] => 0
    | e :: _ => e.seq
  le 8 s.ledger.seq ++ le 8 oldest ++ fit 32 (ledgerHead s.ledger) ++ le 8 s.ident.serial ++ le 8 s.now ++
    fit 32 q.payload

theorem bodyLedgerHead_unsigned (hf : wellFormed q 32 []) (hk : namedSealKey s = none) :
    bodyLedgerHead q s = accept s (ledgerHeadFields q s ++ le 2 0 ++ zeros 6 ++ zeros 96) := by
  rw [bodyLedgerHead, withFormat_ok hf, hk]
  rfl

/-- While a seal key is named, LEDGER_HEAD turns on whether that key may sign. -/
theorem bodyLedgerHead_signs (hf : wellFormed q 32 []) (hk : namedSealKey s = some k) :
    bodyLedgerHead q s =
      let b := ledgerHeadFields q s ++ le 2 1 ++ zeros 6
      if bit k.attr aSign then accept (draw s) (b ++ signP384 s k.material (ascii "OPM-LEDGER" ++ b)) else reject s eDenied 0 := by
  rw [bodyLedgerHead, withFormat_ok hf, hk]
  cases hsign : bit k.attr aSign <;> simp only [hsign] <;> rfl

end

/-- Settles O6. -/
theorem timeAndLedgerCommandsComplete : Obligations.TimeAndLedgerCommandsComplete := by
  refine ⟨⟨fun q s s₀ h hf => runMbx_accepts h rfl (withFormat_ok hf), fun q s s₀ h hf => runMbx_accepts h rfl (withFormat_ok hf),
      fun q s s₀ k h hf hi hcls hk ht hset hv => runMbx_accepts h rfl (bodyTimeKeySet_names hf hi hcls hk ht hset hv),
      fun q s s₀ k h hf hk hv hl₁ hl₂ hres hr₁ hr₂ hnew => ?set⟩,
    fun q s s₀ h hf => runMbx_accepts h rfl (withFormat_ok hf), fun q s s₀ h hf => ?head⟩
  case set =>
    intro a hlow hhigh
    have hbody := bodyTimeSet_verifies rfl hf hk hv ⟨hl₁, hl₂⟩ hres ⟨hr₁, hr₂⟩ hnew ⟨hlow, hhigh⟩
    split_ifs at hbody ⊢
    · exact runMbx_accepts h rfl hbody
    · exact runMbx_rejects h (by decide) hbody
  case head =>
    dsimp only
    cases hk : namedSealKey s₀ with
    | none => exact runMbx_accepts h rfl (bodyLedgerHead_unsigned hf hk)
    | some k =>
      have hbody := bodyLedgerHead_signs hf hk
      dsimp only at hbody ⊢
      split_ifs at hbody ⊢
      · exact runMbx_accepts h rfl hbody
      · exact runMbx_rejects h (by decide) hbody

end Sys2Proof.Machine
end

section
/-! Ledger entries (O59): the fields of an entry's bytes, and what a new entry does to the ring. -/

namespace Sys2Proof.Machine

/-! ### Fields of bytes laid out one after the other -/

@[simp] theorem le_length (n v : Nat) : (le n v).length = n := by
  induction n generalizing v with
  | zero => rfl
  | succ n ih => simp [le, ih]

@[simp] theorem zeros_length (n : Nat) : (zeros n).length = n := List.length_replicate

@[simp] theorem fit_length (n : Nat) (b : Bytes) : (fit n b).length = n := by simp [fit]

/-- A little-endian field reads as its value, cut to its width. -/
theorem ofLe_le (n v : Nat) : ofLe (le n v) = v % 2 ^ (8 * n) := by
  induction n generalizing v with
  | zero => simp [le, ofLe, Nat.mod_one]
  | succ n ih =>
    rw [le, ofLe, ih, byte, BitVec.toNat_ofNat, mul_add_one, add_comm (8 * n), pow_add, Nat.mod_mul]
    rfl

/-- A field lies behind those that come before it. -/
theorem slice_append_behind {a : Bytes} (b : Bytes) {off : Nat} (n : Nat) (h : a.length ≤ off) :
    slice (a ++ b) off n = slice b (off - a.length) n := by
  simp [slice, List.drop_append, List.drop_eq_nil_of_le h]

/-- The first field. -/
theorem slice_append_first {a : Bytes} (b : Bytes) {n : Nat} (h : a.length = n) : slice (a ++ b) 0 n = a := by
  simp [slice, ← h]

theorem slice_whole {a : Bytes} {n : Nat} (h : a.length = n) : slice a 0 n = a := by simp [slice, ← h]

/-! ### Entries and their ring -/

theorem ledgerBytes_length (e : LedgerEntry) : (ledgerBytes e).length = 128 := by simp [ledgerBytes]

theorem ledgerPush_length (es : List LedgerEntry) (e : LedgerEntry) : (ledgerPush es e).length = min (es.length + 1) 16384 := by
  simp only [ledgerPush, List.length_drop, List.length_append, List.length_singleton]; omega

theorem ledgerPush_getLast? (es : List LedgerEntry) (e : LedgerEntry) : (ledgerPush es e).getLast? = some e := by
  rw [ledgerPush, List.getLast?_drop, if_neg (by simp), List.getLast?_concat]

/-- The entries before a new one are the latest of those there were. -/
theorem ledgerPush_getElem?_before {es : List LedgerEntry} {e : LedgerEntry} {n : Nat} (h : n + 1 < (ledgerPush es e).length) :
    (ledgerPush es e)[n]? = es[n + (es.length + 1 - (ledgerPush es e).length)]? := by
  rw [ledgerPush_length] at h ⊢
  rw [ledgerPush, List.getElem?_drop, List.getElem?_append_left (by omega)]
  exact congrArg (es[·]?) (by omega)

theorem ledgerHead_nil {l : Ledger} (h : l.entries = []) : ledgerHead l = zeros 32 := by simp [ledgerHead, h]

theorem ledgerHead_last {l : Ledger} {e : LedgerEntry} (h : l.entries.getLast? = some e) : ledgerHead l = sha3 (ledgerBytes e) := by
  simp [ledgerHead, h]

section
variable (s : State) (type source client tag status detail : Nat) (data : Bytes)

/-- The entry that `ledger` writes. -/
def newEntry : LedgerEntry :=
  { seq := s.ledger.seq + 1, tick := s.now, type, source, client, tag, status, detail, data := fit 64 data
    prev := ledgerHead s.ledger }

theorem ledger_eq : ledger s type source client tag status detail data =
    { s with ledger := { s.ledger with entries := ledgerPush s.ledger.entries (newEntry s type source client tag status detail data)
                                       seq := s.ledger.seq + 1 } } := rfl

end

/-- Settles O59. -/
theorem ledgerEntriesChain : Obligations.LedgerEntriesChain := by
  refine ⟨rfl, fun e => ⟨ledgerBytes_length e, ?fields⟩, fun s type source client tag status detail data => ?appended⟩
  case fields => simp [rd, ledgerBytes, slice_append_behind, slice_append_first, slice_whole, ofLe_le]
  case appended =>
    rw [ledger_eq]
    dsimp only
    refine ⟨rfl, (ledgerPush_length _ _).trans_le (min_le_right _ _), rfl,
      newEntry s type source client tag status detail data, ledgerPush_getLast? _ _, rfl, rfl, rfl, rfl, rfl, rfl, rfl, rfl, rfl,
      ledgerHead_nil, fun _ => ledgerHead_last, fun _ => ledgerPush_getElem?_before⟩

end Sys2Proof.Machine
end

section
/-! What a response leaves as it was, and what follows an effect where nothing else is under way (O55). -/

namespace Sys2Proof.Machine

/-! ### A cause raised at a function leaves the others -/

theorem fnOf_signal_other (s : State) {f g : Nat} (v : Nat) (h : f ≠ g) : fnOf (signal s g v) f = fnOf s f := by
  unfold signal
  dsimp only
  split_ifs
  · rfl
  all_goals exact fnOf_setFn_other s _ h

theorem fnOf_raiseCause_other (s : State) {f g : Nat} (c : Cause) (h : f ≠ g) : fnOf (raiseCause s g c) f = fnOf s f := by
  have hset : ∀ w, fnOf (setFn s g w) f = fnOf s f := fun w => fnOf_setFn_other s w h
  unfold raiseCause
  dsimp only
  split_ifs
  · exact hset _
  · exact (fnOf_signal_other _ 0 h).trans (hset _)

/-- NOTICE is the PF's (Table 2-5). -/
theorem fnOf_noteStatus_other (d : Nat) (s : State) {f : Nat} (h : f ≠ 0) : fnOf (noteStatus d s) f = fnOf s f := by
  unfold noteStatus
  split_ifs
  · rfl
  · exact fnOf_raiseCause_other s _ h

/-! ### The response of a command (R37, R511) -/

section
variable (s : State) (code fn tag status detail : Nat) (req b : Bytes)

theorem respond_fns : ∃ x, respond s code fn tag status detail b = { s with fns := x } := by
  obtain ⟨x, hx⟩ := raiseCause_fns (setFn s fn _) fn .mbxDone
  exact ⟨x, hx⟩

theorem fnOf_respond_other {f : Nat} (h : f ≠ fn) : fnOf (respond s code fn tag status detail b) f = fnOf s f :=
  (fnOf_raiseCause_other _ _ h).trans (fnOf_setFn_other s _ h)

theorem logCommand_ledger : ∃ l, logCommand s code fn tag status detail req = { s with ledger := l } := ⟨_, rfl⟩

/-- The end of a command: its Ledger entry where R511 lists it, then its response. -/
theorem finishCmd_fns_ledger : ∃ x l, finishCmd s code fn tag status detail req b = { s with fns := x, ledger := l } := by
  unfold finishCmd
  dsimp only
  split_ifs
  · obtain ⟨l, hl⟩ := logCommand_ledger s code fn tag status detail req
    obtain ⟨x, hx⟩ := respond_fns { s with ledger := l } code fn tag status detail b
    exact ⟨x, l, hl ▸ hx⟩
  · obtain ⟨x, hx⟩ := respond_fns s code fn tag status detail b
    exact ⟨x, s.ledger, hx⟩

theorem finishCmd_frame : finishCmd s code fn tag status detail req b =
    { s with fns := (finishCmd s code fn tag status detail req b).fns
             ledger := (finishCmd s code fn tag status detail req b).ledger } := by
  obtain ⟨x, l, h⟩ := finishCmd_fns_ledger s code fn tag status detail req b
  rw [h]

theorem finishCmd_ledger_of_unlogged (h : isLogged code = false) : (finishCmd s code fn tag status detail req b).ledger = s.ledger := by
  obtain ⟨x, hx⟩ := respond_fns s code fn tag status detail b
  rw [finishCmd, if_neg (by simp [h]), hx]

theorem fnOf_finishCmd_other {f : Nat} (h : f ≠ fn) : fnOf (finishCmd s code fn tag status detail req b) f = fnOf s f := by
  obtain ⟨l, hl⟩ := logCommand_ledger s code fn tag status detail req
  rw [finishCmd, fnOf_respond_other _ _ _ _ _ _ _ h, hl]
  split_ifs <;> rfl

end

/-! ### What follows an effect in a quiet state -/

theorem tblFind_isSome_of_mem {α : Type} {t : Tbl α} {e : Nat × α} (h : e ∈ t) : (tblFind t e.1).isSome := by
  induction t with
  | nil => cases h
  | cons d r ih =>
    obtain ⟨j, w⟩ := d
    unfold tblFind
    split_ifs with hj
    · rfl
    · exact ih ((List.mem_cons.mp h).resolve_left fun he => hj (by rw [he]))

/-- The number of a strand that is there gives an entry of the table. -/
theorem strandOf_mem {s : State} {i : Nat} (h : i ∈ strandIds s) : (i, strandOf s i) ∈ s.strands := by
  obtain ⟨e, he, rfl⟩ := List.mem_map.mp h
  obtain ⟨w, hw⟩ := Option.isSome_iff_exists.mp (tblFind_isSome_of_mem he)
  have hst : strandOf s e.1 = w := by rw [strandOf, tblGet, hw]; rfl
  exact hst ▸ mem_of_tblFind hw

/-- A floor whose PAUSE stands as its Bins ask keeps it (R92, R477). -/
theorem linkPauseCheck_of_settled {s : State} {f : Nat} (h : binsSettled s f) : linkPauseCheck s f = s := by
  unfold binsSettled at h
  unfold linkPauseCheck
  dsimp only
  split_ifs at h with hp
  · rw [if_neg (by simp [hp]), if_neg (by simpa [hp, imp_iff_not_or] using h)]
  · rw [if_neg (by simpa [hp] using h), if_neg (by simp [hp])]

section
variable {s : State} (h : quiet s)
include h

theorem settleNow_of_quiet (n : Nat) : settleNow n s = s := by
  obtain ⟨hd, -⟩ := h
  cases n with
  | zero => rfl
  | succ n => rcases hd with hd | hd <;> simp [settleNow, hd]

theorem settleHatch_of_quiet : settleHatch s = s := by
  obtain ⟨-, hh, -⟩ := h
  simp [settleHatch, hh]

theorem strandOf_of_quiet {i : Nat} (hi : i ∈ strandIds s) : isOpen (strandOf s i) = false ∧ (strandOf s i).ctrl = [] ∧
    (strandOf s i).sealQ = [] ∧ (strandOf s i).chip = none := by
  obtain ⟨-, -, hs, -⟩ := h
  exact hs _ (strandOf_mem hi)

theorem watchReverse_of_quiet : watchReverse s = s := by
  refine foldl_of_fixed fun i hi => ?_
  obtain ⟨hopen, -⟩ := strandOf_of_quiet h hi
  simp [reverseLimits, hopen]

/-- An archive key whose counter stands comes no nearer to its end. -/
theorem watchKeys_of_quiet {s₀ : State} (ha : ∀ e ∈ s.strands, archiveCount s₀ (strandOf s e.1) = archiveCount s (strandOf s e.1)) :
    watchKeys s₀ s = s := by
  have hnear : ∀ i ∈ strandIds s, nearArchive s₀ s i = s := by
    intro i hi
    have hi := ha _ (strandOf_mem hi)
    unfold nearArchive
    dsimp only at hi ⊢
    rw [hi]
    cases archiveCount s (strandOf s i) with
    | none => rfl
    | some n => exact if_neg fun hc => by simp only [Bool.and_eq_true, decide_eq_true_eq] at hc; omega
  unfold watchKeys
  dsimp only
  rw [watchReverse_of_quiet h]
  split_ifs
  · exact foldl_of_fixed hnear
  · rfl

theorem watchBins_of_quiet : watchBins s = s := by
  obtain ⟨-, -, -, -, -, -, -, -, -, -, hb⟩ := h
  exact foldl_of_fixed fun f hf => linkPauseCheck_of_settled (hb f (List.mem_range.mp hf))

theorem drainSheafEvents_of_quiet : drainSheafEvents s = s := by
  obtain ⟨-, -, hs, -⟩ := h
  have hnone : s.strands.filter (fun e => e.2.ctrl.any (fun c => (strandEvent c).isSome)) = [] :=
    List.filter_eq_nil_iff.mpr fun e he => by simp [hs e he]
  simp [drainSheafEvents, hnone]

theorem wakeWaiting_of_quiet : wakeWaiting s = s := by
  obtain ⟨-, -, hs, -⟩ := h
  have hnone : s.strands.filter (fun e => e.2.chip.isSome) = [] := List.filter_eq_nil_iff.mpr fun e he => by simp [hs e he]
  simp [wakeWaiting, wakeChips, hnone]

theorem handOver_of_quiet : handOver s = s := by
  obtain ⟨-, -, -, -, -, -, -, -, hl, hw, -⟩ := h
  unfold handOver leaveActive switchSends
  simp only [hl]
  split
  next w hheld => simp [hw w hheld]
  next => rfl

/-- A strand that is not open asks the Mill for nothing. -/
theorem strandNeeds_of_quiet {e : Nat × Strand} (he : e ∈ s.strands) : strandNeeds s e.1 e.2 = [] := by
  obtain ⟨hopen, -⟩ := strandOf_of_quiet h (List.mem_map_of_mem he)
  obtain ⟨-, -, hs, -⟩ := h
  obtain ⟨-, hctrl, hseal, hchip⟩ := hs e he
  have hnext : ctrlAtNext s e.1 = none := by
    have hstate : (strandOf s e.1).state ≠ .opened := fun ho => by simp [isOpen, ho] at hopen
    simp [ctrlAtNext, hstate]
  simp [strandNeeds, hseal, nextRequest, hctrl, hnext, hchip]

theorem ownNeeds_of_quiet : ownNeeds s = [] := by
  have hstrands : s.strands.flatMap (fun e => strandNeeds s e.1 e.2) = [] :=
    List.flatMap_eq_nil_iff.mpr fun e he => strandNeeds_of_quiet h he
  obtain ⟨-, -, -, -, hv, hi, ho, hj, -⟩ := h
  have hops : s.fns.flatMap (fun e => e.2.ops.flatMap (opNeeds s e.1)) = [] :=
    List.flatMap_eq_nil_iff.mpr fun e he => List.flatMap_eq_nil_iff.mpr fun o hmem => by simp [opNeeds, ho e he o hmem]
  simp only [ownNeeds, hstrands, ite_self, hv, hi, hops, List.flatMap_nil, List.nil_append, List.append_nil]
  exact List.flatMap_eq_nil_iff.mpr fun b hb => by simp [hj b hb]

theorem serveOwn_of_quiet : serveOwn s = s := by
  have hneeds := ownNeeds_of_quiet h
  obtain ⟨-, -, -, -, -, -, -, hj, -⟩ := h
  have hown : s.jobs.filter (fun b => b.own.isSome && b.stage == .finished && b.status != sOk) = [] :=
    List.filter_eq_nil_iff.mpr fun b hb => by simp [hj b hb]
  have hstale : s.jobs.filter (fun b => b.own.isSome) = [] := List.filter_eq_nil_iff.mpr fun b hb => by simp [hj b hb]
  unfold serveOwn
  split_ifs
  · rfl
  · simp [hown, askDocuments_of_noHand fun b hb => (hj b hb).2.1, hneeds, hstale]

/-- What follows an effect is NOTICE alone. -/
theorem finish_of_quiet {s₀ : State} (ha : ∀ e ∈ s.strands, archiveCount s₀ (strandOf s e.1) = archiveCount s (strandOf s e.1)) :
    finish s₀ s = noteStatus (deviceStatus s₀) s := by
  rw [finish, settleNow_of_quiet h, settleHatch_of_quiet h, watchKeys_of_quiet h ha, watchBins_of_quiet h, drainSheafEvents_of_quiet h,
    wakeWaiting_of_quiet h, handOver_of_quiet h, serveOwn_of_quiet h]

end

/-- Settles O55: a command's end is `finishCmd`, and after an effect in a quiet state comes NOTICE alone. -/
theorem responsesFrame : Obligations.ResponsesFrame := by
  refine ⟨fun c q s b => finishCmd_frame _ _ _ _ _ _ _ _, fun c q s st d => finishCmd_frame _ _ _ _ _ _ _ _,
    fun c q s b hc => finishCmd_ledger_of_unlogged _ _ _ _ _ _ _ _ hc, fun c q s b f hf => fnOf_finishCmd_other _ _ _ _ _ _ _ _ hf,
    fun s t ht ha => ?_⟩
  rw [finish_of_quiet ht ha]
  refine ⟨fun hd => ?same, fun _ => ⟨?frame, fun f hf => fnOf_noteStatus_other _ t hf⟩⟩
  case same => simp [noteStatus, hd]
  case frame =>
    obtain ⟨x, hx⟩ := noteStatus_fns (deviceStatus s) t
    rw [hx]

end Sys2Proof.Machine
end

section
/-! Tally cards: the events of a card slot (O39), and an exchange with a card of which nothing is said, as the card commands use it
(R316, R318). -/

namespace Sys2Proof.Machine

/-! ### Slot events (R317–R319) -/

section
variable {n : Nat} {s : State}

/-- What holds the slots back from an activation: they have no supply, or a zero-fill runs (R317, R349). -/
theorem cardActivation_held_iff (hn : n < 4) :
    (decide (3 < n) || !slotsPowered s || s.scarecrow.zerofill != 0) = true ↔ slotsPowered s = false ∨ s.scarecrow.zerofill ≠ 0 := by
  have hslot : ¬ 3 < n := by omega
  simp [hslot]

theorem exec_cardActivation_held (hn : n < 4) (h : slotsPowered s = false ∨ s.scarecrow.zerofill ≠ 0) (c : Card) :
    exec (.cardActivation n c) s = .next (finish s s) := by
  change execCardActivation n c s = _
  rw [execCardActivation, if_pos ((cardActivation_held_iff hn).mpr h), done]

section
variable (hn : n < 4) (hp : slotsPowered s = true) (hz : s.scarecrow.zerofill = 0)
include hn hp hz

theorem exec_cardActivation_empty (he : (cardSlotOf s n).status = .empty) (c : Card) :
    exec (.cardActivation n c) s = .next (finish s (setCardSlot s n { status := .activating, card := some c })) := by
  change execCardActivation n c s = _
  rw [execCardActivation, if_neg (mt (cardActivation_held_iff hn).mp (by simp [hp, hz])), he, done]

theorem exec_cardActivation_activating (ha : (cardSlotOf s n).status = .activating) {k : Card}
    (hk : (cardSlotOf s n).card = some k) (c : Card) :
    exec (.cardActivation n c) s = .next (finish s (activateCard s n
      { k with atrC := c.atrC, atrB := c.atrB, ppsOk := c.ppsOk, modeSw := c.modeSw, links := c.links })) := by
  change execCardActivation n c s = _
  rw [execCardActivation, if_neg (mt (cardActivation_held_iff hn).mp (by simp [hp, hz])), ha, hk, done]

end

theorem exec_cardRemoved (hn : n < 4) : exec (.cardRemoved n) s = .next (finish s (setCardSlot s n {})) := by
  change execCardRemoved n s = _
  rw [execCardRemoved, if_pos hn, done]

theorem exec_cardOvercurrent (hn : n < 4) {c : Card} (hc : (cardSlotOf s n).card = some c) :
    exec (.cardOvercurrent n) s = .next (finish s (setCardSlot s n { status := .fault, card := some c })) := by
  change execCardOvercurrent n s = _
  simp [execCardOvercurrent, hn, hc, done]

end

/-- Settles O39. -/
theorem cardEventsAct : Obligations.CardEventsAct := fun _ _ hn =>
  ⟨fun c hp hz => ⟨fun he => exec_cardActivation_empty hn hp hz he c, fun _ ha hk => exec_cardActivation_activating hn hp hz ha hk c⟩,
   fun c h => exec_cardActivation_held hn h c, exec_cardRemoved hn, fun _ hc => exec_cardOvercurrent hn hc⟩

/-! ### Exchanges that go whole -/

/-- An exchange of which nothing is said goes whole (the empty link). -/
@[simp] theorem linkAt_nil (k : Nat) : linkAt [] k = {} := rfl

@[simp] theorem cardSlotOf_setCard_same (s : State) (n : Nat) (c : Card) :
    cardSlotOf (setCard s n c) n = { cardSlotOf s n with card := some c } := by
  rw [setCard, cardSlotOf_setCardSlot_same]

theorem slotCard_of_readyCard {s : State} {n : Nat} {c : Card} (h : readyCard s n = some c) : (cardSlotOf s n).card = some c := by
  unfold readyCard at h
  split at h
  · exact h
  · cases h

/-- An exchange that goes whole brings the card's answer, and leaves the card as its answer leaves it. -/
theorem exchange_whole {s : State} {n : Nat} {c : Card} (hc : (cardSlotOf s n).card = some c) (apdu : Option Bytes)
    (f : Card → Nat × Card) :
    exchange s n {} apdu f = (some (f c).1, setCard (transmit s n [] apdu) n (f c).2) := by
  simp only [exchange, hc, lineEnd]

end Sys2Proof.Machine
end

section
/-! The officers' commands (O14): what each command's body gives where its checks pass. -/

namespace Sys2Proof.Machine

section
variable {q : MbxReq} {s : State}

theorem bodyCardStatus_reads (hf : wellFormed q 4 [(1, 3)]) (hs : fld q 0 1 ≤ 3) :
    bodyCardStatus q s = accept s (cardStatusBytes s (fld q 0 1)) := by
  rw [bodyCardStatus, withFormat_ok hf, if_neg (Nat.not_lt.mpr hs)]

/-- A PIN field in order has a length from 6 to 12. -/
theorem pinLength_of_badPin {len : Nat} {pin : Bytes} (h : badPin len pin = false) : 6 ≤ len ∧ len ≤ 12 := by
  simp only [badPin, Bool.or_eq_false_iff, decide_eq_false_iff_not, Nat.not_lt] at h
  obtain ⟨⟨⟨hlow, hhigh⟩, -⟩, -⟩ := h
  exact ⟨hlow, hhigh⟩

/-- The BIND of OFFICER_ENROL as its card answers it: the entry as settled, and the state. -/
def bindSent (q : MbxReq) (s : State) (c : Card) (n : Nat) : JournalEntry × State :=
  let b := beginJournal s 1 (fld q 0 1) n c
    (le 4 c.commit ++ le 8 s.ident.serial ++ le 1 n ++ le 1 (fld q 2 1) ++ fit 12 (slice q.payload 4 12))
  sendWrite b.2 (fld q 0 1) b.1 {}

theorem bodyOfficerEnrol_binds {c : Card} {n : Nat} (hf : wellFormed q 16 [(3, 1)]) (hs : fld q 0 1 ≤ 3)
    (hn : fld q 1 1 ≤ 15 ∨ fld q 1 1 = 0xFF) (hpin : badPin (fld q 2 1) (slice q.payload 4 12) = false)
    (hc : readyCard s (fld q 0 1) = some c) (hno : enrolNumber s (fld q 1 1) = some n) (hfree : tblHas s.officers n = false)
    (hmay : enrolDenied s c = false) (hdone : (bindSent q s c n).1.state = jDone) (hsw : (bindSent q s c n).1.sw = swOk) :
    bodyOfficerEnrol [] q s =
      accept (setOfficer (bindSent q s c n).2 n (some { cardId := c.cardId, pub := c.pub, state := .active }))
        (le 1 n ++ zeros 3 ++ le 4 (bindSent q s c n).1.jno) := by
  obtain ⟨hlow, hhigh⟩ := pinLength_of_badPin hpin
  rw [bodyOfficerEnrol, withFormat_ok hf, if_neg (Nat.not_lt.mpr hs), if_neg (by simp; omega), if_neg (by simp; omega),
    if_neg (by simp [hpin])]
  simp only [hc, hno]
  rw [if_neg (by simp [hfree, hmay])]
  change (if (bindSent q s c n).1.state == jIndeterminate then _
    else if (bindSent q s c n).1.state == jDone && (bindSent q s c n).1.sw == swOk then _ else _) = _
  rw [if_neg (by simp [hdone]), if_pos (by simp [hdone, hsw])]
  rfl

theorem bodyOfficerRemove_removes (hf : wellFormed q 4 [(1, 3)]) (hn : fld q 0 1 ≤ 15)
    (ho : (tblFind s.officers (fld q 0 1)).isSome) (hm : s.quorumM ≤ usableOfficers (setOfficer s (fld q 0 1) none)) :
    bodyOfficerRemove q s = accept (dropApprovals (setOfficer s (fld q 0 1) none)) [] := by
  obtain ⟨o, ho⟩ := Option.isSome_iff_exists.mp ho
  rw [bodyOfficerRemove, withFormat_ok hf, if_neg (Nat.not_lt.mpr hn)]
  simp only [ho, Nat.not_lt.mpr hm, if_false]

theorem bodyQuorumSet_sets (hf : wellFormed q 4 [(1, 3)]) (h1 : 1 ≤ fld q 0 1) (h8 : fld q 0 1 ≤ 8)
    (hu : fld q 0 1 ≤ usableOfficers s) :
    bodyQuorumSet q s = accept (share (dropApprovals { s with quorumM := fld q 0 1 }) (.quorum (fld q 0 1))) [] := by
  rw [bodyQuorumSet, withFormat_ok hf, if_neg (by simp; omega), if_neg (Nat.not_lt.mpr hu)]

end

/-- Settles O14. -/
theorem officerCommandsComplete : Obligations.OfficerCommandsComplete :=
  ⟨fun _ _ _ h ⟨hf, hs⟩ => runMbx_accepts h rfl (bodyCardStatus_reads hf hs),
   fun _ _ _ h hf => runMbx_accepts h rfl (withFormat_ok hf),
   fun _ _ _ _ _ h hf hs hn hpin hc hno hfree hmay hdone hsw =>
    runMbx_accepts h rfl (bodyOfficerEnrol_binds hf hs hn hpin hc hno hfree hmay hdone hsw),
   fun _ _ _ h ⟨hf, hn, ho, hm⟩ => runMbx_accepts h rfl (bodyOfficerRemove_removes hf hn ho hm),
   fun _ _ _ h ⟨hf, h1, h8, hu⟩ => runMbx_accepts h rfl (bodyQuorumSet_sets hf h1 h8 hu)⟩

end Sys2Proof.Machine
end

section
/-! Approvals and CARD_FORCE_ERASE (O15): what each command's body gives where its checks pass, how an officer's card answers
VERIFY and SIGN, and how VERIFY with a PIN that cannot be correct locks a card (R329). -/

namespace Sys2Proof.Machine

/-! ### QUORUM_BEGIN and QUORUM_CANCEL (R332, R334) -/

section
variable {q : MbxReq} {s : State}

/-- The approval that QUORUM_BEGIN makes. -/
def newApproval (q : MbxReq) (s : State) : Approval :=
  { no := s.approvalNo, code := fld q 0 2, client := fld q 2 1, digest := slice q.payload 8 32
    expires := s.now + (if fld q 4 2 == 0 then 600 else fld q 4 2) * 1000000
    challenge := randomBytes s 32 }

theorem bodyQuorumBegin_begins (hf : wellFormed q 40 [(3, 1), (6, 2)]) (hcode : fld q 0 2 ∈ guardedCodes) (hclient : fld q 2 1 ≤ 63)
    (hvalid : fld q 4 2 = 0 ∨ (10 ≤ fld q 4 2 ∧ fld q 4 2 ≤ 3600)) (hfreeze : frozen s = true → fld q 0 2 ∈ freezeCodes)
    (hroom : liveApprovals s < 4) :
    bodyQuorumBegin q s =
      accept (draw { s with approvals := s.approvals ++ [newApproval q s], approvalNo := s.approvalNo + 1 })
        (le 4 s.approvalNo ++ le 1 s.quorumM ++ zeros 3 ++ le 8 (newApproval q s).expires ++ randomBytes s 32) := by
  rw [bodyQuorumBegin, withFormat_ok hf, if_neg (by simpa using hcode), if_neg (Nat.not_lt.mpr hclient), if_neg (by simp; omega),
    if_neg (by simpa using hfreeze), if_neg (Nat.not_le.mpr hroom)]
  rfl

theorem bodyQuorumCancel_removes {a : Approval} (hf : wellFormed q 4 [])
    (ha : s.approvals.find? (fun a => a.no == fld q 0 4) = some a) :
    bodyQuorumCancel q s = accept (consumeApproval s a) [] := by
  rw [bodyQuorumCancel, withFormat_ok hf, ha]

end

/-! ### QUORUM_APPROVE (R332) -/

/-- An admitted command that may come too late, and else answers where what it was given is in order. -/
theorem runMbx_judges {c : CmdSpec} {body : MbxReq → State → Reply} {q : MbxReq} {s s₀ t u : State} {late ok : Prop}
    [Decidable late] [Decidable ok] {st st' d d' : Nat} {b : Bytes} (h : admitted c q s = some s₀) (hd : c.deferred = false)
    (hst : st ≠ sOk) (hst' : st' ≠ sOk)
    (hb : body q s₀ = if late then reject t st d else if ok then accept u b else reject t st' d') :
    runMbx c body q s = .next (finish s
      (if late then decline c q t st d else if ok then answer c q u b else decline c q t st' d')) := by
  split_ifs at hb ⊢
  · exact runMbx_rejects h hst hb
  · exact runMbx_accepts h hd hb
  · exact runMbx_rejects h hst' hb

/-- The approval with officer `n` among its signers: APPROVED at m. -/
def signedBy (s : State) (a : Approval) (n : Nat) : Approval :=
  { a with signers := a.signers ++ [n], approved := decide (s.quorumM ≤ a.signers.length + 1) }

theorem addSigner_eq (s : State) (a : Approval) (n : Nat) :
    addSigner s a n =
      accept { s with approvals := s.approvals.map (fun b => if b.no == a.no then signedBy s a n else b) }
        (le 1 (a.signers.length + 1) ++ le 1 s.quorumM ++ le 1 (if (signedBy s a n).approved then 2 else 1) ++ le 1 n) := by
  simp [addSigner, signedBy]

/-- A signature is judged once the exchanges with the card have taken their time (R332, Table 11-6). -/
theorem countSignature_eq (s : State) (a : Approval) (n : Nat) (o : Officer) (sig : Bytes) :
    countSignature s a n o sig =
      let u := draw (advanceTo s (exchangeEnd s))
      if a.expires ≤ u.now then reject u eTooLate 0
      else if verifyP384 o.pub (approvalMessage s a) sig then addSigner u a n
      else reject u eAuth 0 := rfl

section
variable {s : State} {slot : Nat} {c : Card} {pin : Bytes}

/-- The state once the card in a slot has taken its PIN. -/
def pinTaken (s : State) (slot : Nat) (c : Card) (pin : Bytes) : State :=
  let w := setCard (transmit s slot [] (some (verifyApdu pin))) slot c
  setCardSlot w slot { cardSlotOf w slot with verified := true }

/-- The state once the card in a slot has signed an approval's message. -/
def messageSigned (s : State) (slot : Nat) (c : Card) (a : Approval) : State :=
  setCard (transmit s slot [] (some (signApdu (sha384 (approvalMessage s a))))) slot c

theorem approvalMessage_messageSigned (a b : Approval) :
    approvalMessage (messageSigned s slot c b) a = approvalMessage s a := by
  simp only [approvalMessage, messageSigned, setCard, transmit, setCardSlot_ident]

/-- The exchanges with the card leave m as it was. -/
theorem signedBy_messageSigned (a b : Approval) (n time : Nat) :
    signedBy (draw (advanceTo (messageSigned (pinTaken s slot c pin) slot c a) time)) b n = signedBy s b n := by
  simp [signedBy, messageSigned, pinTaken, setCard, transmit]

/-- A card that takes the PIN signs, and its signature is counted. -/
theorem approveWith_counts {a : Approval} {n : Nat} {o : Officer} (hc : (cardSlotOf s slot).card = some c)
    (hv : cardVerify c pin = (swOk, c)) :
    approveWith s a slot n o c pin [] =
      let t := pinTaken s slot c pin
      let v := messageSigned t slot c a
      countSignature v a n o (cardSign v c (approvalMessage t a)) := by
  rw [approveWith, linkAt_nil, exchange_whole hc, hv]
  dsimp only
  rw [if_neg (by decide), if_neg (by decide), if_neg (by decide), linkAt_nil, exchange_whole (c := c) (by simp)]
  rfl

end

/-- QUORUM_APPROVE of a live approval, by an active officer who has not signed it and whose card has no conflict, turns on what the
card answers. -/
theorem bodyQuorumApprove_asksCard {q : MbxReq} {s : State} {link : CardLink} {a : Approval} {c : Card} {n : Nat} {o : Officer}
    (hf : wellFormed q 20 [(6, 2)]) (hs : fld q 4 1 ≤ 3) (hlen : fld q 5 1 ≤ 12)
    (hrest : allZero ((slice q.payload 8 12).drop (fld q 5 1)) = true)
    (ha : s.approvals.find? (fun a => a.no == fld q 0 4) = some a) (hlive : s.now < a.expires) (hopen : a.approved = false)
    (hc : readyCard s (fld q 4 1) = some c) (ho : officerByCard s c.cardId = some (n, o)) (hpub : o.pub = c.pub)
    (hact : o.state = .active) (hnew : n ∉ a.signers) (hconf : hasEntry s c.cardId jConflict = false) :
    bodyQuorumApprove link q s =
      approveWith s a (fld q 4 1) n o c ((slice q.payload 8 12).take (fld q 5 1)) link := by
  rw [bodyQuorumApprove, withFormat_ok hf, if_neg (Nat.not_lt.mpr hs), if_neg (Nat.not_lt.mpr hlen), if_neg (by simp [hrest])]
  simp only [ha, Nat.not_le.mpr hlive, hopen, hc, ho, Bool.false_eq_true, if_false]
  exact if_neg (by simp [hpub, hact, hnew, hconf])

/-! ### CARD_FORCE_ERASE (R329) -/

theorem bodyCardForceErase_starts {q : MbxReq} {s : State} {c : Card} (link : CardLink) (hf : wellFormed q 20 [(1, 3)])
    (hs : fld q 0 1 ≤ 3) (hc : readyCard s (fld q 0 1) = some c) (hid : c.cardId = slice q.payload 4 16) :
    bodyCardForceErase link q s = { accept s [] with link } := by
  rw [bodyCardForceErase, withFormat_ok hf, if_neg (Nat.not_lt.mpr hs), hc]
  exact if_neg (by simp [hid])

theorem finishOp_cardForceErase {s : State} {f n : Nat} {o : DefOp} (h : mayEnd s f n o 0x0808) :
    finishOp s f o = endCardForceErase s f o := by
  obtain ⟨-, hcode, -, hgone, hp⟩ := h
  simp [finishOp, hgone, hcode, hp]

section
variable {s t : State} {o : DefOp} {c : Card} {k : Nat}

/-- A card that is locked, by itself or by as many VERIFY as that takes, is erased. -/
theorem endCardForceErase_erases (f : Nat) (hc : readyCard s (rd o.payload 0 1) = some c) (hid : c.cardId = slice o.payload 4 16)
    (hl : (c.state = 2 ∧ k = 0 ∧ t = s) ∨
      (c.state ≠ 2 ∧ lockOut (rd o.payload 0 1) c.cardId o.link 17 0 s = (some 0x6983, k, t))) :
    endCardForceErase s f o = eraseCard t f o (rd o.payload 0 1) c k := by
  unfold endCardForceErase
  simp only [hc]
  rw [if_neg (by simp [hid])]
  obtain ⟨hstate, rfl, rfl⟩ | ⟨hstate, hlock⟩ := hl
  · rw [if_pos (by simp [hstate])]
  · rw [if_neg (by simp [hstate])]
    simp only [hlock]

/-- The ERASE of CARD_FORCE_ERASE as its card answers it: the entry as settled, and the state. -/
def eraseSent (s : State) (slot : Nat) (c : Card) (x : ApduLink) : JournalEntry × State :=
  let b := beginJournal s 2 slot (((officerByCard s c.cardId).map (·.1)).getD 0xFF) c (le 4 c.commit)
  sendWrite b.2 slot b.1 x

theorem eraseCard_done {slot : Nat} (f : Nat) (hdone : (eraseSent s slot c (linkAt o.link k)).1.state = jDone)
    (hsw : (eraseSent s slot c (linkAt o.link k)).1.sw = swOk) :
    eraseCard s f o slot c k =
      let w := eraseSent s slot c (linkAt o.link k)
      endOp (completeWrite w.2 w.1) f o sOk 0
        (eraseRecord w.1.jno (((officerByCard s c.cardId).map (·.1)).getD 0xFF) k) := by
  change (if (eraseSent s slot c (linkAt o.link k)).1.state == jDone && (eraseSent s slot c (linkAt o.link k)).1.sw == swOk
    then _ else _) = _
  rw [if_pos (by simp [hdone, hsw])]
  rfl

end

/-! ### Locking a card out (R328, R329) -/

/-- Taking a lock over changes officer records and the Ledger, and no slot. -/
@[simp] theorem lockOfficer_cards (s : State) (id : Bytes) : (lockOfficer s id).cards = s.cards := by
  unfold lockOfficer
  split
  case h_1 n o =>
    split_ifs
    · rfl
    · simp only [note, ledger, setOfficer, share]
      split_ifs <;> rfl
  case h_2 => rfl

@[simp] theorem cardSlotOf_lockOfficer (s : State) (id : Bytes) (n : Nat) : cardSlotOf (lockOfficer s id) n = cardSlotOf s n := by
  simp [cardSlotOf]

/-- The long PIN is never correct: it costs a try, and the last one locks the card. -/
theorem cardVerify_longPin {c : Card} (hs : c.state = 1) :
    cardVerify c longPin =
      (0x63C0 + (c.pinTries - 1), { c with pinTries := c.pinTries - 1, state := if c.pinTries - 1 == 0 then 2 else 1 }) := by
  have hlong : ¬ longPin.length ≤ 12 := by decide
  simp [cardVerify, hs, hlong]

section
variable {n : Nat} {id : Bytes} {c : Card} {s : State}

/-- A locked card ends the VERIFYs. -/
theorem lockOut_locked (hc : (cardSlotOf s n).card = some c) (hs : c.state = 2) (fuel k : Nat) :
    ∃ t, lockOut n id [] (fuel + 1) k s = (some 0x6983, k + 1, t) := by
  have hverify : cardVerify c longPin = (swLocked, c) := by simp [cardVerify, hs]
  rw [lockOut, linkAt_nil, exchange_whole hc, hverify]
  dsimp only
  rw [if_neg (c := (swLocked / 16 == 0x63C) = true) (by decide)]
  exact ⟨_, rfl⟩

/-- A card with tries left loses one and is asked again. -/
theorem lockOut_loses_try (hc : (cardSlotOf s n).card = some c) (hs : c.state = 1) (ht : c.pinTries ≤ 16) (fuel k : Nat) :
    ∃ t, lockOut n id [] (fuel + 1) k s = lockOut n id [] fuel (k + 1) t ∧
      (cardSlotOf t n).card = some (cardVerify c longPin).2 := by
  rw [lockOut, linkAt_nil, exchange_whole hc]
  have hmore : (cardVerify c longPin).1 / 16 = 0x63C := by
    simp only [cardVerify_longPin hs]
    omega
  simp only [hmore, beq_self_eq_true, if_true]
  refine ⟨_, rfl, ?_⟩
  split_ifs <;> simp

/-- A card is locked by as many VERIFYs as it has tries, and says so at the next. -/
theorem lockOut_locks {tries : Nat} (hc : (cardSlotOf s n).card = some c) (hs : c.state = if tries == 0 then 2 else 1)
    (ht : c.pinTries = tries) (hle : tries ≤ 16) {fuel : Nat} (hfuel : tries < fuel) (k : Nat) :
    ∃ t, lockOut n id [] fuel k s = (some 0x6983, k + tries + 1, t) := by
  obtain ⟨fuel, rfl⟩ := Nat.exists_eq_add_one.mpr (Nat.zero_lt_of_lt hfuel)
  induction tries generalizing s c fuel k with
  | zero => exact lockOut_locked hc hs fuel k
  | succ tries ih =>
    obtain ⟨u, hu, hcard⟩ := lockOut_loses_try (id := id) hc hs (ht.trans_le hle) fuel k
    obtain ⟨fuel, rfl⟩ := Nat.exists_eq_add_one.mpr (Nat.zero_lt_of_lt (Nat.lt_of_succ_lt_succ hfuel))
    rw [hu, show k + (tries + 1) + 1 = k + 1 + tries + 1 by omega]
    exact ih hcard (by simp [cardVerify_longPin hs, ht]) (by simp [cardVerify_longPin hs, ht]) (by omega) (k + 1) fuel (by omega)

end

/-- Settles O15. -/
theorem quorumCommandsComplete : Obligations.QuorumCommandsComplete := by
  refine ⟨fun q s s₀ h hf hcode hclient hvalid hfreeze hroom =>
      runMbx_accepts h rfl (bodyQuorumBegin_begins hf hcode hclient hvalid hfreeze hroom),
    fun q s s₀ a c n o h hf hs hlen hrest ha hlive hopen hc ho hpub hact hnew hconf _ hv => ?approve,
    fun q s s₀ a h hf ha => runMbx_accepts h rfl (bodyQuorumCancel_removes hf ha),
    fun q link s s₀ c h hf hs hc hid => ?starts,
    fun f n o s c h hc hid => ⟨fun k t hl hdone hsw => ?erases, fun hs h1 h15 hlink => ?locks⟩⟩
  case approve =>
    have hbody := (bodyQuorumApprove_asksCard (link := []) hf hs hlen hrest ha hlive hopen hc ho hpub hact hnew hconf).trans
      (approveWith_counts (slotCard_of_readyCard hc) hv)
    simp only [countSignature_eq, approvalMessage_messageSigned, addSigner_eq, signedBy_messageSigned] at hbody
    exact runMbx_judges h rfl (by decide) (by decide) hbody
  case starts =>
    change runMbx specCardForceErase (bodyCardForceErase link) q s = _
    rw [runMbx_admitted h, bodyCardForceErase_starts link hf hs hc hid]
    exact congrArg (fun t => Host.Outcome.next (finish s t)) (settleReply_begins (c := specCardForceErase) rfl)
  case erases =>
    have hend := finishOp_cardForceErase h ▸ endsWith_finishOp h
    rwa [endCardForceErase_erases f hc hid hl, eraseCard_done f hdone hsw] at hend
  case locks =>
    have hused : c.state = if c.pinTries == 0 then 2 else 1 := by simp [hs, Nat.one_le_iff_ne_zero.mp h1]
    obtain ⟨t, hlock⟩ := lockOut_locks (id := c.cardId) (slotCard_of_readyCard hc) hused rfl (by omega) (fuel := 17) (by omega) 0
    exact ⟨t, by rw [hlink, hlock, Nat.zero_add]⟩

end Sys2Proof.Machine
end

section
/-! Events in Vigil (O46) and THAW (O60): how a decision is carried out where only the always-on registers work, and what bars a
THAW or lets it clear the latch. -/

namespace Sys2Proof.Machine

/-! ### A report writes only its monitor and its decision (R339, R355) -/

theorem toDecide_scarecrow (s : State) (d : Decision) :
    ∃ ms ds, (toDecide s d).scarecrow = { s.scarecrow with monitors := ms, decisions := ds } := by
  unfold toDecide
  dsimp only
  split
  · exact ⟨_, _, rfl⟩
  · exact ⟨_, _, rfl⟩

theorem report_scarecrow (s : State) (m v : Nat) :
    ∃ ms ds, (report s m v).scarecrow = { s.scarecrow with monitors := ms, decisions := ds } := by
  unfold report
  dsimp only
  split
  · exact ⟨_, _, rfl⟩
  · exact toDecide_scarecrow _ _

/-! ### A decision carried out in Vigil (R360, R361) -/

section
variable (s : State) (d : Decision) (m lvl : Nat)

theorem logVigil_scarecrow (action value : Nat) : ∃ es n lost,
    (logVigil s m lvl action value).scarecrow = { s.scarecrow with vigil := es, vigilSeq := n, vigilLost := lost } := by
  unfold logVigil
  dsimp only
  split
  · exact ⟨_, _, _, rfl⟩
  · split
    · exact ⟨_, _, _, rfl⟩
    · exact ⟨_, _, _, rfl⟩

/-- The registers that a purge in Vigil writes: the latch, the Loft keys' validity and the zero-fill due, at level 5 also the
monitors' settings. -/
theorem vigilPurge_scarecrow : ∃ ms src,
    (vigilPurge s m lvl).scarecrow = { s.scarecrow with
      monitors := ms, latched := max s.scarecrow.latched lvl, latchSrc := src, custodyValid := false
      rootValid := s.scarecrow.rootValid && lvl != 5, zerofill := max lvl s.scarecrow.zerofill } := by
  unfold vigilPurge
  dsimp only
  split
  · exact ⟨_, _, rfl⟩
  · exact ⟨_, _, rfl⟩

/-- A decision in Vigil is counted and logged; from level 4 on the purge follows. -/
theorem respondInVigil_eq : ∃ u action, u.scarecrow.count = sat32 (s.scarecrow.count + 1) ∧ respondInVigil s d lvl =
    if lvl < 4 then logVigil u d.monitor lvl action d.value
    else vigilPurge (logVigil u d.monitor lvl action d.value) d.monitor lvl :=
  ⟨_, _, rfl, rfl⟩

theorem respondInVigil_count : (respondInVigil s d lvl).scarecrow.count = sat32 (s.scarecrow.count + 1) := by
  obtain ⟨u, action, hcount, heq⟩ := respondInVigil_eq s d lvl
  obtain ⟨es, n, lost, hlog⟩ := logVigil_scarecrow u d.monitor lvl action d.value
  obtain ⟨ms, src, hpurge⟩ := vigilPurge_scarecrow (logVigil u d.monitor lvl action d.value) d.monitor lvl
  rw [heq]
  split
  · rw [hlog, hcount]
  · rw [hpurge, hlog, hcount]

theorem respondInVigil_erases (h : 4 ≤ lvl) :
    (respondInVigil s d lvl).scarecrow.custodyValid = false ∧ lvl ≤ (respondInVigil s d lvl).scarecrow.latched ∧
      (lvl = 5 → (respondInVigil s d lvl).scarecrow.rootValid = false) := by
  obtain ⟨u, action, -, heq⟩ := respondInVigil_eq s d lvl
  obtain ⟨ms, src, hpurge⟩ := vigilPurge_scarecrow (logVigil u d.monitor lvl action d.value) d.monitor lvl
  rw [heq, if_neg (Nat.not_lt.mpr h), hpurge]
  exact ⟨rfl, le_max_right _ _, fun h5 => by simp [h5]⟩

end

/-- In Vigil, outside Blank and End of life, a second evaluation carries its decision out there, at the more severe level that the
event's cap lets through; a report that follows leaves the rest of the Scarecrow's registers. -/
theorem secondEvaluation_inVigil {s : State} {d : Decision} (hv : s.power.state = .vigil)
    (hd : nextEvaluated s.scarecrow.decisions = some d) (hc : levelsCapped s = false) (x : Nat) :
    ∃ t ms ds, t.scarecrow.count = s.scarecrow.count ∧ (secondEvaluation s x).scarecrow =
      { (respondInVigil t d (min d.cap (max d.level (min 5 x)))).scarecrow with monitors := ms, decisions := ds } := by
  let u := advanceTo s (d.due / 4)
  let t := setScarecrow u { u.scarecrow with decisions := u.scarecrow.decisions.erase d }
  have hvigil : (t.power.state == .vigil) = true := beq_iff_eq.mpr hv
  have hcap : levelsCapped t = false := hc
  have hsecond : secondEvaluation s x =
      let r := respondInVigil t d (min d.cap (max d.level (min 5 x)))
      if x == d.level then r else report r 0x1F 1 := by
    simp only [secondEvaluation, hd]
    change (if x == d.level then carryOut t d (if levelsCapped t then _ else _) else report (carryOut t d _) 0x1F 1) = _
    rw [hcap, if_neg Bool.false_ne_true, carryOut, if_pos hvigil]
  rw [hsecond]
  dsimp only
  split
  · exact ⟨t, _, _, rfl, rfl⟩
  · obtain ⟨ms, ds, hr⟩ := report_scarecrow (respondInVigil t d (min d.cap (max d.level (min 5 x)))) 0x1F 1
    exact ⟨t, ms, ds, rfl, hr⟩

theorem sampled_eq (s : State) (m v : Nat) :
    sampled s m v = if m = 0x1F ∧ v = 2 ∧ s.scarecrow.compat ≠ 0 then badCode s else report s m v := by
  simp [sampled, and_assoc]

/-- Settles O46. -/
theorem vigilEventsAct : Obligations.VigilEventsAct := by
  refine ⟨fun m v s hm hv hs => ?sample, fun x d s hv hd hc => ?decide⟩
  case sample =>
    intro t u
    have hcompat : u.scarecrow.compat = s.scarecrow.compat := by
      simp only [u, t]
      split_ifs <;> rfl
    rw [← hcompat, ← sampled_eq]
    change execVigilMonitorEvent m v s = _
    rw [execVigilMonitorEvent, done, if_neg (by simp [hv, hm, hs])]
    simp only [beq_iff_eq, t, u]
  case decide =>
    obtain ⟨t, ms, ds, hcount, hend⟩ := secondEvaluation_inVigil hv hd hc x
    dsimp only
    rw [hend]
    refine ⟨rfl, ?_, fun h4 => ?_, fun h5 => ?_⟩
    · exact (respondInVigil_count ..).trans (by rw [hcount])
    · obtain ⟨hkey, hlatch, -⟩ := respondInVigil_erases t d _ h4
      exact ⟨hkey, hlatch⟩
    · obtain ⟨-, -, hroot⟩ := respondInVigil_erases t d _ (Nat.le_of_succ_le h5.ge)
      exact hroot h5

/-! ### THAW (R354) -/

section
variable {q : MbxReq} {s : State} {m : Nat}

theorem thawBlocker_eq_none_iff :
    thawBlocker s = none ↔ ∀ m < 32, 3 ≤ (monitorOf s m).level → (monitorOf s m).active = false := by
  simp [thawBlocker, List.find?_eq_none]

/-- What bars a THAW is the lowest of the monitors that do. -/
theorem thawBlocker_eq_some (hm : m < 32) (hl : 3 ≤ (monitorOf s m).level) (ha : (monitorOf s m).active = true)
    (hlow : ∀ k < m, 3 ≤ (monitorOf s k).level → (monitorOf s k).active = false) : thawBlocker s = some m :=
  List.find?_range_eq_some.mpr
    ⟨by simp [hl, ha], List.mem_range.mpr hm, fun k hk => by simpa [imp_iff_not_or] using hlow k hk⟩

theorem bodyThaw_blocked (hf : wellFormed q 0 []) (hl : s.scarecrow.latched ≠ 5) (hb : thawBlocker s = some m) :
    bodyThaw q s = reject s eState m := by
  rw [bodyThaw, withFormat_ok hf, if_neg (by simpa using hl)]
  simp only [hb]

/-- With nothing latched, the alarm level is that of the causes present. -/
theorem alarmLevel_of_unlatched (h : s.scarecrow.latched = 0) :
    alarmLevel s = if levelsCapped s then min (causesLevel s) 1 else causesLevel s := by
  simp [alarmLevel, h]

theorem modeCheck_purged {c : CmdSpec} (hp : purged s = true) (hc : c.inPurge = false) : modeCheck c q s = some (ePurged, 0) := by
  simp [modeCheck, hp, hc]

end

/-- A command that the mode checks of R38 turn away answers why, once its session's idle time has restarted. -/
theorem runMbx_modeRefused {c : CmdSpec} {body : MbxReq → State → Reply} {q : MbxReq} {s : State} {st d : Nat}
    (ht : stewardTakes s q.fn = true) (hh : headerCheck c q s = none) (ha : (c.access == .n) = false)
    (hm : modeCheck c q (touchSession s q.fn q.session) = some (st, d)) :
    runMbx c body q s = .next (finish s (decline c q (touchSession s q.fn q.session) st d)) := by
  rw [runMbx, goMbx_taken ht, runIdle, hh]
  simp [ha, runChecked, hm, decline, done]

/-- Settles O60. -/
theorem thawNeedsClearCauses : Obligations.ThawNeedsClearCauses := by
  refine ⟨fun q s s₀ h hf hl => ?latched, fun q s ht hh hp =>
    runMbx_modeRefused ht hh rfl (modeCheck_purged (s := touchSession s q.fn q.session) hp rfl)⟩
  have h5 : s₀.scarecrow.latched ≠ 5 := by omega
  refine ⟨fun hclear hagree => ⟨?clears, alarmLevel_of_unlatched rfl⟩, fun m hm hlevel hact hlow =>
    runMbx_rejects h (by decide) (bodyThaw_blocked hf h5 (thawBlocker_eq_some hm hlevel hact hlow))⟩
  have hbody := bodyThaw_evaluates hf h5 (thawBlocker_eq_none_iff.mpr hclear)
  rw [if_neg (by rcases hagree with hagree | hagree <;> simp [hagree])] at hbody
  exact runMbx_accepts h rfl hbody

end Sys2Proof.Machine
end

section
/-! The step (O49) and the life-cycle state that the start reads from the fuse rows (O58). -/

namespace Sys2Proof.Machine

/-! ### The step with an empty queue -/

/-- Step 11 of the start is reached in Active alone (R446). -/
theorem captureStarts_of_notActive {s : State} (h : s.power.state ≠ .active) : captureStarts s = s := by
  simp [captureStarts, h]

@[simp] theorem captureStarts_power (s : State) : (captureStarts s).power = s.power := by
  unfold captureStarts
  split <;> rfl

section
variable {s : State} (hq : s.pending = [])
include hq

theorem step_idle : step s = idle s := by simp [step, hq]

theorem step_takesGo {f : Nat} (hf : waitingGo s = some f) (hw : stewardWorks s = true) : step s = takeGo s f := by
  rw [step_idle hq, idle, hf]
  exact if_pos hw

/-- Where no command can be taken, the step is a tick. -/
theorem step_ticks (h : waitingGo s = none ∨ stewardWorks s = false) : step s = .next (idleTick s) := by
  rw [step_idle hq, idle]
  cases hf : waitingGo s with
  | none => rfl
  | some f => exact if_neg (by simpa [hf] using h)

end

/-- Settles O49. -/
theorem stepRunsFrontCommand : Obligations.StepRunsFrontCommand := by
  refine ⟨fun c rest s hq => ?front, fun f s hq hf hw => step_takesGo hq hf hw, fun s hq h hd hv => ?pll, fun s hq h hlow => ?crystal⟩
  case front => simp only [step, hq]
  case pll => rw [step_ticks hq h, idleTick, if_neg (by simp [hd, hv])]
  case crystal =>
    have hactive : s.power.state ≠ .active := by rcases hlow with hlow | hlow <;> simp [hlow]
    rw [step_ticks hq h, idleTick, captureStarts_of_notActive hactive, if_pos (by simpa using hlow)]
    rfl

/-! ### The fuse rows (R368) -/

/-- The start reads the life-cycle state from the rows, whatever it was. -/
theorem startUp_readsRows (env : StartEnv) (s : State) :
    startUp env { s with life := { s.life with lifecycle := lifecycleOf s.life.rows } } = startUp env s := rfl

/-- Rows that do not all hold one pattern of Table 13-1 read as End of life. -/
theorem lifecycleOf_other {a b c : Nat} (h : ¬(a = b ∧ b = c) ∨ a ∉ [0x00, 0x0F, 0x3F]) : lifecycleOf [a, b, c] = lcEndOfLife := by
  unfold lifecycleOf
  split
  case h_4 => rfl
  all_goals simp_all

/-- Settles O58. -/
theorem lifecycleReadFromFuses : Obligations.LifecycleReadFromFuses := by
  refine ⟨fun env s ha => ?start, rfl, rfl, rfl, rfl, fun a b c h => lifecycleOf_other (.inl h), fun a ha => ?same⟩
  case start =>
    change execColdResetStart env s = _
    rw [execColdResetStart, if_pos ha, startUp_readsRows, done]
  case same => exact lifecycleOf_other (.inr fun h => ha (List.mem_append_left [0xFF] h))

end Sys2Proof.Machine
end

section
/-! The Lanyard's requests and the TAP (O40, O41): what the checks that every request passes make of it, what each request does once
they let it through, and what the debug port's events do. -/

namespace Sys2Proof.Machine

/-! ### The checks of a request (R383, R384) -/

section
variable {op : Nat} {r : LnyReq} {s : State} {allowed : Bool} {k : State → State} (hp : powered s = true)
include hp

theorem lanyard_wrongCrc (hc : r.crc ≠ requestCrc op r) :
    lanyard op r s allowed k = .next (finish s (lnyAnswer s lnyCrc [])) := by
  simp [lanyard, done, hp, hc]

theorem lanyard_refused (hc : r.crc = requestCrc op r) (h : r.reservedOp.isSome = true ∨ allowed = false) :
    lanyard op r s allowed k = .next (finish s (lnyDeny s)) := by
  simp only [lanyard, done, hp, hc, bne_self_eq_false, Bool.not_true, Bool.false_eq_true, if_false]
  rw [if_pos (by simpa using h)]

section
variable (hc : r.crc = requestCrc op r) (hop : r.reservedOp = none) (ha : allowed = true)
include hc hop ha

theorem lanyard_busy (hb : r.busy = true) : lanyard op r s allowed k = .next (finish s (lnyAnswer s lnyWait [])) := by
  simp [lanyard, done, hp, hc, hop, ha, hb]

theorem lanyard_parityError (hb : r.busy = false) (he : r.parity = true) :
    lanyard op r s allowed k = .next (finish s (lnyAnswer s lnyFault [])) := by
  simp [lanyard, done, hp, hc, hop, ha, hb, he]

end

theorem lanyard_acts (hg : goesThrough r) (hc : r.crc = requestCrc op r) (ha : allowed = true) :
    lanyard op r s allowed k = .next (finish s (k s)) := by
  obtain ⟨hop, hb, he⟩ := hg
  simp [lanyard, done, hp, hc, hop, ha, hb, he]

end

/-- A refusal at Closed raises the DEBUG monitor. -/
theorem lnyDeny_closed {s : State} (h : s.life.debug = 0) : lnyDeny s = lnyAnswer (debugReport s) lnyDenied [] := by
  simp [lnyDeny, h]

theorem lnyDeny_open {s : State} (h : s.life.debug ≠ 0) : lnyDeny s = lnyAnswer s lnyDenied [] := by
  simp [lnyDeny, h]

theorem lnyLevel_closed {s : State} (h : s.life.debug = 0) (t : Nat) : lnyLevel s t = false := by simp [lnyLevel, h]

theorem lnyLevel_instances {s : State} {t : Nat} (ht : t = 0xA) (h : 2 ≤ s.life.debug) : lnyLevel s t = true := by
  simp [lnyLevel, ht, h]

theorem lnyLevel_processor {s : State} {t : Nat} (ht : t ≤ 8) (h : s.life.debug = 3) : lnyLevel s t = true := by
  simp [lnyLevel, lnyProc, ht, h]

/-! ### What each request does -/

section
variable {r : LnyReq} {s : State} (hp : powered s = true) (hg : goesThrough r)
include hp hg

theorem exec_lanyardIdentify (hc : r.crc = requestCrc 0x0 r) (ht : r.target = 0xF) (ha : r.addr = 0) (hn : r.count = 3) :
    exec (.lanyardIdentify r) s = .next (finish s
      (lnyAnswer s lnyOk [0x9144, 1, s.ident.serial % 2 ^ 32, s.ident.serial / 2 ^ 32 % 2 ^ 32])) := by
  have hwords : words 2 s.ident.serial = [s.ident.serial % 2 ^ 32, s.ident.serial / 2 ^ 32 % 2 ^ 32] := by
    simp [words, List.range_succ]
  change execLanyardIdentify r s = _
  rw [execLanyardIdentify, lanyard_acts hp hg hc (by simp [ht, ha, hn]), hwords]
  rfl

theorem exec_lanyardStatus (hc : r.crc = requestCrc 0x1 r) (ht : r.target = 0xF) (ha : r.addr = 0) (hn : r.count = 0) :
    exec (.lanyardStatus r) s = .next (finish s (lnyAnswer s lnyOk [lnyStatus s])) := by
  change execLanyardStatus r s = _
  rw [execLanyardStatus, lanyard_acts hp hg hc (by simp [ht, ha, hn])]

theorem exec_lanyardTraceRead (hc : r.crc = requestCrc 0x2 r) (ht : r.target = 0xF) (ha : r.addr < 4096) (hn : r.count = 7)
    (hl : 1 ≤ s.life.debug) :
    exec (.lanyardTraceRead r) s = .next (finish s
      ((s.lanyard.trace[r.addr]?).elim (lnyFree s 8) fun e => lnyAnswer s lnyOk (e.map (· % 2 ^ 32)))) := by
  change execLanyardTraceRead r s = _
  rw [execLanyardTraceRead, lanyard_acts hp hg hc (by simp [ht, ha, hn, hl])]
  cases s.lanyard.trace[r.addr]? <;> rfl

theorem exec_lanyardStatsRead (hc : r.crc = requestCrc 0x3 r) (ht : r.target = 0xF) (hl : 1 ≤ s.life.debug) :
    exec (.lanyardStatsRead r) s = .next (finish s (lnyFree s (r.count + 1))) := by
  change execLanyardStatsRead r s = _
  rw [execLanyardStatsRead, lanyard_acts hp hg hc (by simp [ht, hl])]

theorem exec_lanyardRead_parked {e : Parked} {x : Instance} {k : Nat} (hc : r.crc = requestCrc 0x9 r) (ht : r.target = 0xA)
    (hl : 2 ≤ s.life.debug) (hs : lnySpace r.addr ≤ 4) (hx : parkedOn s (bits r.addr 11 0) = some (k, x)) (he : x.parked = some e) :
    exec (.lanyardRead r) s = .next (finish s (readParked s x e r.addr (r.count + 1))) := by
  change execLanyardRead r s = _
  rw [execLanyardRead, lanyard_acts hp hg hc (by simp [ht, hl, hs])]
  simp [ht, hx, he]

theorem exec_lanyardRead_registers (hc : r.crc = requestCrc 0x9 r) (ht : r.target = 0xF) (hl : s.life.debug = 3)
    (hr : lnyReachable r = true) : exec (.lanyardRead r) s = .next (finish s (lnyFree s (r.count + 1))) := by
  change execLanyardRead r s = _
  rw [execLanyardRead, lanyard_acts hp hg hc (by simp [ht, hl, hr])]
  simp [ht]

theorem exec_lanyardBpSet_new (hc : r.crc = requestCrc 0x4 r) (ht : r.target = 0xA) (hl : 2 ≤ s.life.debug)
    (hnew : r.addr ∉ s.lanyard.sheafBps) (hroom : s.lanyard.sheafBps.length < 16) :
    exec (.lanyardBpSet r) s = .next (finish s
      (lnyAnswer (setLanyard s { s.lanyard with sheafBps := s.lanyard.sheafBps ++ [r.addr] }) lnyOk [])) := by
  change execLanyardBpSet r s = _
  rw [execLanyardBpSet, lanyard_acts hp hg hc (lnyLevel_instances ht hl)]
  simp [ht, hnew, Nat.not_le.mpr hroom]

theorem exec_lanyardBpClear_instances (hc : r.crc = requestCrc 0x5 r) (ht : r.target = 0xA) (hl : 2 ≤ s.life.debug) :
    exec (.lanyardBpClear r) s = .next (finish s (lnyAnswer (setLanyard s { s.lanyard with
      sheafBps := s.lanyard.sheafBps.filter (fun b => !(r.addr == 0xFFFFFFFF) && b != r.addr) }) lnyOk [])) := by
  change execLanyardBpClear r s = _
  rw [execLanyardBpClear, lanyard_acts hp hg hc (lnyLevel_instances ht hl)]
  simp [ht]

section
variable (ht : r.target ≤ 8) (hl : s.life.debug = 3)
include ht hl

theorem exec_lanyardHalt_processor (hc : r.crc = requestCrc 0x6 r) (hd : s.power.state ≠ .drowse) :
    exec (.lanyardHalt r) s = .next (finish s
      (lnyAnswer (setLanyard s { s.lanyard with halted := addNew s.lanyard.halted r.target }) lnyOk [])) := by
  have hproc : r.target ≠ 0xA := by omega
  change execLanyardHalt r s = _
  rw [execLanyardHalt, lanyard_acts hp hg hc (lnyLevel_processor ht hl)]
  simp [hproc, hd]

section
variable (hh : r.target ∈ s.lanyard.halted)
include hh

theorem exec_lanyardResume_processor (hc : r.crc = requestCrc 0x7 r) :
    exec (.lanyardResume r) s = .next (finish s (lnyAnswer (resumeProc s r.target) lnyOk [])) := by
  have hproc : r.target ≠ 0xA := by omega
  change execLanyardResume r s = _
  rw [execLanyardResume, lanyard_acts hp hg hc (lnyLevel_processor ht hl)]
  simp [hproc, hh]

theorem exec_lanyardStep_processor (hc : r.crc = requestCrc 0x8 r) :
    exec (.lanyardStep r) s = .next (finish s (lnyAnswer (setLanyard s { s.lanyard with
      memory := tblDrop s.lanyard.memory (fun k _ => k / 2 ^ 32 == r.target) }) lnyOk [])) := by
  have hproc : r.target ≠ 0xA := by omega
  change execLanyardStep r s = _
  rw [execLanyardStep, lanyard_acts hp hg hc (lnyLevel_processor ht hl)]
  simp [hproc, hh]

theorem exec_lanyardWrite_processor (hc : r.crc = requestCrc 0xA r) (hr : lnyReachable r = true) :
    exec (.lanyardWrite r) s = .next (finish s (lnyAnswer (setLanyard s { s.lanyard with
      memory := ((List.range r.wdata.length).zip r.wdata).foldl
        (fun m w => tblSet m (r.target * 2 ^ 32 + r.addr + w.1) (w.2 % 2 ^ 32)) s.lanyard.memory }) lnyOk [])) := by
  have hproc : r.target ≠ 0xA := by omega
  change execLanyardWrite r s = _
  rw [execLanyardWrite, lanyard_acts hp hg hc (by simp [lnyProc, ht, hl, hr])]
  simp [hproc, hh]

end
end

section
variable {k : Nat} {x : Instance} (ht : r.target = 0xA) (hl : 2 ≤ s.life.debug) (hx : parkedOn s r.addr = some (k, x))
include ht hl hx

theorem exec_lanyardResume_parked (hc : r.crc = requestCrc 0x7 r) :
    exec (.lanyardResume r) s = .next (finish s (lnyAnswer (unpark s k false) lnyOk [])) := by
  change execLanyardResume r s = _
  rw [execLanyardResume, lanyard_acts hp hg hc (lnyLevel_instances ht hl)]
  simp [ht, hx]

theorem exec_lanyardStep_parked (hc : r.crc = requestCrc 0x8 r) :
    exec (.lanyardStep r) s = .next (finish s (lnyAnswer (unpark s k true) lnyOk [])) := by
  change execLanyardStep r s = _
  rw [execLanyardStep, lanyard_acts hp hg hc (lnyLevel_instances ht hl)]
  simp [ht, hx]

end
end

/-! ### Requests that the level, the address or a check bars (R379, R384, R386) -/

section
variable {r : LnyReq} {s : State} (hp : powered s = true)
include hp

theorem exec_lanyardIdentify_wrongCrc (hc : r.crc ≠ requestCrc 0x0 r) :
    exec (.lanyardIdentify r) s = .next (finish s (lnyAnswer s lnyCrc [])) := by
  change execLanyardIdentify r s = _
  rw [execLanyardIdentify, lanyard_wrongCrc hp hc]

theorem exec_lanyardWrite_wrongCrc (hc : r.crc ≠ requestCrc 0xA r) :
    exec (.lanyardWrite r) s = .next (finish s (lnyAnswer s lnyCrc [])) := by
  change execLanyardWrite r s = _
  rw [execLanyardWrite, lanyard_wrongCrc hp hc]

section
variable (hc : r.crc = requestCrc 0x1 r)
include hc

theorem exec_lanyardStatus_reservedOp (hop : r.reservedOp.isSome = true) :
    exec (.lanyardStatus r) s = .next (finish s (lnyDeny s)) := by
  change execLanyardStatus r s = _
  rw [execLanyardStatus, lanyard_refused hp hc (.inl hop)]

section
variable (hop : r.reservedOp = none) (ht : r.target = 0xF) (ha : r.addr = 0) (hn : r.count = 0)
include hop ht ha hn

theorem exec_lanyardStatus_busy (hb : r.busy = true) :
    exec (.lanyardStatus r) s = .next (finish s (lnyAnswer s lnyWait [])) := by
  change execLanyardStatus r s = _
  rw [execLanyardStatus, lanyard_busy hp hc hop (by simp [ht, ha, hn]) hb]

theorem exec_lanyardStatus_parityError (hb : r.busy = false) (he : r.parity = true) :
    exec (.lanyardStatus r) s = .next (finish s (lnyAnswer s lnyFault [])) := by
  change execLanyardStatus r s = _
  rw [execLanyardStatus, lanyard_parityError hp hc hop (by simp [ht, ha, hn]) hb he]

end
end

/-- A READ of an excluded address, of anything but the parked instances. -/
theorem exec_lanyardRead_excluded (hc : r.crc = requestCrc 0x9 r) (ht : r.target ≠ 0xA) (hl : s.life.debug = 3)
    (hr : lnyReachable r = false) : exec (.lanyardRead r) s = .next (finish s (lnyAnswer s lnyDenied [])) := by
  change execLanyardRead r s = _
  rw [execLanyardRead, lanyard_refused hp hc (.inr (by simp [ht, hr])), lnyDeny_open (by simp [hl])]

theorem exec_lanyardWrite_excluded (hc : r.crc = requestCrc 0xA r) (ht : r.target ≠ 0xA) (hl : s.life.debug = 3)
    (hr : lnyReachable r = false) : exec (.lanyardWrite r) s = .next (finish s (lnyAnswer s lnyDenied [])) := by
  change execLanyardWrite r s = _
  rw [execLanyardWrite, lanyard_refused hp hc (.inr (by simp [ht, hr])), lnyDeny_open (by simp [hl])]

section
variable (hl : s.life.debug = 0)
include hl

theorem exec_lanyardRead_closed (hc : r.crc = requestCrc 0x9 r) :
    exec (.lanyardRead r) s = .next (finish s (lnyAnswer (debugReport s) lnyDenied [])) := by
  change execLanyardRead r s = _
  rw [execLanyardRead, lanyard_refused hp hc (.inr (by simp [hl])), lnyDeny_closed hl]

theorem exec_lanyardWrite_closed (hc : r.crc = requestCrc 0xA r) :
    exec (.lanyardWrite r) s = .next (finish s (lnyAnswer (debugReport s) lnyDenied [])) := by
  change execLanyardWrite r s = _
  rw [execLanyardWrite, lanyard_refused hp hc (.inr (by simp [hl])), lnyDeny_closed hl]

theorem exec_lanyardHalt_closed (hc : r.crc = requestCrc 0x6 r) :
    exec (.lanyardHalt r) s = .next (finish s (lnyAnswer (debugReport s) lnyDenied [])) := by
  change execLanyardHalt r s = _
  rw [execLanyardHalt, lanyard_refused hp hc (.inr (lnyLevel_closed hl _)), lnyDeny_closed hl]

end
end

/-- Settles O40. -/
theorem lanyardRequestsAct : Obligations.LanyardRequestsAct := by
  refine ⟨fun r s hp hg => ⟨exec_lanyardIdentify hp hg, exec_lanyardStatus hp hg, fun hc ht ha hn hl => ?trace,
      exec_lanyardStatsRead hp hg, fun e x k => exec_lanyardRead_parked hp hg, fun hc ht hl => ?registers⟩,
    fun r s hp hg => ⟨exec_lanyardBpSet_new hp hg, exec_lanyardBpClear_instances hp hg, fun ht hl =>
      ⟨exec_lanyardHalt_processor hp hg ht hl, fun hh => ⟨exec_lanyardResume_processor hp hg ht hl hh,
        exec_lanyardStep_processor hp hg ht hl hh, fun hc => ?write⟩⟩,
      fun k x ht hl hx => ⟨exec_lanyardResume_parked hp hg ht hl hx, exec_lanyardStep_parked hp hg ht hl hx⟩⟩⟩
  case trace =>
    rw [exec_lanyardTraceRead hp hg hc ht ha hn hl]
    cases s.lanyard.trace[r.addr]? <;> rfl
  case registers =>
    split
    · exact exec_lanyardRead_registers hp hg hc ht hl ‹_›
    · exact exec_lanyardRead_excluded hp hc (by simp [ht]) hl (Bool.not_eq_true _ ▸ ‹_›)
  case write =>
    split
    · exact exec_lanyardWrite_processor hp hg ht hl hh hc ‹_›
    · exact exec_lanyardWrite_excluded hp hc (by omega) hl (Bool.not_eq_true _ ▸ ‹_›)

/-! ### The TAP (R387, R388) -/

@[simp] theorem tapScan_instr (w : Tap) (pins tdi : List Bool) : (tapScan w pins tdi).instr = w.instr := by
  unfold tapScan
  split <;> rfl

theorem runTap_instr (w : Tap) {op : TapOp} (h : op.reset = false) : (runTap w op).instr = op.instr := by
  simp only [runTap, h, Bool.false_eq_true, if_false]
  cases op.tdi with
  | none => rfl
  | some d => exact tapScan_instr ..

theorem tapEnabled_iff {s : State} : tapEnabled s = true ↔ s.life.lifecycle = lcBlank ∨ s.life.lifecycle = lcTest := by
  simp [tapEnabled]

/-- A TCK edge where the TAP is disabled and no edge of the last 10 ms was reported. -/
theorem exec_tapTckInProduction_reports {s : State} (he : tapEnabled s = false) (hp : powered s = true)
    (hdue : ∀ t, s.scarecrow.lastTck = some t → t + 10000 ≤ s.now) :
    exec .tapTckInProduction s = .next (finish s (debugReport (setScarecrow s { s.scarecrow with lastTck := some s.now }))) := by
  change execTapTckInProduction s = _
  rw [execTapTckInProduction, done]
  cases ht : s.scarecrow.lastTck with
  | none => simp [he, hp]
  | some t => simp [he, hp, hdue t ht]

/-- Settles O41. -/
theorem debugLinkGuards : Obligations.DebugLinkGuards := by
  refine ⟨fun r s hp => ⟨exec_lanyardIdentify_wrongCrc hp, exec_lanyardWrite_wrongCrc hp, exec_lanyardStatus_reservedOp hp,
      fun hc hop ht ha hn => ⟨exec_lanyardStatus_busy hp hc hop ht ha hn, exec_lanyardStatus_parityError hp hc hop ht ha hn⟩⟩,
    fun r s hp hl hc ht => ?excluded,
    fun r s hp hl => ⟨exec_lanyardRead_closed hp hl, exec_lanyardWrite_closed hp hl, exec_lanyardHalt_closed hp hl⟩,
    fun s => rfl, fun s hd he => ?expiry, fun op s h => ?tap, fun w op h => if_pos h, fun w op h => runTap_instr w h,
    fun op s hb ht => ?held, fun s hb ht hp hdue => exec_tapTckInProduction_reports (by simp [tapEnabled, hb, ht]) hp hdue⟩
  case excluded =>
    obtain ⟨t, h⟩ := exec_finish (.lanyardRead r) s
    cases hr : lnyReachable r with
    | true => exact ⟨t, h⟩
    | false => exact ⟨s, exec_lanyardRead_excluded hp hc ht hl hr⟩
  case expiry =>
    change execDebugLevelExpiry s = _
    rw [execDebugLevelExpiry, if_neg (by simp [hd, he]), done]
  case tap =>
    change execTapOperation op s = _
    rw [execTapOperation, if_pos (tapEnabled_iff.mpr h), done]
  case held =>
    change execTapOperation op s = _
    rw [execTapOperation, if_neg (by simp [tapEnabled_iff, hb, ht]), done]

end Sys2Proof.Machine
end

section
/-! The life-cycle, ownership and debug commands (O20): what each command's body gives where its checks pass, and how a transition and
a claim end. -/

namespace Sys2Proof.Machine

/-! ### Transitions (R371–R375) -/

section
variable {q : MbxReq} {s : State} {f n t : Nat} {o : DefOp}

theorem bodyTransition_logs {code : Nat} {rs : List (Nat × Nat)} (hf : wellFormed q 16 rs) (hs : fld q 8 8 = s.ident.serial)
    (hr : lifeReady s = true) (ht : lifeTarget code q.payload s = some t) :
    bodyTransition code rs q s = accept (logCommand s code q.fn q.tag sOk t q.payload) [] := by
  rw [bodyTransition, withFormat_ok hf, if_neg (by simp [hs]), if_neg (by simp [hr]), ht]

theorem finishOp_transition (hc : o.code = 0x0D02 ∨ o.code = 0x0D07) (h : mayEnd s f n o o.code) :
    finishOp s f o = endTransition s f o := by
  obtain ⟨-, -, -, hgone, hp⟩ := h
  rcases hc with hc | hc <;> simp_all [finishOp]

theorem finishOp_ownerClaim (h : mayEnd s f n o 0x0D03) : finishOp s f o = endOwnerClaim s f o := by
  obtain ⟨-, hcode, -, hgone, hp⟩ := h
  simp [finishOp, hgone, hcode, hp]

end

/-! ### OWNER_CLAIM (R376–R378) -/

theorem bodyOwnerClaim_starts {q : MbxReq} {s : State} (hf : wellFormed q (204 + fld q 6 2) [(105, 3)])
    (hk : claimKeyLen (fld q 4 2) = some (fld q 6 2)) : bodyOwnerClaim q s = accept s [] := by
  rw [bodyOwnerClaim, withFormat_ok hf, if_neg (by simp [hk]), if_neg (by simp [hk])]

/-- The keys that a claim brings are valid, and it is signed with the owner's (R377). -/
def claimVerifies (s : State) (p : Bytes) : Bool :=
  p384Ok s (slice p 8 97) && (rd p 4 2 != 1 || p384Ok s (slice p 108 97)) &&
    verifyP384 (slice p 8 97) (ascii "OPM-CLAIM" ++ le 8 s.ident.serial ++ p.take (108 + rd p 6 2)) (slice p (108 + rd p 6 2) 96)

/-- A claim with the next number, on a unit that takes one and from the owner that it has, turns on its keys and its signature. -/
theorem claimCheck_judges {s : State} {p : Bytes} (hlc : s.life.lifecycle = lcProduction)
    (hopen : s.life.claimed = false ∨ s.life.purged = true) (hz : s.scarecrow.zerofill ≠ 5) (hno : rd p 0 4 = s.life.claimNo + 1)
    (howner : s.life.purged = true → s.life.claimNo ≠ 0 → sha3 (slice p 8 97) = s.life.ownerDigest) :
    claimCheck s p = if claimVerifies s p then none else some (eAuth, 0) := by
  unfold claimCheck
  dsimp only
  rw [if_neg (by simpa [hlc, or_iff_not_imp_left] using hopen), if_neg (by simp [fillingAll, hz]),
    if_neg (by simp [hno]), if_neg (by simpa using howner)]
  rfl

/-- The unit with the owner and the client-0 credential of a claim; on a Purged unit the condition and the latch have ended (R378). -/
def claimedUnit (s : State) (p : Bytes) : State :=
  let t := setLife s { s.life with
    claimed := true, claimNo := rd p 0 4, ownerKey := slice p 8 97, ownerDigest := sha3 (slice p 8 97), purged := false }
  let t := setClient t 0 { clientOf t 0 with
    creds := tblSet (clientOf t 0).creds 0 { alg := rd p 4 2, key := slice p 108 (rd p 6 2) } }
  if s.life.purged then setScarecrow t { t.scarecrow with latched := 0, latchSrc := 0 } else t

theorem endOwnerClaim_records {s : State} {f : Nat} {o : DefOp} (h : claimCheck s o.payload = none) :
    endOwnerClaim s f o = endOp (claimedUnit s o.payload) f o sOk 0
      (fit 8 (sha3 (slice o.payload 8 97)) ++ le 4 (rd o.payload 0 4) ++ zeros 4) := by
  rw [endOwnerClaim, h]
  rfl

/-! ### Debug commands (R380, R381) -/

theorem bodyDebugChallenge_issues {q : MbxReq} {s : State} (hf : wellFormed q 4 [(1, 3)]) (h1 : 1 ≤ fld q 0 1) (h3 : fld q 0 1 ≤ 3) :
    bodyDebugChallenge q s =
      let c : Challenge := { level := fld q 0 1, bytes := randomBytes s 32, issued := s.now, expires := s.now + 600000000
                             need := debugNeed s (fld q 0 1) }
      accept (setLife (draw s) { s.life with challenge := some c })
        (c.bytes ++ le 8 c.issued ++ le 8 c.expires ++ le 1 c.level ++ le 1 c.need ++ zeros 6) := by
  rw [bodyDebugChallenge, withFormat_ok hf, if_neg (by simp; omega)]
  rfl

/-- A token for the standing challenge `c`: it may open its level now, and each of its fields is what the challenge asks (R381). -/
structure TokenMatches (s : State) (c : Challenge) (p : Bytes) : Prop where
  unthrottled : throttled s = false
  alive : s.life.lifecycle ≠ lcEndOfLife
  solo : rd p 1 1 = 3 → s.pair.role = .solo
  stands : s.life.challenge = some c
  inTime : s.now < c.expires
  length : p.length = tokenLen c.need
  reserved : firstReserved p ([(2, 6)] ++ if bit c.need 1 then [((if bit c.need 0 then 152 else 56) + 97, 3)] else []) = none
  version : rd p 0 1 = 1
  level : rd p 1 1 = c.level
  serial : rd p 8 8 = s.ident.serial
  bytes : slice p 16 32 = c.bytes
  expires : rd p 48 8 = c.expires

section
variable {q : MbxReq} {s : State} {c : Challenge}

/-- Such a token turns on its signatures. -/
theorem unlockCheck_judges {p : Bytes} (h : TokenMatches s c p) :
    unlockCheck s p = if tokenSigned s c.need p then none else some (eAuth, 0) := by
  have hmay : (throttled s || s.life.lifecycle == lcEndOfLife || (rd p 1 1 == 3 && s.pair.role != .solo)) = false := by
    simpa [h.unthrottled, h.alive] using h.solo
  unfold unlockCheck
  rw [hmay, h.stands]
  simp only [h.reserved]
  rw [if_neg Bool.false_ne_true, if_neg (Nat.not_le.mpr h.inTime)]
  simp [h.length, h.version, ← h.level, h.serial, h.bytes, h.expires]

theorem bodyDebugUnlock_opens (h : TokenMatches s c q.payload) (hv : tokenSigned s c.need q.payload = true) :
    bodyDebugUnlock q s =
      let t := if fld q 1 1 == 3 then enterFull s else s
      accept (setLife t { t.life with debug := fld q 1 1, debugExpires := fld q 48 8 }) [] := by
  simp only [bodyDebugUnlock, unlockCheck_judges h, hv, if_true]

theorem bodyDebugUnlock_fails (h : TokenMatches s c q.payload) (hv : tokenSigned s c.need q.payload = false) :
    bodyDebugUnlock q s = reject (debugReport (setLife s { s.life with challenge := none })) eAuth 0 := by
  simp only [bodyDebugUnlock, unlockCheck_judges h, hv, Bool.false_eq_true, if_false]

end

/-- Settles O20. -/
theorem lifecycleAndDebugCommandsComplete : Obligations.LifecycleAndDebugCommandsComplete := by
  refine ⟨⟨fun q s s₀ h hf => runMbx_accepts h rfl (withFormat_ok hf),
      fun q s s₀ t h hf hs hr ht => runMbx_begins h rfl (bodyTransition_logs hf hs hr ht),
      fun q s s₀ t h hf hs hr ht => runMbx_begins h rfl (bodyTransition_logs hf hs hr ht),
      fun f n o t s hc h ht => ?burns, fun q s s₀ h ⟨hf, hk⟩ => runMbx_begins h rfl (bodyOwnerClaim_starts hf hk),
      fun f n o s h hlc hopen => ?claims⟩,
    fun q s s₀ h hf h1 h3 => runMbx_accepts h rfl (bodyDebugChallenge_issues hf h1 h3),
    fun q s s₀ c h hthr hlc hsolo hc htime hlen hres hver hlevel hserial hbytes hexp => ?unlock,
    fun q s s₀ h hf => runMbx_accepts h rfl (withFormat_ok hf)⟩
  case burns =>
    have hend := finishOp_transition hc h ▸ endsWith_finishOp h
    rw [endTransition, ht] at hend
    exact hend
  case claims =>
    intro p key signed keysOk hz hno howner t₁ t₂ t₃
    have hend := finishOp_ownerClaim h ▸ endsWith_finishOp h
    have hcheck := claimCheck_judges hlc hopen hz hno howner
    have hverifies : (keysOk && signed) = claimVerifies s p := rfl
    rw [hverifies]
    split_ifs at hcheck ⊢
    · rwa [endOwnerClaim_records hcheck] at hend
    · rwa [endOwnerClaim, hcheck] at hend
  case unlock =>
    have htoken : TokenMatches s₀ c q.payload :=
      ⟨hthr, hlc, hsolo, hc, htime, hlen, hres, hver, hlevel, hserial, hbytes, hexp⟩
    cases hv : tokenSigned s₀ c.need q.payload with
    | true => exact runMbx_accepts h rfl (bodyDebugUnlock_opens htoken hv)
    | false => exact runMbx_rejects h (by decide) (bodyDebugUnlock_fails htoken hv)

end Sys2Proof.Machine
end

section
/-! The counter commands (O5): what each command's body gives where its checks pass. -/

namespace Sys2Proof.Machine

section
variable {q : MbxReq} {s : State} {c : Counter}

/-- A counter whose ID a client may name is no device counter (R299). -/
theorem deviceCounter_of_lt {id : Nat} (h : id < 0x7FF00) : deviceCounter id = false := by
  simpa [deviceCounter] using h

/-- COUNTER_READ of a counter that the client may read turns on R405 alone. -/
theorem bodyCounterRead_reads (hc : counterOf s (fld q 0 4) = c) (hf : wellFormed q 4 []) (hid : fld q 0 4 < 0x80000)
    (hd : c.damaged = false) (hmay : c.allocated = true → deviceCounter (fld q 0 4) = false →
      attrOwner c.attr = q.fn ∨ q.fn = 0 ∨ ctrShared c = true) :
    bodyCounterRead q s =
      if beyondAcked s (fld q 0 4) (counterValue s (fld q 0 4))
      then { st := s, hold := some (.epoch (fld q 0 4) (counterValue s (fld q 0 4))) }
      else accept s (counterReply s (fld q 0 4)) := by
  have hallowed : (c.allocated && !deviceCounter (fld q 0 4) && !(attrOwner c.attr == q.fn || q.fn == 0 || ctrShared c)) = false := by
    cases ha : c.allocated with
    | false => rfl
    | true =>
      cases hdev : deviceCounter (fld q 0 4) with
      | true => rfl
      | false => simpa [or_iff_not_imp_left] using hmay ha hdev
  rw [bodyCounterRead, withFormat_ok hf, if_neg (Nat.not_le.mpr hid), hc, hallowed, hd]
  rfl

/-- COUNTER_ADVANCE of a counter that the client may advance, below the limit of R300, turns on R405 alone. -/
theorem bodyCounterAdvance_adds (hc : counterOf s (fld q 0 4) = c) (hf : wellFormed q 8 []) (hid : fld q 0 4 < 0x7FF00)
    (hstep : fld q 4 4 ≠ 0) (ha : c.allocated = true) (hmay : attrOwner c.attr = q.fn ∨ ctrShared c = true)
    (hd : c.damaged = false) (htop : c.value + fld q 4 4 < counterTop) :
    bodyCounterAdvance q s =
      let t := setCounter (rememberAcked s (fld q 0 4) c.value) (fld q 0 4) { c with value := c.value + fld q 4 4 }
      if beyondAcked t (fld q 0 4) (c.value + fld q 4 4) then { st := t, hold := some (.epoch (fld q 0 4) (c.value + fld q 4 4)) }
      else accept t (le 8 (c.value + fld q 4 4)) := by
  have hsum : advanced c.value (fld q 4 4) = c.value + fld q 4 4 := if_neg (Nat.not_le.mpr htop)
  have hnotTop : (c.value + fld q 4 4 == counterTop) = false := beq_false_of_ne htop.ne
  rw [bodyCounterAdvance, withFormat_ok hf, if_neg (by omega), if_neg (by simpa using hstep),
    if_neg (by simp [deviceCounter_of_lt hid]), hc, if_neg (by simpa [ha, or_iff_not_imp_left] using hmay), if_neg (by simp [hd])]
  simp only [hsum, hnotTop, Bool.false_eq_true, if_false]

/-- COUNTER_ALLOCATE of a client's counter turns on OP and on who may have the counter. -/
theorem bodyCounterAllocate_checked (hc : counterOf s (fld q 4 4) = c) (hf : wellFormed q 12 [(1, 3)])
    (hop : fld q 0 1 = 1 ∨ fld q 0 1 = 2) (hid : fld q 4 4 < 0x7FF00) (hres : fld q 0 1 = 1 → ctrReserved (fld q 8 4) = false) :
    bodyCounterAllocate q s =
      if fld q 0 1 == 2 then
        if c.allocated && (attrOwner c.attr == q.fn || q.fn == 0) then
          allocReply (setCounter s (fld q 4 4) { c with allocated := false, attr := 0 }) (fld q 4 4)
        else reject s eDenied 0
      else if q.fn != 0 && attrOwner (fld q 8 4) != q.fn then reject s eDenied 0
      else allocate q s (fld q 4 4) (fld q 8 4) := by
  have hany : (fld q 4 4 == 0xFFFFFFFF) = false := beq_false_of_ne (by omega)
  have hattr : ¬ (fld q 0 1 == 1 && ctrReserved (fld q 8 4)) = true := by simpa using hres
  rw [bodyCounterAllocate, withFormat_ok hf, if_neg (by simpa [or_iff_not_imp_left] using hop), if_neg (by simp; omega),
    if_neg hattr, if_neg (by simp [deviceCounter_of_lt hid]), hc]
  simp only [hany, Bool.false_eq_true, if_false]

/-- The reply of COUNTER_ALLOCATE gives the value that the counter was left with. -/
theorem allocReply_setCounter (id : Nat) :
    allocReply (setCounter s id c) id = accept (setCounter s id c) (le 4 id ++ zeros 4 ++ le 8 c.value) := by
  have hc : counterOf (setCounter s id c) id = c := by
    unfold setCounter share counterOf
    split_ifs <;> exact tblGet_set_same _ _ _ _
  rw [allocReply, hc]

theorem bodyCounterAllocate_allocates (hc : counterOf s (fld q 4 4) = c) (hf : wellFormed q 12 [(1, 3)]) (hop : fld q 0 1 = 1)
    (hid : fld q 4 4 < 0x7FF00) (hres : ctrReserved (fld q 8 4) = false) (hown : q.fn = 0 ∨ attrOwner (fld q 8 4) = q.fn)
    (hd : c.damaged = false) (ha : c.allocated = false) :
    bodyCounterAllocate q s = accept (setCounter s (fld q 4 4) { c with allocated := true, attr := fld q 8 4 })
      (le 4 (fld q 4 4) ++ zeros 4 ++ le 8 c.value) := by
  have hallowed : ¬ (q.fn != 0 && attrOwner (fld q 8 4) != q.fn) = true := by simpa [or_iff_not_imp_left] using hown
  rw [bodyCounterAllocate_checked hc hf (.inl hop) hid (fun _ => hres), if_neg (by simp [hop]), if_neg hallowed, allocate, hc,
    if_neg (by simp [hd]), if_neg (by simp [ha]), allocReply_setCounter]

theorem bodyCounterAllocate_releases (hc : counterOf s (fld q 4 4) = c) (hf : wellFormed q 12 [(1, 3)]) (hop : fld q 0 1 = 2)
    (hid : fld q 4 4 < 0x7FF00) (ha : c.allocated = true) (hown : attrOwner c.attr = q.fn ∨ q.fn = 0) :
    bodyCounterAllocate q s = accept (setCounter s (fld q 4 4) { c with allocated := false, attr := 0 })
      (le 4 (fld q 4 4) ++ zeros 4 ++ le 8 c.value) := by
  rw [bodyCounterAllocate_checked hc hf (.inr hop) hid (by simp [hop]), if_pos (by simp [hop]), if_pos (by simpa [ha] using hown),
    allocReply_setCounter]

end

/-- Settles O5. -/
theorem counterCommandsComplete : Obligations.CounterCommandsComplete := by
  refine ⟨fun q s s₀ h ⟨hf, hid, hd, hb, hmay⟩ => runMbx_accepts h rfl ?reads,
    fun q s s₀ h ⟨hf, hid, hd, hb, hmay⟩ => runMbx_waits h ?waits,
    fun q s s₀ h hf hid hstep => ?advances,
    fun q s s₀ h hf hop hid hres hown hd ha =>
      runMbx_accepts h rfl (bodyCounterAllocate_allocates rfl hf hop hid hres hown hd ha),
    fun q s s₀ h hf hop hid ha hown => runMbx_accepts h rfl (bodyCounterAllocate_releases rfl hf hop hid ha hown)⟩
  case reads =>
    rw [bodyCounterRead_reads rfl hf hid hd hmay, if_neg (by simp [hb])]
    rfl
  case waits => rw [bodyCounterRead_reads rfl hf hid hd hmay, if_pos hb]
  case advances =>
    intro c t ha hmay hd htop hb
    exact runMbx_accepts h rfl
      ((bodyCounterAdvance_adds rfl hf hid hstep ha hmay hd htop).trans (if_neg (Bool.not_eq_true _ ▸ hb)))

end Sys2Proof.Machine
end

section
/-! Commands that only read (O54): each step of the mailbox changes its function's window alone and leaves a quiet state quiet, so
nothing follows the command. -/

namespace Sys2Proof.Machine

/-! ### A window of its own -/

/-- From `s` to `t` only the window of function `f` changes, and nothing there that the device would act on by itself. -/
structure OwnWindow (f : Nat) (s t : State) : Prop where
  frame : ∃ w, t = { s with fns := w }
  others : ∀ g, g ≠ f → fnOf t g = fnOf s g
  quiets : quiet s → quiet t

theorem OwnWindow.refl (f : Nat) (s : State) : OwnWindow f s s := ⟨⟨s.fns, rfl⟩, fun _ _ => rfl, id⟩

theorem OwnWindow.trans {f : Nat} {s t u : State} (h : OwnWindow f s t) (h' : OwnWindow f t u) : OwnWindow f s u := by
  obtain ⟨w, rfl⟩ := h.frame
  obtain ⟨w', rfl⟩ := h'.frame
  exact ⟨⟨w', rfl⟩, fun g hg => (h'.others g hg).trans (h.others g hg), h'.quiets ∘ h.quiets⟩

/-- A write to a function's window that adds no operation and leaves what its mailbox holds, or drops it. -/
theorem ownWindow_setFn {s : State} {f : Nat} {w : Fn} (ho : w.ops = (fnOf s f).ops)
    (hh : w.held = (fnOf s f).held ∨ w.held = none) : OwnWindow f s (setFn s f w) where
  frame := ⟨_, rfl⟩
  others := fun _ hg => fnOf_setFn_other s w hg
  quiets := by
    rintro ⟨hd, hhatch, hs, hw, hv, hi, hops, hj, hl, hheld, hb⟩
    refine ⟨hd, hhatch, hs, hw, hv, hi, fun e he => ?ops, hj, hl, ?held, hb⟩
    case ops =>
      rcases mem_tblSet he with rfl | he
      · exact ho ▸ ops_fnOf hops f
      · exact hops e he
    case held =>
      by_cases hf : f = 0
      · subst hf
        rw [fnOf_setFn_same]
        rcases hh with hh | hh
        · exact hh ▸ hheld
        · simp [hh]
      · rwa [fnOf_setFn_other s w (Ne.symm hf)]

section
variable (s : State) (f : Nat)

theorem ownWindow_signal (v : Nat) : OwnWindow f s (signal s f v) := by
  unfold signal
  dsimp only
  split_ifs
  · exact .refl f s
  all_goals exact ownWindow_setFn rfl (.inl rfl)

theorem ownWindow_raiseCause (c : Cause) : OwnWindow f s (raiseCause s f c) := by
  have hset : ∀ (w : Fn) (b : Bool), w.ops = (fnOf s f).ops → w.held = (fnOf s f).held →
      OwnWindow f s (if b then setFn s f w else signal (setFn s f w) f 0) := by
    intro w b ho hh
    have hw : OwnWindow f s (setFn s f w) := ownWindow_setFn ho (.inl hh)
    split_ifs
    · exact hw
    · exact hw.trans (ownWindow_signal _ f 0)
  cases c with
  | mbxDone => exact hset { fnOf s f with mbxDone := true } _ rfl rfl
  | ringHalt => exact hset { fnOf s f with ringHalt := true } _ rfl rfl
  | notice => exact hset { fnOf s f with notice := true } _ rfl rfl

theorem ownWindow_respond (code tag status detail : Nat) (b : Bytes) : OwnWindow f s (respond s code f tag status detail b) := by
  refine (ownWindow_setFn ?ops (.inr ?held)).trans (ownWindow_raiseCause _ f .mbxDone)
  case ops => rfl
  case held => rfl

theorem ownWindow_touchSession (v : Nat) : OwnWindow f s (touchSession s f v) := ownWindow_setFn rfl (.inl rfl)

theorem ownWindow_rejectGo : OwnWindow f s (rejectGo s f) := ownWindow_setFn rfl (.inl rfl)

/-- The response of a command that R511 does not list. -/
theorem ownWindow_finishCmd {code : Nat} (hlog : isLogged code = false) (tag status detail : Nat) (req b : Bytes) :
    OwnWindow f s (finishCmd s code f tag status detail req b) := by
  rw [finishCmd, if_neg (by simp [hlog])]
  exact ownWindow_respond s f code tag status detail b

end

/-! ### The mailbox with a command that only reads -/

/-- A command that only reads: it is neither deferred, nor written to the Ledger, nor guarded; its body leaves the state as it finds it, and
waits for nothing but a slot's write under way and, of COUNTER_READ, what R405 holds back. -/
structure ReadOnly (c : CmdSpec) (body : MbxReq → State → Reply) : Prop where
  immediate : c.deferred = false
  unlogged : isLogged c.code = false
  unguarded : ∀ q s, isGuarded s c q = false
  keeps : ∀ q s, (body q s).st = s
  answers : ∀ q s, s.writes = [] → (c.code = 0x0110 → beyondAcked s (fld q 0 4) (counterValue s (fld q 0 4)) = false) →
    (body q s).hold = none

section
variable {c : CmdSpec} {body : MbxReq → State → Reply} {q : MbxReq} {s : State} (h : ReadOnly c body) (hw : s.writes = [])
  (hheld : c.code = 0x0110 → beyondAcked s (fld q 0 4) (counterValue s (fld q 0 4)) = false)
include h hw hheld

theorem ownWindow_settleReply : OwnWindow q.fn s (settleReply c q (body q s)) := by
  have hbody := h.keeps q s
  rw [settleReply, h.answers q s hw hheld]
  simp only [h.immediate, Bool.false_and, Bool.false_eq_true, if_false, hbody]
  exact ownWindow_finishCmd _ _ h.unlogged _ _ _ _ _

/-- Steps 6 to 9 of R38, and the command. -/
theorem ownWindow_runChecked : OwnWindow q.fn s (runChecked c body q s) := by
  unfold runChecked
  split
  · exact ownWindow_finishCmd _ _ h.unlogged _ _ _ _ _
  · rw [if_neg (by simp [h.unguarded])]
    exact ownWindow_settleReply h hw hheld

/-- Steps 1 to 5 of R38, and what follows them. -/
theorem ownWindow_runIdle : OwnWindow q.fn s (runIdle c body q s) := by
  unfold runIdle
  split
  · exact ownWindow_respond _ _ _ _ _ _ _
  · dsimp only
    split_ifs
    · exact ownWindow_runChecked h hw hheld
    · exact (ownWindow_touchSession s q.fn q.session).trans (ownWindow_runChecked h hw hheld)

theorem ownWindow_goMbx (hserves : stewardServes s = true) : OwnWindow q.fn s (goMbx c body q s) := by
  unfold goMbx
  rw [hserves]
  split_ifs
  · exact .refl _ s
  · exact ownWindow_rejectGo s q.fn
  · contradiction
  · exact ownWindow_runIdle h hw hheld

end

/-- DEVICE_STATUS shows nothing of a function's window, so that nothing follows such a change in a quiet state. -/
theorem finish_of_ownWindow {f : Nat} {s t : State} (h : OwnWindow f s t) (hs : quiet s) : finish s t = t := by
  obtain ⟨w, ht⟩ := h.frame
  have hstatus : deviceStatus t = deviceStatus s := by rw [ht]; rfl
  have harchive : ∀ e ∈ t.strands, archiveCount s (strandOf t e.1) = archiveCount t (strandOf t e.1) := by
    subst ht; exact fun _ _ => rfl
  rw [finish_of_quiet (h.quiets hs) harchive, noteStatus, if_pos (beq_iff_eq.mpr hstatus)]

/-! ### The rows -/

theorem withFormat_hold {q : MbxReq} {n : Nat} {rs : List (Nat × Nat)} {s : State} {k : Reply} (h : k.hold = none) :
    (withFormat q n rs s k).hold = none := by
  unfold withFormat
  split
  · split_ifs <;> rfl
  · exact h

/-- COUNTER_READ waits for an epoch alone. -/
theorem bodyCounterRead_hold {q : MbxReq} {s : State}
    (h : beyondAcked s (fld q 0 4) (counterValue s (fld q 0 4)) = false) : (bodyCounterRead q s).hold = none := by
  refine withFormat_hold ?_
  simp only [h, Bool.false_eq_true, if_false]
  split_ifs <;> rfl

/-- KEY_INFO waits for a slot's write alone. -/
theorem bodyKeyInfo_hold {q : MbxReq} {s : State} (h : s.writes = []) : (bodyKeyInfo q s).hold = none := by
  have hfree : fenced s (hIndex (qHandle q)) = false := by simp [fenced, h]
  refine withFormat_hold ?_
  rw [onSlot, awaitSlot_unfenced hfree]
  split_ifs
  · rfl
  · rfl
  · split
    · split_ifs <;> rfl
    · rfl

/-- The other commands that only read wait for nothing. -/
theorem body_answers : ∀ (b : MbxReq → State → Reply), b ∈ [bodyGetInfo, bodyTimeRead, bodyDriftRead, bodyLedgerRead,
    bodyContextInfo, bodyCurveList, bodyStrandList, bodyStrandStatus, bodyTrustList, bodySheafList, bodyCardStatus,
    bodyCustodyJournalRead, bodyPairStatus, bodyFieldOutputRead, bodyBaleChunkMap, bodyBaleStatus, bodyPowerStatus,
    bodyTelemetryRead, bodyModeRead, bodyAlarmStatus, bodyVigilLogRead, bodyLifecycleStatus, bodyPortStatus] →
    ∀ q s, (b q s).hold = none := by
  repeat' refine List.forall_mem_cons.mpr ⟨fun q s => withFormat_hold ?_, ?_⟩
  any_goals exact List.forall_mem_nil _
  any_goals dsimp only
  all_goals
    repeat' split
    all_goals rfl

theorem readOnly_of_unheld {c : CmdSpec} {body : MbxReq → State → Reply} (hd : c.deferred = false) (hl : isLogged c.code = false)
    (hg : ∀ q s, isGuarded s c q = false) (hk : ∀ q s, (body q s).st = s) (hh : ∀ q s, (body q s).hold = none) : ReadOnly c body :=
  ⟨hd, hl, hg, hk, fun q s _ _ => hh q s⟩

/-- Every row of `readRows` runs a command that only reads. -/
theorem readRows_readOnly : ∀ r ∈ readRows, ∃ body, (∀ q s, exec (r.2 q) s = runMbx r.1 body q s) ∧ ReadOnly r.1 body := by
  unfold readRows
  refine List.forall_mem_cons.mpr ⟨⟨_, fun _ _ => rfl,
    readOnly_of_unheld rfl rfl (fun _ _ => rfl) (body_reads _ (by simp)) (body_answers _ (by simp))⟩, ?_⟩
  refine List.forall_mem_cons.mpr ⟨⟨bodyKeyInfo, fun _ _ => rfl,
    ⟨rfl, rfl, fun _ _ => rfl, body_reads _ (by simp), fun _ _ hw _ => bodyKeyInfo_hold hw⟩⟩, ?_⟩
  refine List.forall_mem_cons.mpr ⟨⟨bodyCounterRead, fun _ _ => rfl,
    ⟨rfl, rfl, fun _ _ => rfl, body_reads _ (by simp), fun _ _ _ hb => bodyCounterRead_hold (hb rfl)⟩⟩, ?_⟩
  repeat refine List.forall_mem_cons.mpr ⟨⟨_, fun _ _ => rfl,
    readOnly_of_unheld rfl rfl (fun _ _ => rfl) (body_reads _ (by simp)) (body_answers _ (by simp))⟩, ?_⟩
  exact List.forall_mem_nil _

/-- Settles O54. -/
theorem readCommandsChangeOnlyTheirWindow : Obligations.ReadCommandsChangeOnlyTheirWindow := by
  intro c i hrow q s hs hserves hheld
  obtain ⟨body, hexec, hread⟩ := readRows_readOnly (c, i) hrow
  have hw : s.writes = [] := by
    obtain ⟨-, -, -, hw, -⟩ := hs
    exact hw
  have hown := ownWindow_goMbx hread hw hheld hserves
  obtain ⟨w, ht⟩ := hown.frame
  refine ⟨w, ?next, fun f hf => ?others⟩
  case next => rw [hexec, runMbx, done, finish_of_ownWindow hown hs, ht]
  case others => exact (congrArg (fnOf · f) ht).symm.trans (hown.others f hf)

end Sys2Proof.Machine
end

section
/-! The Hawser's frames and links (O35), the pair's timers (O36) and the Hitch (O37): each row under its guard. -/

namespace Sys2Proof.Machine

/-- A row of the pair, in a powered device, ends with its effect. -/
theorem onPair_powered {s t : State} {k : State → State} (hp : powered s = true) (hk : k s = t) :
    onPair s k = .next (finish s t) := by
  rw [onPair, if_pos hp, hk, done]

/-! ### Links and frames (R394–R397, R417) -/

section
variable {s : State} {p : Path} (hp : powered s = true)
include hp

theorem exec_hawserLinkUp_begins (hl : (pathOf s p).link = false) (hs : hawserStarted s = true) (hq : pathPowered s = true)
    (hc : ∀ k ∈ pathPorts p, (portOf s k).cfg.admin ≠ 1) :
    exec (.hawserLinkUp p) s = .next (finish s (pathBegins s p)) := by
  change execHawserLinkUp p s = _
  exact onPair_powered hp (if_neg (by simpa [hl, hs, hq] using hc))

theorem exec_hawserHello_linked (hl : (pathOf s p).link = true) (h : Hello) :
    let t := if (pathOf s p).up then pathBegins s p else s
    let u := tryUp (setPath t p { pathOf t p with peerNonce := h.nonce, hello := some h }) p
    exec (.hawserHello p h) s = .next (finish s
      (if (pathOf u p).up = true ∧ u.pair.role = .resync then sendKeyed u p hwNotice (le 2 3 ++ zeros 6) else u)) := by
  intro t u
  change execHawserHello p h s = _
  refine onPair_powered hp ?_
  rw [if_neg (by simp [hl])]
  simp only [Bool.and_eq_true, beq_iff_eq]
  rfl

theorem exec_hawserKeyex_linked (hl : (pathOf s p).link = true) (who : PeerUnit) (b : Bytes) :
    exec (.hawserKeyex p { peer := who, body := b }) s = .next (finish s (keyexFrame s p who b)) := by
  change execHawserKeyex p _ s = _
  exact onPair_powered hp (if_pos hl)

end

/-- Settles O35. -/
theorem hawserEventsAct : Obligations.HawserEventsAct := by
  refine ⟨fun p s hp => ⟨exec_hawserLinkUp_begins hp, ?down, fun h hl => exec_hawserHello_linked hp hl h,
    fun who b hl => exec_hawserKeyex_linked hp hl who b, ?beatSent⟩, fun p x s hp => ⟨fun h => ?beat, fun e k r => ?data,
    fun e n last d => ?ends, fun e => ?ack, fun v q => ?shadow, fun q => ?shadowAck, fun r => ?bulk, fun k => ?notice⟩⟩
  case down => change execHawserPathDown p s = _; exact onPair_powered hp rfl
  case beatSent => change execHeartbeatSend s = _; exact onPair_powered hp rfl
  case beat => change execHawserHeartbeat p x h s = _; exact onPair_powered hp rfl
  case data => change execHawserEpochData p x e k r s = _; exact onPair_powered hp rfl
  case ends => change execHawserEpochEnd p x e n last d s = _; exact onPair_powered hp rfl
  case notice => change execHawserNotice p x k s = _; exact onPair_powered hp rfl
  case ack =>
    change execHawserEpochAck p x e s = _
    refine onPair_powered hp ?_
    simp only [beq_iff_eq]
  case shadow =>
    change execHawserShadow p x v q s = _
    refine onPair_powered hp ?_
    simp only [bne_iff_ne, ne_eq, ite_not]
  case shadowAck =>
    change execHawserShadowAck p x q s = _
    refine onPair_powered hp ?_
    simp only [beq_iff_eq]
  case bulk =>
    change execHawserBulk p x r s = _
    refine onPair_powered hp ?_
    simp only [bne_iff_ne, ne_eq, ite_not]

/-! ### Timers of the pair -/

/-- Settles O36. -/
theorem pairTimersAct : Obligations.PairTimersAct := by
  intro s hp
  refine ⟨fun hr => ?tick, fun e at_ n rest he hr h2 => ?ack, fun hpair hreach => ?lost, fun p hpair hs hup ho => ?silent,
    fun hr hout hreach hmay => ?claim, fun hst hreach hcl => ?start, fun code tag b q at_ hheld => ?shadow,
    fun i hi hk => ?lapse, fun k hk ha => ?keyex, fun ha => ?announce⟩
  case tick =>
    change execEpochTick s = _
    exact onPair_powered hp (if_neg (by simp [hr]))
  case ack =>
    change execEpochAckTimeout s = _
    refine onPair_powered hp ?_
    rw [he]
    exact if_neg (by simp [hr, h2])
  case lost =>
    change execPeerLost s = _
    exact onPair_powered hp (if_neg (by simp [hpair, hreach]))
  case silent =>
    change execHawserPathSilent p s = _
    exact onPair_powered hp (if_neg (by simp [hpair, hs, hup, ho]))
  case claim =>
    change execPeerMayClaimTimeout s = _
    exact onPair_powered hp (if_neg (by simp [hr, hout, hreach, hmay]))
  case start =>
    change execStartPeerWaitExpiry s = _
    exact onPair_powered hp (if_neg (by simp [hst, hreach, hcl]))
  case shadow =>
    change execFieldShadowTimeout s = _
    refine onPair_powered hp ?_
    rw [hheld]
  case lapse =>
    change execPairBeginLapse s = _
    refine onPair_powered hp ?_
    rw [hi]
    exact if_neg (by simp [hk])
  case keyex =>
    change execPairKeyexTimeout s = _
    refine onPair_powered hp ?_
    rw [hk]
    exact if_neg (by simp [ha])
  case announce =>
    change execAnnouncePeriodic s = _
    exact onPair_powered hp (if_neg (by simp [ha]))

/-! ### The Hitch (R399–R402) -/

section
variable {s : State}

/-- A Standby that sees the line released begins its claim. -/
theorem hitchChange_falls (hc : s.pair.claim = .none) (hr : s.pair.role = .standby) :
    hitchChange s false = beginClaim (setPair s { s.pair with hitchIn := false, hitchSince := s.now }) := by
  simp [hitchChange, setPair, hc, hr]

/-- In a claim window an asserted line is a collision, and seat B gives way. -/
theorem hitchChange_collides {f : Nat} (hc : s.pair.claim = .window f) :
    let t := setPair s { s.pair with hitchIn := true, hitchSince := s.now, collision := true }
    hitchChange s true = if s.pair.seat = 0 then t else backOff t := by
  simp [hitchChange, setPair, hc]

end

/-- Settles O37. -/
theorem hitchActs : Obligations.HitchActs := by
  intro s hp
  refine ⟨fun hin hc hr => ?released, fun f hc hst hin => ?quiet, fun f hc hst => ⟨?quietEnds, ?windowEnds⟩,
    fun f hc hst hin hk => ?confirmed, fun u hc hin => ?backoff, fun f hc hin => ?collides, fun hr hout hin hc => ?holder⟩
  case released =>
    change execHitchInChange false s = _
    refine onPair_powered hp ?_
    rw [if_neg (by simp [hin]), hitchChange_falls hc hr]
  case quiet =>
    change execHitchQuietExpiry s = _
    refine onPair_powered hp ?_
    rw [hc]
    simp only [hst, hin, Bool.not_true, Bool.false_eq_true, if_false]
  case quietEnds =>
    change execHitchQuietExpiry s = _
    refine onPair_powered hp ?_
    rcases hc with hc | hc <;> simp [hc, hst]
  case windowEnds =>
    change execHitchClaimConfirmed s = _
    refine onPair_powered hp ?_
    rcases hc with hc | hc <;> simp [hc, hst]
  case confirmed =>
    change execHitchClaimConfirmed s = _
    refine onPair_powered hp ?_
    rw [hc]
    simp only [hst, hin, hk, Bool.not_true, Bool.false_eq_true, if_false]
  case backoff =>
    change execHitchBackoffExpiry s = _
    refine onPair_powered hp ?_
    rw [hc]
    exact if_pos (by simp [hin])
  case collides =>
    change execHitchInChange true s = _
    refine onPair_powered hp ?_
    rw [if_neg (by simp [hin]), hitchChange_collides hc]
  case holder =>
    change execHitchHolderCollision s = _
    refine onPair_powered hp ?_
    rw [if_neg (by simp [hr, hout, hin, hc])]
    simp only [beq_iff_eq]

end Sys2Proof.Machine
end

section
/-! Updates: the bale commands and UPDATE_LOCK_SET (O17), and the events of the activation and the trial (O38). -/

namespace Sys2Proof.Machine

/-! ### What admission leaves as it was (R38) -/

/-- Admission restarts the session's idle time and consumes an approval, and leaves the rest of the state. -/
theorem admitted_frame {c : CmdSpec} {q : MbxReq} {s s₀ : State} (h : admitted c q s = some s₀) :
    s₀ = { s with fns := s₀.fns, approvals := s₀.approvals } := by
  unfold admitted at h
  dsimp only at h
  split_ifs at h
  · obtain ⟨a, -, rfl⟩ := Option.map_eq_some_iff.mp h; rfl
  · cases h; rfl
  · obtain ⟨a, -, rfl⟩ := Option.map_eq_some_iff.mp h; rfl
  · cases h; rfl

theorem admitted_stewardTakes {c : CmdSpec} {q : MbxReq} {s s₀ : State} (h : admitted c q s = some s₀) :
    stewardTakes s q.fn = true := by
  unfold admitted at h
  dsimp only at h
  split at h
  · cases h
  next ht =>
  simp only [Bool.or_eq_true, Bool.not_eq_true', not_or, Bool.not_eq_false] at ht
  exact ht.1

theorem admitted_powered {c : CmdSpec} {q : MbxReq} {s s₀ : State} (h : admitted c q s = some s₀) : powered s = true := by
  have ht := admitted_stewardTakes h
  simp only [stewardTakes, stewardWorks, Bool.and_eq_true] at ht
  exact ht.1.1.1

/-! ### What the bodies of the bale commands give -/

section
variable {q : MbxReq} {s : State}

/-- BALE_BEGIN of a bale whose length is in range, where no condition refuses it, turns on the phase. -/
theorem bodyBaleBegin_checked (hf : wellFormed q 40 [(4, 4)]) (hr : firstRefusal s 6 = none) (h1 : 1 ≤ fld q 0 4)
    (h8 : fld q 0 4 ≤ 8388608) :
    bodyBaleBegin q s =
      if s.update.phase == .idle then
        beginReply (setUpdate s { s.update with
          phase := .staging, baleLen := fld q 0 4, baleId := slice q.payload 8 32, chunks := [], verified := false, fallback := false
          staged := {} }) 0
      else if s.update.baleLen == fld q 0 4 && s.update.baleId == slice q.payload 8 32 then beginReply s 1
      else reject s eState (deviceStatus s) := by
  rw [bodyBaleBegin, withFormat_ok hf, if_neg (by simp; omega), hr]

theorem bodyBaleChunk_stores {b : Bytes} (hf : wellFormed q 16 [(10, 2)]) (hk : fld q 8 2 < chunkCount s)
    (hl : fld q 12 4 = chunkLen s (fld q 8 2)) :
    bodyBaleChunk (some b) q s =
      let t := setUpdate s { s.update with
        chunks := tblSet s.update.chunks (fld q 8 2) (fit (chunkLen s (fld q 8 2)) b) }
      accept t (le 2 (chunksReceived t) ++ le 2 (chunkCount t)) := by
  rw [bodyBaleChunk, withFormat_ok hf, if_neg (Nat.not_le.mpr hk), if_neg (by simp [hl])]

theorem bodyBaleVerify_starts (hf : wellFormed q 0 []) (hr : firstRefusal s 6 = none) : bodyBaleVerify q s = accept s [] := by
  rw [bodyBaleVerify, withFormat_ok hf, hr]

theorem bodyBaleActivate_drains (hf : wellFormed q 40 [(32, 8)]) (hid : slice q.payload 0 32 = s.update.staged.baleId)
    (hr : firstRefusal s 8 = none) :
    bodyBaleActivate q s =
      accept (setUpdate s { s.update with activation := .draining q.fn ((fnOf s q.fn).opNo + 1) s.now }) [] := by
  rw [bodyBaleActivate, withFormat_ok hf, if_neg (by simp [hid]), hr]

theorem bodyUpdateLockSet_sets (hf : wellFormed q 4 [(1, 3)]) (hv : fld q 0 1 ≤ 1) :
    bodyUpdateLockSet q s = accept (setUpdate s { s.update with lock := fld q 0 1 == 1 }) [] := by
  rw [bodyUpdateLockSet, withFormat_ok hf, if_neg (by omega)]

theorem bodyBaleAbandon_drops (hf : wellFormed q 0 []) (hp : s.update.phase ≠ .trial) :
    bodyBaleAbandon q s = accept (updateEnds s 3 0) [] := by
  rw [bodyBaleAbandon, withFormat_ok hf, if_neg (by simpa using hp)]

theorem bodyBaleAbandon_reverts (hf : wellFormed q 0 []) (hp : s.update.phase = .trial) :
    bodyBaleAbandon q s = accept (revertBank s 6) [] := by
  rw [bodyBaleAbandon, withFormat_ok hf, if_pos (by simp [hp])]

end

/-! ### BALE_ABANDON (R434) -/

theorem answer_update (c : CmdSpec) (q : MbxReq) (s : State) (b : Bytes) : (answer c q s b).update = s.update := by
  obtain ⟨x, l, h⟩ := finishCmd_fns_ledger s c.code q.fn q.tag sOk 0 q.payload b
  rw [answer, h]

/-- An admitted command that answers at once, as the mailbox leaves it. -/
theorem goMbx_accepts {c : CmdSpec} {body : MbxReq → State → Reply} {q : MbxReq} {s s₀ t : State} {b : Bytes}
    (h : admitted c q s = some s₀) (hd : c.deferred = false) (hb : body q s₀ = accept t b) : goMbx c body q s = answer c q t b := by
  rw [goMbx_admitted h, hb, settleReply_accept hd]

theorem exec_baleAbandon_drops {q : MbxReq} {s s₀ : State} (h : admitted specBaleAbandon q s = some s₀) (hf : wellFormed q 0 [])
    (hp : s₀.update.phase ≠ .trial) :
    exec (.baleAbandon q) s = .next (finish s (answer specBaleAbandon q (updateEnds s₀ 3 0) [])) := by
  have hs : s.update.phase ≠ .trial := by rwa [admitted_frame h] at hp
  change execBaleAbandon q s = _
  rw [execBaleAbandon, goMbx_accepts h rfl (bodyBaleAbandon_drops hf hp), done]
  simp [hs]

theorem exec_baleAbandon_reverts {q : MbxReq} {s s₀ : State} (h : admitted specBaleAbandon q s = some s₀) (hf : wellFormed q 0 [])
    (hs : s.update.phase = .trial) :
    exec (.baleAbandon q) s = .next (finish s (coldReset (answer specBaleAbandon q (revertBank s₀ 6) []))) := by
  have hp : s₀.update.phase = .trial := by rwa [admitted_frame h]
  have hidle : (answer specBaleAbandon q (revertBank s₀ 6) []).update.phase = .idle := by rw [answer_update]; rfl
  change execBaleAbandon q s = _
  rw [execBaleAbandon, goMbx_accepts h rfl (bodyBaleAbandon_reverts hf hp), done]
  simp [hs, hidle]

/-! ### BALE_VERIFY ends (R432, R448) -/

theorem finishOp_baleVerify {s : State} {f n : Nat} {o : DefOp} (h : mayEnd s f n o 0x0A04) : finishOp s f o = endBaleVerify s f o := by
  obtain ⟨-, hcode, -, hgone, hp⟩ := h
  simp [finishOp, hgone, hcode, hp]

/-- A bale with a fault ends BALE_VERIFY with its reason. -/
theorem endBaleVerify_refused {s : State} {f r : Nat} {o : DefOp} (hm : verifyModes { fn := f } s = none)
    (hr : firstRefusal s 6 = none) (hb : baleFault s = some r) : endBaleVerify s f o = endOp s f o eUpdateRefused r [] := by
  rw [endBaleVerify, hm, hr, hb]
  rfl

/-- BALE_VERIFY of a bale without a fault, before recovery mode goes on. -/
def baleVerified (s : State) (f : Nat) (o : DefOp) : State :=
  let x := baleInfo (staged s)
  endOp (setUpdate s { s.update with phase := .staged, verified := true, staged := x }) f o sOk 0
    (le 4 x.svn ++ le 1 (maskOf (changedParts s x) 7) ++ zeros 1 ++ le 2 (pauseMs s x) ++ fit 8 (partsIdOf x.versions))

theorem endBaleVerify_keeps {s : State} {f : Nat} {o : DefOp} (hm : verifyModes { fn := f } s = none)
    (hr : firstRefusal s 6 = none) (hb : baleFault s = none) :
    endBaleVerify s f o =
      if (baleVerified s f o).update.recovery then coldReset (commitBank (baleVerified s f o)) else baleVerified s f o := by
  rw [endBaleVerify, hm, hr, hb]
  rfl

/-! ### The activation (R436) -/

section
variable {s : State} {f op since : Nat}

theorem exec_activationDrainEnd_refused {r : Nat} (hp : powered s = true) (ha : s.update.activation = .draining f op since)
    (hd : drained s f op = true) (hr : secondCheck s = some r) :
    exec .activationDrainEnd s = .next (finish s
      (endActivate (setUpdate s { s.update with activation := .none }) f op eUpdateRefused r [])) := by
  change execActivationDrainEnd s = _
  rw [execActivationDrainEnd, ha, done]
  dsimp only
  rw [if_neg (by simp [hp, hd]), hr]

theorem exec_activationDrainEnd_commits (hp : powered s = true) (ha : s.update.activation = .draining f op since)
    (hd : drained s f op = true) (hr : secondCheck s = none) :
    exec .activationDrainEnd s = .next (finish s (pauseBegins (commitBank s) f op (changedParts s s.update.staged))) := by
  change execActivationDrainEnd s = _
  rw [execActivationDrainEnd, ha, done]
  dsimp only
  rw [if_neg (by simp [hp, hd]), hr]

theorem exec_activationDrainTimeout (hp : powered s = true) (ha : s.update.activation = .draining f op since)
    (hd : drained s f op = false) :
    let t := advanceTo s (since + 200000)
    exec .activationDrainTimeout s =
      .next (finish s (endActivate (setUpdate t { t.update with activation := .none }) f op eBusy 0 [])) := by
  change execActivationDrainTimeout s = _
  rw [execActivationDrainTimeout, ha, done]
  dsimp only
  rw [if_neg (by simp [hp, hd])]

/-- The pause ends as the loading of the bank and the migration of the settings say. -/
theorem exec_activationPauseEnd (hw : stewardWorks s = true) (hm : millHolds s = false) (ha : s.update.activation = .pause f op since)
    (hat : s.update.attempt ≠ 0) (loaded migrated : Bool) :
    exec (.activationPauseEnd loaded migrated) s = .next (finish s (
      if !loaded then coldReset (revertBank s 4) else if !migrated then coldReset (revertBank s 2) else pauseEnds s f op since)) := by
  change execActivationPauseEnd loaded migrated s = _
  rw [execActivationPauseEnd, ha, done]
  dsimp only
  rw [if_neg (by simp [hw, hm]), if_neg (by simpa using hat)]

end

/-- The mailboxes open, and the update's state is as it was. -/
theorem openMailboxes_update (s : State) : (openMailboxes s).update = s.update := by
  unfold openMailboxes
  induction liveFns s generalizing s with
  | nil => rfl
  | cons f fs ih => exact ih _

/-- The end of the pause: the trial's attempt begins, with its deadline, and BALE_ACTIVATE ends (R436 step 6, R440). -/
theorem pauseEnds_trial {s : State} {f op since : Nat} {o : DefOp} :
    let t := setUpdate s { s.update with
      activation := .none, phase := .trial, deadline := s.now + 120000000, changed := [], testsPassed := [], attemptStart := s.now }
    let u := shiftTimers (openMailboxes t) (s.now - since)
    opOf u f op = some o →
    let v := endOp u f o sOk 0 (le 4 (s.now - since) ++ le 1 s.update.attempt ++ zeros 3 ++ le 8 (s.now + 120000000))
    let v := if 1 ∈ s.update.changed then endChips v 10 else v
    pauseEnds s f op since = startJobs (if v.pair.role = .resync then notice v 3 else v) := by
  intro t u ho v
  have hattempt : u.update.attempt = s.update.attempt := by
    change (openMailboxes t).update.attempt = _
    rw [openMailboxes_update]
    rfl
  have hend : endActivate u f op sOk 0 (le 4 (s.now - since) ++ le 1 u.update.attempt ++ zeros 3 ++ le 8 (s.now + 120000000)) = v := by
    rw [endActivate, ho, hattempt]
  unfold pauseEnds
  simp only [List.contains_iff_mem, beq_iff_eq]
  exact congrArg startJobs (by rw [← hend])

/-- Settles O17. -/
theorem baleCommandsComplete : Obligations.BaleCommandsComplete := by
  refine ⟨fun q s s₀ h ⟨hf, hr, h1, h8, hp⟩ => runMbx_accepts h rfl ?opens,
    fun q s s₀ h ⟨hf, hr, h1, h8, hp, hl, hid⟩ => runMbx_accepts h rfl ?same,
    fun q b s s₀ h hf hk hl => runMbx_accepts h rfl (bodyBaleChunk_stores hf hk hl),
    fun q s s₀ h hf => runMbx_accepts h rfl (withFormat_ok hf),
    fun q s s₀ h ⟨hf, hr⟩ => runMbx_begins h rfl (bodyBaleVerify_starts hf hr),
    fun f n o s h hm hr => ?verified,
    fun q s s₀ h ⟨hf, hid, hr⟩ => runMbx_begins h rfl (bodyBaleActivate_drains hf hid hr),
    fun f op since s hp ha hd => ?drained,
    fun f op since o s hw hmill ha hat => ?paused,
    fun q s s₀ h hf => runMbx_accepts h rfl (withFormat_ok hf),
    fun q s s₀ h ⟨hf, hp⟩ => exec_baleAbandon_drops h hf (by rcases hp with hp | hp <;> simp [hp]),
    fun q s s₀ h hf hp => exec_baleAbandon_reverts h hf hp,
    fun q s s₀ h ⟨hf, hv⟩ => runMbx_accepts h rfl (bodyUpdateLockSet_sets hf hv)⟩
  case opens =>
    rw [bodyBaleBegin_checked hf hr h1 h8, if_pos (by simp [hp])]
    rfl
  case same =>
    rw [bodyBaleBegin_checked hf hr h1 h8, if_neg (by rcases hp with hp | hp <;> simp [hp]), if_pos (by simp [hl, hid])]
    rfl
  case verified =>
    have hend := finishOp_baleVerify h ▸ endsWith_finishOp h
    intro x t
    cases hb : baleFault s with
    | some r => rwa [endBaleVerify_refused hm hr hb] at hend
    | none => rwa [endBaleVerify_keeps hm hr hb] at hend
  case drained =>
    intro t u v
    cases hr : secondCheck s with
    | some r => exact exec_activationDrainEnd_refused hp ha hd hr
    | none =>
      rw [exec_activationDrainEnd_commits hp ha hd hr, pauseBegins]
      simp only [List.contains_iff_mem, beq_iff_eq]
      rfl
  case paused =>
    intro t u ho v v'
    rw [exec_activationPauseEnd hw hmill ha hat, if_neg (by decide), if_neg (by decide), pauseEnds_trial ho]

/-- Settles O38. -/
theorem updateEventsAct : Obligations.UpdateEventsAct := by
  refine fun s hp => ⟨fun f op since ha => ⟨fun hd => ?drained, exec_activationDrainTimeout hp ha⟩,
    fun f op since hserves ha hat hmill => ?paused, fun ht hd => ?confirms, fun ht hd => ?fails⟩
  case drained =>
    cases hr : secondCheck s with
    | some r => exact exec_activationDrainEnd_refused hp ha hd hr
    | none => exact exec_activationDrainEnd_commits hp ha hd hr
  case paused =>
    have hw : stewardWorks s = true := by simp [stewardWorks, hp, hserves]
    simp only [exec_activationPauseEnd hw hmill ha hat, Bool.not_true, Bool.not_false, Bool.false_eq_true, if_false, if_true,
      forall_const, and_self]
  case confirms =>
    change execTrialConfirm s = _
    rw [execTrialConfirm, done]
    dsimp only
    rw [if_pos (by simp [hp, ht]; omega)]
  case fails =>
    change execTrialDeadline s = _
    rw [execTrialDeadline, if_pos (by simp [hp, ht, hd]), done]

end Sys2Proof.Machine
end

section
/-! The pairing commands and the field outputs (O16): what each command's body gives where its checks pass, how PAIR_BEGIN ends, and
the two ends of the key agreement. -/

namespace Sys2Proof.Machine

/-! ### What the bodies of the pairing commands give -/

section
variable {q : MbxReq} {s : State}

theorem bodyPairBegin_starts (hf : wellFormed q 16 [(9, 7)]) (hj : fld q 8 1 ≤ 1) : bodyPairBegin q s = accept s [] := by
  rw [bodyPairBegin, withFormat_ok hf, if_neg (by omega)]

/-- PAIR_COMPLETE for the peer that PAIR_BEGIN named, with a link and a HELLO that fits, starts the key agreement. -/
theorem bodyPairComplete_starts {i : PairIdentity} (h116 : 116 ≤ q.payload.length) (hn : fld q 8 2 = mldsaPubLen s)
    (hf : wellFormed q (116 + mldsaPubLen s) [(10, 6), (113, 3)]) (hi : s.pair.identity = some i) (hpeer : i.peer = fld q 0 8)
    (hl : anyLink s = true) (hh : helloFault s i.peer = none) :
    let k : KeyEx := { fn := q.fn, op := (fnOf s q.fn).opNo + 1, peer := i.peer, peerEcdsa := slice q.payload 16 97
                       peerMldsa := slice q.payload 116 (mldsaPubLen s), started := s.now }
    bodyPairComplete q s = accept (if i.join then sendJoiner s i k else setPair s { s.pair with keyex := some k }) [] := by
  rw [bodyPairComplete]
  dsimp only
  rw [if_neg (Nat.not_lt.mpr h116), if_neg (by simp [hn]), withFormat_ok hf, hi]
  dsimp only
  rw [if_neg (by simp [hpeer]), if_neg (by simp [hl]), hh]

theorem bodyPairSwitchover_waits (hf : wellFormed q 8 []) (hpeer : fld q 0 8 = s.pair.peerSerial) (hh : healthy s = true) :
    bodyPairSwitchover q s = { st := releaseKnotted s, hold := some (.switchover none) } := by
  rw [bodyPairSwitchover, withFormat_ok hf, if_neg (by simp [hpeer]), if_neg (by simp [hh])]

/-- PAIR_DISSOLVE of the recorded peer turns on the role. -/
theorem bodyPairDissolve_checked (hf : wellFormed q 8 []) (hpeer : fld q 0 8 = s.pair.peerSerial) :
    bodyPairDissolve q s = if s.pair.role = .active then accept (dissolveActive s) [] else accept (depart s) [] := by
  rw [bodyPairDissolve, withFormat_ok hf, if_neg (by simp [hpeer])]
  simp only [beq_iff_eq]

/-- FIELD_OUTPUT_SET drives the masked bits; with a Standby the mailbox waits for its SHADOW_ACK. -/
theorem bodyFieldOutputSet_drives (hf : wellFormed q 4 []) :
    let v := (s.pair.driven &&& (0xFFFF ^^^ fld q 0 2)) ||| (fld q 2 2 &&& fld q 0 2)
    let seq := nextSeq s.pair.fieldSeq
    let t := share (applyField s v seq) (.fieldOut v)
    bodyFieldOutputSet q s =
      if t.pair.role == .active && !t.pair.degraded && t.pair.peerReachable
      then { st := sendBoth t hwShadow (le 2 v ++ le 2 seq ++ zeros 4), hold := some (.shadow seq t.now) }
      else accept t (fieldReply t 0) := withFormat_ok hf

end

/-! ### PAIR_BEGIN ends (R416) -/

theorem finishOp_pairBegin {s : State} {f n : Nat} {o : DefOp} (h : mayEnd s f n o 0x0901) : finishOp s f o = endPairBegin s f o := by
  obtain ⟨-, hcode, -, hgone, hp⟩ := h
  have hopen : purged s = false := by simpa [closedByPurge] using hp
  simp [finishOp, hgone, hcode, hopen]

/-! ### The key agreement (R417) -/

/-- The joiner takes an answer of the length that its part has, whose signatures verify under the peer's keys, and one whose do not
ends the agreement. -/
theorem keyexFrame_joiner {s : State} {p : Path} {who : PeerUnit} {body : Bytes} {k : KeyEx} {i : PairIdentity}
    (hk : s.pair.keyex = some k) (hi : s.pair.identity = some i) (hj : i.join = true) (ha : k.agreed = false)
    (hd : peerDiffers s who = none) :
    let kem := if s.ident.optionN then 0 else 1088
    body.length = 129 + kem + (if s.ident.optionN then 96 else 3405) →
    keyexFrame s p who body =
      if keyexSignedOk s k (body.take (129 + kem)) k.mine (body.drop (129 + kem)) then takeAnswer s k (body.take (129 + kem))
      else keyexFails s k 6 := by
  intro kem hlen
  have hmsg : body.length - (if s.ident.optionN then 96 else 3405) = 129 + kem := by omega
  have htake : (body.take (129 + kem)).length = 129 + kem := by rw [List.length_take]; omega
  unfold keyexFrame
  rw [hk, hi]
  dsimp only
  rw [hd, ha, hj]
  simp only [if_true, Bool.false_eq_true, if_false, hmsg, htake]
  rw [if_neg (by simpa [kem] using hlen)]
  simp only [Bool.not_eq_true', ← Bool.not_eq_true, ite_not]

section
variable {s : State} {k : KeyEx} {msg : Bytes}

/-- The joiner's end of the agreement: the pair is recorded under the key of R417, and the unit goes to Resync. -/
theorem takeAnswer_agrees {z : Bytes} (hz : Config.agree 0x0405 (le 2 2) k.ephemeral (slice msg 32 97) = some z) :
    takeAnswer s k msg =
      let zkem := if s.ident.optionN then [] else fit 32 (Config.decaps (le 2 768) k.kem (fit 1088 (msg.drop 129)))
      keyexEnds (goResync (recordPair s k.peer (makePairKey s z zkem k.mine msg k.peer)) 1) k := by
  rw [takeAnswer, hz]

theorem takeAnswer_fails (hz : Config.agree 0x0405 (le 2 2) k.ephemeral (slice msg 32 97) = none) :
    takeAnswer s k msg = keyexFails s k 6 := by
  rw [takeAnswer, hz]

end

/-- The source's claim is confirmed: its key agreement ends. -/
theorem exec_hitchClaimConfirmed_agreed {s : State} {f : Nat} {k : KeyEx} (hp : powered s = true) (hc : s.pair.claim = .window f)
    (hst : claimStands s = true) (hin : s.pair.hitchIn = false) (hk : (takeOver (advanceTo s (f + 20))).pair.keyex = some k)
    (ha : k.agreed = true) :
    exec .hitchClaimConfirmed s = .next (finish s (keyexEnds (takeOver (advanceTo s (f + 20))) k)) := by
  change execHitchClaimConfirmed s = _
  refine onPair_powered hp ?_
  rw [hc]
  simp only [hst, hin, hk, ha, Bool.not_true, Bool.false_eq_true, if_false, if_true]

/-- Settles O16. -/
theorem pairAndFieldCommandsComplete : Obligations.PairAndFieldCommandsComplete := by
  refine ⟨⟨fun q s s₀ h ⟨hf, hj⟩ => runMbx_begins h rfl (bodyPairBegin_starts hf hj), fun f n o s h => ?made,
    fun q s s₀ i h h116 hn hf hi hpeer hl hh => ?completes, fun p who body k i s hp hl hk hi hj ha hd => ?joins,
    fun f k s hp hc hst hin => ?confirmed, fun q s s₀ h hf => runMbx_accepts h rfl (withFormat_ok hf),
    fun q s s₀ h ⟨hf, hpeer, hh⟩ => runMbx_waits h (bodyPairSwitchover_waits hf hpeer hh),
    fun q s s₀ h ⟨hf, hpeer, hr⟩ => runMbx_accepts h rfl ((bodyPairDissolve_checked hf hpeer).trans (if_pos hr)),
    fun q s s₀ h ⟨hf, hpeer, hr⟩ => runMbx_accepts h rfl ((bodyPairDissolve_checked hf hpeer).trans (if_neg hr))⟩,
    fun q s s₀ h hf => ?fieldSet, fun q s s₀ h hf => runMbx_accepts h rfl (withFormat_ok hf)⟩
  case made =>
    intro join hl hh ec ml mlPub i
    have hend := finishOp_pairBegin h ▸ endsWith_finishOp h
    rw [endPairBegin, hl] at hend
    simp only [hh] at hend
    exact hend
  case completes =>
    intro k
    change execPairComplete q s = _
    rw [execPairComplete, goMbx_admitted h, bodyPairComplete_starts h116 hn hf hi hpeer hl hh, settleReply_begins rfl, done]
  case joins =>
    intro kem sigs msg hlen zkem
    change execHawserKeyex p _ s = _
    refine onPair_powered hp ?_
    refine ((if_pos hl).trans (keyexFrame_joiner hk hi hj ha hd hlen)).trans (if_congr Iff.rfl ?answer rfl)
    cases hz : Config.agree 0x0405 (le 2 2) k.ephemeral (slice msg 32 97) with
    | some z => exact takeAnswer_agrees hz
    | none => exact takeAnswer_fails hz
  case confirmed =>
    intro t hk ha
    exact exec_hitchClaimConfirmed_agreed hp hc hst hin hk ha
  case fieldSet =>
    intro v seq t
    have hbody : bodyFieldOutputSet q s₀ = _ := bodyFieldOutputSet_drives hf
    split_ifs at hbody ⊢
    · exact runMbx_waits h hbody
    · exact runMbx_accepts h rfl hbody

end Sys2Proof.Machine
end

section
/-! The power and mode commands (O18), and rails and feeds (O43). Events, reports and frames that leave a gate change nothing of the
Grange's state. -/

namespace Sys2Proof.Machine

/-! ### What leaves the Grange's state as it was -/

theorem foldl_power {β : Type} {f : State → β → State} (h : ∀ s b, (f s b).power = s.power) (l : List β) (s : State) :
    (l.foldl f s).power = s.power := by
  induction l generalizing s with
  | nil => rfl
  | cons b l ih => rw [List.foldl_cons, ih, h]

section
variable (s : State)

@[simp] theorem signal_power (f v : Nat) : (signal s f v).power = s.power := by
  obtain ⟨x, hx⟩ := signal_fns s f v
  rw [hx]

@[simp] theorem writeEntry_power (f r : Nat) (v : Event) (off : Nat) : (writeEntry s f r v off).power = s.power := by
  simp only [writeEntry]
  split_ifs <;> simp

@[simp] theorem flush_power (fuel f r : Nat) : (flush fuel s f r).power = s.power := by
  induction fuel generalizing s with
  | zero => rfl
  | succ fuel ih =>
    unfold flush
    dsimp only
    split_ifs
    · rfl
    · rw [ih, writeEntry_power]; rfl
    · split
      · rw [ih, writeEntry_power]; rfl
      · rfl

@[simp] theorem postEvent_power (f r : Nat) (v : Event) : (postEvent s f r v).power = s.power := flush_power _ _ f r

@[simp] theorem powerEvent_power (kind old new value : Nat) : (powerEvent s kind old new value).power = s.power :=
  postEvent_power s 0 0 _

@[simp] theorem note_power (type : Nat) (data : Bytes) : (note s type data).power = s.power := by
  rw [note, ledger_eq]

@[simp] theorem powerNote_power (value : Nat) : (powerNote s value).power = s.power := note_power s 0xF00C _

@[simp] theorem report_power (m v : Nat) : (report s m v).power = s.power := by
  simp only [report, toDecide]
  split_ifs <;> rfl

@[simp] theorem feedReport_power (old value : Nat) : (feedReport s old value).power = s.power := by
  simp only [feedReport, powerNote_power, powerEvent_power, setMonitor_power, report_power]

@[simp] theorem postStrand_power (i kind : Nat) (v : Event) : (postStrand s i kind v).power = s.power := by
  unfold postStrand
  refine foldl_power ?_ _ s
  intro s u
  exact postEvent_power s u.client u.ring v

@[simp] theorem changeState_power (i : Nat) (v : StrandState) (reason : Nat) : (changeState s i v reason).power = s.power :=
  postStrand_power _ i 2 _

@[simp] theorem share_power (r : CopyRecord) : (share s r).power = s.power := by
  unfold share
  split_ifs <;> rfl

@[simp] theorem eraseKey_power (i : Nat) : (eraseKey s i).power = s.power := share_power _ _

@[simp] theorem eraseIfHeld_power (i : Nat) : (eraseIfHeld s i).power = s.power := by
  unfold eraseIfHeld
  split_ifs <;> simp

@[simp] theorem eraseBanks_power (i : Nat) : (eraseBanks s i).power = s.power := by simp [eraseBanks, eraseBank]

@[simp] theorem countPort_power (p k n : Nat) : (countPort s p k n).power = s.power := by simp [countPort]

@[simp] theorem startTx_power (p : Nat) : (startTx s p).power = s.power := by
  unfold startTx
  dsimp only
  split_ifs
  · rfl
  · split
    · rfl
    · split <;> simp only [countPort_power, setPort_power]

@[simp] theorem sendCtrl_power (p : Nat) (x : TxFrame) : (sendCtrl s p x).power = s.power := startTx_power _ p

@[simp] theorem sendData_power (p : Nat) (x : TxFrame) : (sendData s p x).power = s.power := startTx_power _ p

@[simp] theorem takeInvocation_power (i : Nat) : (takeInvocation s i).2.power = s.power := by
  obtain ⟨k, w, p, h, -⟩ := takeInvocation_rest s i
  rw [h]

@[simp] theorem emitHub_power (i : Nat) (m : HubMsg) : (emitHub s i m).power = s.power := by
  unfold emitHub
  dsimp only
  split
  · rfl
  · split_ifs <;> simp

@[simp] theorem sendHub_power (i kind : Nat) (payload aux : Bytes) : (sendHub s i kind payload aux).power = s.power := by
  simp only [sendHub, hubFrame]
  split_ifs <;> simp

@[simp] theorem finishClose_power (i : Nat) : (finishClose s i).power = s.power := by
  simp only [finishClose, sendMsg]
  split_ifs <;> simp

@[simp] theorem releaseItem_power (i : Nat) (g : GateItem) : (releaseItem s i g).power = s.power := by
  cases g with
  | sealed x rec =>
    simp only [releaseItem]
    split_ifs <;> simp
  | knot r =>
    simp only [releaseItem, sendAck]
    cases r.enc <;> split_ifs <;> simp

@[simp] theorem drainGate_power (fuel i : Nat) : (drainGate fuel s i).power = s.power := by
  induction fuel generalizing s with
  | zero => rfl
  | succ fuel ih =>
    unfold drainGate
    dsimp only
    split
    · rfl
    · split_ifs
      · rfl
      · rw [ih, releaseItem_power]; rfl

@[simp] theorem releaseKnotted_power : (releaseKnotted s).power = s.power :=
  foldl_power (fun s i => drainGate_power s _ i) _ s

end

/-! ### POWER_STATE_SET (R461, R462) -/

section
variable {q : MbxReq} {s s₀ : State}

theorem answer_power (c : CmdSpec) (q : MbxReq) (s : State) (b : Bytes) : (answer c q s b).power = s.power := by
  obtain ⟨x, l, h⟩ := finishCmd_fns_ledger s c.code q.fn q.tag sOk 0 q.payload b
  rw [answer, h]

/-- A powered device is in Active or Drowse. -/
theorem notVigil_of_powered (h : powered s = true) : s.power.state ≠ .vigil := by
  intro hv
  simp [powered, hv] at h

theorem leaveDrowse_notVigil (h : s.power.state ≠ .vigil) : (leaveDrowse s).power.state ≠ .vigil := by
  unfold leaveDrowse
  split_ifs
  · exact h
  · rw [powerEvent_power]
    exact nofun

theorem enterDrowse_state : (enterDrowse s).power.state = .drowse := by
  unfold enterDrowse
  split_ifs with hd
  · exact beq_iff_eq.mp hd
  · rw [powerEvent_power]
    rfl

theorem bodyPowerStateSet_active (hf : wellFormed q 4 [(1, 3)]) (hv : fld q 0 1 = 0) :
    bodyPowerStateSet q s = accept (leaveDrowse s) [] := by
  simp only [bodyPowerStateSet, withFormat_ok hf, hv]

theorem bodyPowerStateSet_drowse (hf : wellFormed q 4 [(1, 3)]) (hv : fld q 0 1 = 1) :
    bodyPowerStateSet q s = accept (enterDrowse s) [] := by
  simp only [bodyPowerStateSet, withFormat_ok hf, hv]

theorem bodyPowerStateSet_vigil (hf : wellFormed q 4 [(1, 3)]) (hv : fld q 0 1 = 2)
    (hr : s.pair.role = .active → healthy s = false ∧ (s.pair.peerReachable && s.pair.peerRole == 2) = false) :
    bodyPowerStateSet q s = accept (setPower s { s.power with state := .vigil }) [] := by
  rw [bodyPowerStateSet, withFormat_ok hf, hv]
  by_cases ha : s.pair.role = .active
  · obtain ⟨hh, hpeer⟩ := hr ha
    simp only [Bool.and_assoc, hh, hpeer, Bool.and_false, Bool.false_eq_true, if_false]
  · simp [ha]

theorem bodyPowerStateSet_switches (hf : wellFormed q 4 [(1, 3)]) (hv : fld q 0 1 = 2) (hr : s.pair.role = .active)
    (hh : healthy s = true) :
    bodyPowerStateSet q s = { st := releaseKnotted s, hold := some (.switchover none) } := by
  rw [bodyPowerStateSet, withFormat_ok hf, hv]
  simp [hr, hh]

/-- A command that does not lead to Vigil by itself ends as the mailbox leaves it. -/
theorem exec_powerStateSet_stays {t : State} (hg : goMbx specPowerStateSet bodyPowerStateSet q s = t) (ht : t.power.state ≠ .vigil) :
    exec (.powerStateSet q) s = .next (finish s t) := by
  change execPowerStateSet q s = _
  rw [execPowerStateSet, hg, if_neg (by simp [ht]), done]

/-- Into Vigil the rails go off after the response. -/
theorem exec_powerStateSet_shutsDown {t : State} (hg : goMbx specPowerStateSet bodyPowerStateSet q s = t) (hp : powered s = true)
    (ht : t.power.state = .vigil) :
    exec (.powerStateSet q) s = .next (finish s (shutdown (setPower t { t.power with state := s.power.state }))) := by
  change execPowerStateSet q s = _
  rw [execPowerStateSet, hg, if_pos (by simp [hp, ht]), done]

theorem admitted_power {c : CmdSpec} (h : admitted c q s = some s₀) : s₀.power = s.power := by rw [admitted_frame h]

theorem bodyCompatSet_sets (hf : wellFormed q 4 [(1, 3)]) (hv : fld q 0 1 ≤ 2) :
    bodyCompatSet q s = accept (share (setScarecrow s { s.scarecrow with compat := fld q 0 1 }) (.compat (fld q 0 1))) [] := by
  rw [bodyCompatSet, withFormat_ok hf, if_neg (by omega)]

end

/-- Settles O18. -/
theorem powerCommandsComplete : Obligations.PowerCommandsComplete := by
  refine ⟨fun q s s₀ h ⟨hf, hv⟩ => ?active, fun q s s₀ h ⟨hf, hv⟩ => ?drowse, fun q s s₀ h hf hv hr => ?vigil,
    fun q s s₀ h ⟨hf, hv, hr, hh⟩ => ?switches,
    fun q s s₀ h hf => runMbx_accepts h rfl (withFormat_ok hf), fun q s s₀ h hf => runMbx_accepts h rfl (withFormat_ok hf),
    fun q s s₀ h ⟨hf, hv⟩ => runMbx_accepts h rfl (bodyCompatSet_sets hf hv),
    fun q s s₀ h hf => runMbx_accepts h rfl (withFormat_ok hf)⟩
  case active =>
    have hs₀ : s₀.power.state ≠ .vigil := admitted_power h ▸ notVigil_of_powered (admitted_powered h)
    refine exec_powerStateSet_stays (goMbx_accepts h rfl (bodyPowerStateSet_active hf hv)) ?_
    rw [answer_power]
    exact leaveDrowse_notVigil hs₀
  case drowse =>
    refine exec_powerStateSet_stays (goMbx_accepts h rfl (bodyPowerStateSet_drowse hf hv)) ?_
    rw [answer_power, enterDrowse_state]
    decide
  case vigil =>
    intro t
    refine exec_powerStateSet_shutsDown (goMbx_accepts h rfl (bodyPowerStateSet_vigil hf hv hr)) (admitted_powered h) ?_
    rw [answer_power]
    rfl
  case switches =>
    have hs₀ : s₀.power.state ≠ .vigil := admitted_power h ▸ notVigil_of_powered (admitted_powered h)
    refine exec_powerStateSet_stays ((goMbx_admitted h).trans (by rw [bodyPowerStateSet_switches hf hv hr hh, settleReply_waits])) ?_
    simpa [waitsFor] using hs₀

/-! ### Rails (R456, R457) -/

section
variable {s : State} {r : Rail}

/-- The tick with which the always-on domain starts is the tick and the almanac alone. -/
theorem resumeTick_frame (s : State) : ∃ n a, resumeTick s = { s with now := n, almanac := a } := by
  unfold resumeTick
  dsimp only
  split_ifs <;> exact ⟨_, _, rfl⟩

theorem resumeTick_production (h : s.life.lifecycle = lcProduction) (he : s.almanac.newEpoch = false) :
    resumeTick s = { s with now := s.almanac.store + 1000000, almanac := { s.almanac with timeLost := true, lowRate := true } } := by
  unfold resumeTick
  dsimp only
  rw [if_neg (by rw [h]; decide), if_pos (by rw [h, he]; decide)]

theorem resumeTick_now_eq_zero (h : s.life.lifecycle = lcBlank ∨ s.life.lifecycle = lcTest) : (resumeTick s).now = 0 := by
  unfold resumeTick
  dsimp only
  have hp : s.life.lifecycle ≠ lcProduction := by obtain h | h := h <;> rw [h] <;> decide
  have he : s.life.lifecycle ≠ lcEndOfLife := by obtain h | h := h <;> rw [h] <;> decide
  rw [if_neg (by simp [he]), if_neg (by simp [hp])]

theorem exec_powerArrival (h : s.power.state = .off) :
    exec .powerArrival s = .next (finish s (startRails (setScarecrow (setPower (resumeTick s) { s.power with
      state := .vigil, vauxOk := true, feedAOk := true, feedBOk := true, switchA := true, switchB := true, railHold := false
      railFaults := 0 }) { s.scarecrow with onVbat := false }))) := by
  change execPowerArrival s = _
  obtain ⟨n, a, ht⟩ := resumeTick_frame s
  rw [execPowerArrival, if_neg (by simp [h]), done, ht]
  rfl

theorem exec_railGood (h : s.power.railStarting = some r) :
    exec (.railGood r) s = .next (finish s (if r = .vser
      then setPower (atT0 s) { s.power with
        railsGood := s.power.railsGood ++ [r], railStarting := nextRail r, railFaults := 0, state := .active }
      else setPower s { s.power with railsGood := s.power.railsGood ++ [r], railStarting := nextRail r })) := by
  change execRailGood r s = _
  rw [execRailGood, if_neg (by simp [h]), done]
  cases r <;> rfl

theorem exec_railGoodTimeout_again (h : s.power.railStarting = some r) (hn : s.power.railFaults < 2) :
    exec (.railGoodTimeout r) s = .next (finish s (setPower s { s.power with
      railsGood := [], railStarting := none, railFaults := s.power.railFaults + 1, retryAt := s.now + 1000000 })) := by
  change execRailGoodTimeout r s = _
  rw [execRailGoodTimeout, if_neg (by simp [h]), if_pos (by omega), done]

theorem exec_railGoodTimeout_third (h : s.power.railStarting = some r) (hn : 2 ≤ s.power.railFaults) :
    exec (.railGoodTimeout r) s = .next (finish s (setPower s { s.power with
      railsGood := if r = .vio then [] else [.vio], railStarting := none, railFaults := s.power.railFaults + 1, railHold := true
      retryAt := 0 })) := by
  change execRailGoodTimeout r s = _
  rw [execRailGoodTimeout, if_neg (by simp [h]), if_neg (by omega), done]
  cases r <;> rfl

theorem shedPhase_some {k : Nat} {p : Power} (h : shed s.power r k = some p) :
    shedPhase s r k =
      let n := powerNo s.power.state
      let t := powerNote (powerEvent (report (setPower s p) 3 k) 3 n n k) k
      if tooFewPhases p then shutdown t else t := by
  rw [shedPhase, h]

/-! ### Feeds (R453–R455) -/

theorem feedReport_anyFeed (old value : Nat) : anyFeed (feedReport s old value) = anyFeed s := by
  rw [anyFeed, feedReport_power, anyFeed]

section
variable {f : Feed}

@[simp] theorem powered_setFeed (s : State) (f : Feed) (ok : Bool) : powered (setFeed s f ok) = powered s := by cases f <;> rfl

@[simp] theorem setFeed_vauxOk (s : State) (f : Feed) (ok : Bool) : (setFeed s f ok).power.vauxOk = s.power.vauxOk := by
  cases f <;> rfl

theorem feedOk_of_noFeed (h : anyFeed s = false) : feedOk s f = false := by
  obtain ⟨ha, hb⟩ := Bool.or_eq_false_iff.mp h
  cases f
  · exact ha
  · exact hb

/-- With the other feed in range, the loss of a feed is its report and nothing else. -/
theorem exec_feedLost_reports (hf : feedOk s f = true) (hany : anyFeed (setFeed s f false) = true) (hp : powered s = true)
    (ho : s.power.state ≠ .off) :
    exec (.feedLost f) s = .next (finish s (feedReport (setFeed s f false) (feedBits s) (feedValue f))) := by
  change execFeedLost f s = _
  rw [execFeedLost, if_neg (by simp [hf, ho])]
  simp only [powered_setFeed, hp, if_true, feedReport_anyFeed, hany, done]

theorem exec_feedReturn_reports (hf : feedOk s f = false) (hp : powered s = true) (ho : s.power.state ≠ .off) :
    exec (.feedReturn f) s = .next (finish s (feedReport (setFeed s f true) (feedBits s) (feedValue f))) := by
  change execFeedReturn f s = _
  rw [execFeedReturn, if_neg (by simp [hf, ho]), if_pos (by rw [powered_setFeed, hp]), done]

theorem exec_feedReturn_starts (hf : anyFeed s = false) (hp : powered s = false) (ho : s.power.state ≠ .off)
    (hv : s.power.vauxOk = true) :
    exec (.feedReturn f) s = .next (finish s (startRails (setFeed s f true))) := by
  change execFeedReturn f s = _
  rw [execFeedReturn, if_neg (by simp [feedOk_of_noFeed hf, ho]), if_neg (by simp [hp]), if_pos (by simp [hf, hv]), done]

end

theorem exec_switchFaultRetry_a (ha : s.power.feedAOk = false) (hp : powered s = true) (ho : s.power.state ≠ .off) :
    exec (.switchFaultRetry .a) s =
      let t := setPower s { s.power with feedAOk := false, switchA := false, switchFault := true }
      .next (finish s (report (setMonitor t 0x1E { monitorOf t 0x1E with active := false, applied := 0 }) 0x1E 4)) := by
  change execSwitchFaultRetry .a s = _
  have hp' : powered (setPower (setFeed s .a false) { (setFeed s .a false).power with switchFault := true }) = true := hp
  rw [execSwitchFaultRetry, if_neg (by simp [feedOk, ha, ho]), if_pos hp', done]
  rfl

theorem exec_railFaultRetry (ht : s.power.retryAt ≠ 0) (hh : s.power.railHold = false) (hp : powered s = false)
    (hf : anyFeed s = true) (hv : s.power.vauxOk = true) :
    exec .railFaultRetry s = .next (finish s (startRails (advanceTo s s.power.retryAt))) := by
  change execRailFaultRetry s = _
  rw [execRailFaultRetry, if_neg (by simp [ht, hh, hp, hf, hv]), done]

theorem exec_phaseFault (hp : powered s = true) (k : Nat) : exec (.phaseFault r k) s = .next (finish s (shedPhase s r k)) := by
  change execPhaseFault r k s = _
  rw [execPhaseFault, if_pos hp, done]

theorem exec_phaseImbalance (hp : powered s = true) (k : Nat) :
    exec (.phaseImbalance r k) s = .next (finish s (shedPhase s r k)) := by
  change execPhaseImbalance r k s = _
  rw [execPhaseImbalance, if_pos hp, done]

end

/-- Settles O43. -/
theorem railAndFeedEventsAct : Obligations.RailAndFeedEventsAct := by
  refine ⟨fun s h => ⟨exec_powerArrival h, resumeTick_production, resumeTick_now_eq_zero⟩,
    fun r s h => ⟨exec_railGood h, exec_railGoodTimeout_again h, exec_railGoodTimeout_third h⟩,
    fun s => exec_railFaultRetry, fun r k p s hp hs => ?phase, fun s ha hb => exec_feedLost_reports (f := .a) ha hb,
    fun s => exec_feedReturn_reports (f := .a),
    fun s _ hp ho hf => exec_feedReturn_starts (f := .b) hf hp ho, fun s => exec_switchFaultRetry_a⟩
  case phase =>
    rw [exec_phaseFault hp, exec_phaseImbalance hp, shedPhase_some hs]
    exact ⟨rfl, rfl⟩

end Sys2Proof.Machine
end

section
/-! The Scarecrow's events (O45). -/

namespace Sys2Proof.Machine

section
variable {s : State} {m v : Nat}

theorem sampled_reports (h : m = 0x1F → v ≠ 2 ∨ s.scarecrow.compat = 0) : sampled s m v = report s m v := by
  rw [sampled_eq, if_neg]
  rintro ⟨hm, hv, hc⟩
  obtain hv' | hc' := h hm
  · exact hv' hv
  · exact hc hc'

theorem sampled_badCode (h : s.scarecrow.compat ≠ 0) : sampled s 0x1F 2 = badCode s := by
  rw [sampled_eq, if_pos ⟨rfl, rfl, h⟩]

/-- A powered device samples each of its monitors but the one in reserve (R339, R344). -/
theorem exec_monitorEvent (hm : m < 32) (hr : m ≠ 0x0F) (hp : powered s = true) :
    exec (.monitorEvent m v) s = .next (finish s (monitorSide (sampled s m v) m v)) := by
  change execMonitorEvent m v s = _
  rw [execMonitorEvent, if_neg (by simp [hm, hr, hp]), done]

theorem exec_monitorCauseCleared (hm : m < 32) (ha : (monitorOf s m).active = true) :
    exec (.monitorCauseCleared m) s =
      let t := setMonitor s m { monitorOf s m with active := false, applied := 0 }
      let u := if m = 0x14 then setScarecrow t { t.scarecrow with motion := some (t.now + 600000000) } else t
      .next (finish s (if 2 ≤ (monitorOf s m).applied then enterThrottle u else u)) := by
  change execMonitorCauseCleared m s = _
  rw [execMonitorCauseCleared, done]
  simp only [beq_iff_eq]
  rw [if_neg (by simp [hm, ha])]

theorem exec_throttleEnd (ht : s.scarecrow.throttled = true) (hc : causesLevel s < 2) :
    exec .throttleEnd s =
      let t := advanceTo s s.scarecrow.throttleEnd
      .next (finish s (setScarecrow t { t.scarecrow with throttled := false })) := by
  change execThrottleEnd s = _
  rw [execThrottleEnd, if_pos (by simp [ht, hc]), done]

theorem exec_escalationWindowEnd {first : Nat} {rest : List Nat} (h : (monitorOf s m).recent = first :: rest) :
    exec (.escalationWindowEnd m) s =
      let t := advanceTo s first
      .next (finish s (setMonitor t m { monitorOf t m with recent := (monitorOf t m).recent.filter (fun u => t.now < u) })) := by
  change execEscalationWindowEnd m s = _
  rw [execEscalationWindowEnd, h, done]

theorem exec_loftKeyReload (h : s.scarecrow.reload ≠ 0) (hp : powered s = true) :
    exec .loftKeyReload s = .next (finish s (setScarecrow (draw s) { s.scarecrow with
      custodyValid := true, rootValid := s.scarecrow.rootValid || s.scarecrow.reload == 5, reload := 0 })) := by
  change execLoftKeyReload s = _
  rw [execLoftKeyReload, if_neg (by simp [h, hp]), done]

theorem exec_zerofillDone (hz : s.scarecrow.zerofill ≠ 0) (he : s.scarecrow.zerofillEnd ≠ 0) (hr : s.scarecrow.reload = 0)
    (hp : powered s = true) :
    exec .zerofillDone s =
      let t := reactivateSlots (setScarecrow s { s.scarecrow with zerofill := 0, zerofillEnd := 0 })
      .next (finish s (if t.update.resetAfterFill then coldReset t else t)) := by
  change execZerofillDone s = _
  rw [execZerofillDone, if_neg (by simp [hz, he, hr, hp]), done]

theorem exec_watchdogRefresh (ha : s.scarecrow.wdogArmed = true) (hw : stewardWorks s = true) :
    exec .watchdogRefresh s =
      let t := advanceTo s (s.scarecrow.lastRefresh + 100)
      .next (finish s (setScarecrow t { t.scarecrow with lastRefresh := t.now })) := by
  change execWatchdogRefresh s = _
  rw [execWatchdogRefresh, if_pos (by simp [ha, hw]), done]

theorem exec_watchdogExpiry (ha : s.scarecrow.wdogArmed = true) (hp : powered s = true) (hh : 0 ∉ s.lanyard.halted) :
    exec .watchdogExpiry s =
      let t := releaseHitch (advanceTo s (s.scarecrow.lastRefresh + 1000))
      let u := logWatchdog
        (setScarecrow (setPair t { t.pair with driven := 0 }) { t.scarecrow with wdogArmed := false, wdogFired := true })
      .next (finish s (setPower u { u.power with resetPending := true, resetAt := u.now + 10000 })) := by
  change execWatchdogExpiry s = _
  rw [execWatchdogExpiry, if_pos (by simp [ha, hp, hh]), done]
  rfl

end

/-- Settles O45. -/
theorem alarmEventsAct : Obligations.AlarmEventsAct := by
  refine ⟨fun m v s hm hr hp hc => ?reported, fun s hp hc => ?invalidCode, fun v s => rfl, fun m s => exec_monitorCauseCleared,
    fun s => exec_throttleEnd, fun m first rest s => exec_escalationWindowEnd, fun s => exec_loftKeyReload, fun s => exec_zerofillDone,
    fun s => exec_watchdogRefresh, fun s => exec_watchdogExpiry⟩
  case reported => rw [exec_monitorEvent hm hr hp, sampled_reports hc]
  case invalidCode =>
    rw [exec_monitorEvent (by decide) (by decide) hp, sampled_badCode hc]
    rfl

end Sys2Proof.Machine
end
